-- ==== Sys2Proof/Word.lean ====
section
/-!
DEFINITION. The plain words of the TD-62 model: a line character, a converter code, and fixed-length
tables with an update at one place.
-/

namespace Sys2Proof

/-- A character on the host link or the station bus (R129, R174): 8 data bits. -/
abbrev Ch := BitVec 8

/-- One conversion result (R110): a 12-bit code. -/
abbrev Code := BitVec 12

/-- The tag of a request (R178): two characters, each a digit or A to F. It is kept as the number they write. -/
abbrev Tag := BitVec 8

/-- A handle (R4), 1 to 255. -/
abbrev Handle := Nat

/-- `v` with the entry at `i` replaced by `f` of it. -/
def modAt {α : Type} {n : Nat} (v : Vector α n) (i : Fin n) (f : α → α) : Vector α n :=
  Vector.ofFn fun j => if j = i then f v[j] else v[j]

/-- `v` with every entry replaced by `f` of its place and itself. -/
def mapAt {α β : Type} {n : Nat} (v : Vector α n) (f : Fin n → α → β) : Vector β n :=
  Vector.ofFn fun j => f j v[j]

end Sys2Proof
end

