-- ==== Sys2Proof/Syntax.lean ====
section
/-!
DEFINITION. The commands the TD-62 takes from outside: one constructor of `Instr` for each row of the
table of operations and events, with the operands a sender must give. A command is a request on the host
link, a character or a condition of a line, a sample of an input, a scan of the converter, a judgement on
the station bus, or the passing of one of the part's timers.
-/

namespace Sys2Proof

/-- The two sides of the body (R1, R93). -/
inductive Side where
  | near
  | off
deriving DecidableEq, Repr

/-- The three switches of a side door (R31, R94). -/
inductive Switch where
  | closed
  | latched
  | opened
deriving DecidableEq, Repr

/-- The debounced discrete inputs (R31). -/
inductive DInput where
  | park
  | ign
  | engine
  | master
  | oilhot
  | door (side : Side) (sw : Switch)
deriving DecidableEq, Repr

/-- The five beacon channels (R149 to R154). -/
inductive Lamp where
  | b0
  | b1
  | b2
  | b3
  | snd
deriving DecidableEq, Repr

/-- Every input whose raw level the part samples (R31, R32, R56, R156): the debounced ones, ESTOP, PUMP_FB and the
drive read-backs of the beacon channels. A level is `true` for active, applied, on or closed. That a read-back comes
by the row of the raw levels is a DESIGN CHOICE, log entry 19. -/
inductive RawInput where
  | debounced (d : DInput)
  | estop
  | pumpFb
  | readBack (l : Lamp)
deriving DecidableEq, Repr

/-- What a lamp driver's diagnostic shows (R155). -/
inductive Diag where
  | normal
  | openLoad
  | short
deriving DecidableEq, Repr

/-- A field of a record on the host link (R179). `bad` is text between two commas that fits none of the
three forms. -/
inductive Field where
  | num (n : Int)
  | word (w : String)
  | wnum (w : String) (n : Int)
  | bad (text : List Ch)
deriving DecidableEq, Repr

/-- The names of the requests (R178, step 4). -/
inductive ReqName where
  | move
  | seqn
  | canc
  | halt
  | resm
  | qrec
  | plan
  | calp
  | beac
  | cntr
  | note
  | getv
  | setv
  | save
  | link
  | live
  | stat
deriving DecidableEq, Repr

/-- A request on the host link that has passed the check, tag, name and known-name steps of R178. -/
structure Request where
  tag : Tag
  name : ReqName
  fields : List Field
deriving DecidableEq, Repr

/-- The ten codes of one scan (R110), CH0 first. -/
abbrev Scan := Vector Code 10

/-- The commands. In a request row `t` is the tag and `fs` the fields that stand after those the row itself
names: after the name for most rows, after the operation or group word for `CANC_ALL`, the `CNTR` rows and
the `STAT` rows. -/
inductive Instr where
  -- start-up
  | powerOnReset (strap : Bool)
  | resetPin (strap : Bool)
  | imageReadEnd
  -- the host link
  | characterReceived (c : Ch) (framing : Bool)
  | haltCharacter
  | lineBreak
  | rejectedRecord (text : List Ch)
  | transmitCharacterSent
  -- requests
  | move (t : Tag) (fs : List Field)
  | seqn (t : Tag) (fs : List Field)
  | canc (t : Tag) (fs : List Field)
  | cancAll (t : Tag) (fs : List Field)
  | halt (t : Tag) (fs : List Field)
  | resm (t : Tag) (fs : List Field)
  | qrec (t : Tag) (fs : List Field)
  | plan (t : Tag) (fs : List Field)
  | calp (t : Tag) (fs : List Field)
  | calpCompletion (codes : Scan)
  | beac (t : Tag) (fs : List Field)
  | beacClear (t : Tag) (lamp : Field) (fs : List Field)
  | cntrRead (t : Tag) (fs : List Field)
  | cntrClear (t : Tag) (fs : List Field)
  | cntrSetup (t : Tag) (fs : List Field)
  | cntrFreeze (t : Tag) (fs : List Field)
  | cntrThaw (t : Tag) (fs : List Field)
  | note (t : Tag) (fs : List Field)
  | getv (t : Tag) (fs : List Field)
  | setv (t : Tag) (fs : List Field)
  | save (t : Tag) (fs : List Field)
  | link (t : Tag) (fs : List Field)
  | live (t : Tag) (fs : List Field)
  | statAxes (t : Tag) (fs : List Field)
  | statDoors (t : Tag) (fs : List Field)
  | statSupply (t : Tag) (fs : List Field)
  | statCond (t : Tag) (fs : List Field)
  | statPlan (t : Tag) (fs : List Field)
  | statStations (t : Tag) (fs : List Field)
  | statBeacons (t : Tag) (fs : List Field)
  | statPart (t : Tag) (fs : List Field)
  | statLink (t : Tag) (fs : List Field)
  -- timers of the link and of the records
  | supervisionTimerExpiry
  | waitLimitExpiry (h : Handle)
  | leadTimeExpiry (h : Handle)
  | holdTimerExpiry (h : Handle)
  -- inputs
  | inputCountedChange (ins : List DInput)
  | estopActive
  | estopReleaseCounted
  | speedComputation
  -- the power pack and the supply
  | contactorMade
  | contactorMakeTimeout
  | contactorDropout
  | weldedContactor
  | pumpRestPassed
  | pumpOvercurrent
  | supplyStateChange
  -- the converter and the axis controller
  | scanResult (codes : Scan)
  | settleTimerExpiry
  | stall
  | runLimitTimeout
  | groundTimeExpiry
  | overload
  -- the doors
  | unlatchWindowExpiry (side : Side)
  | doortimeExpiry (side : Side)
  | pullinWindowExpiry (side : Side)
  | obstruction (side : Side)
  | reverseEnd (side : Side)
  -- the station bus
  | pollCycleStart
  | pollAbort
  | replyReceived (c1 c2 c3 c4 : Ch) (framing : Bool)
  | replyWindowClose (started : Bool)
  | resetTimerExpiry (i : Fin 6)
  -- the beacons
  | patternSlot
  | lampCheck (lamp : Lamp) (d : Diag)
  | readbackMismatch (lamp : Lamp)
  | rearTrailExpiry
  | sideTrailExpiry (side : Side)
  -- the counters and the store
  | durationCount (i : Fin 8)
  | saveEnd
  -- raw samples
  | roadSpeedEdge
  | inputRawChange (input : RawInput) (level : Bool)
deriving DecidableEq, Repr

end Sys2Proof
end

