-- ==== Sys2Proof/Decode.lean ====
section
/-!
DEFINITION. Decoding a table word. No row of the table of operations and events gives bits, so no word spells
a command. The text of a request on the host link is judged in `Machine/Wire.lean`.
-/

namespace Sys2Proof

/-- The command that a word spells by the table's bits: none, since no row gives bits. -/
def decodeTableWord (nbits w : Nat) : Option Instr :=
  match nbits, w with
  | _, _ => none

end Sys2Proof
end

