-- ==== Sys2Proof/Machine/Arith.lean ====
section
/-!
DEFINITION. The exact integer arithmetic of the manual's conventions: rounding to nearest with halves away from
zero, clamping, and saturating sums.
-/

namespace Sys2Proof.Machine

/-- `num / den` rounded to nearest, halves away from zero ("Arithmetic and rounding" in About this manual). -/
def roundDiv (num : Int) (den : Nat) : Int :=
  if 0 ≤ num then (2 * num + den) / (2 * den : Int) else -((2 * (-num) + den) / (2 * den : Int))

/-- `n` set to the nearer end of `lo..hi` when it lies outside. -/
def clampInt (lo hi n : Int) : Int := max lo (min hi n)

/-- A count raised by 1, saturating at `cap`. -/
def satSucc (cap n : Nat) : Nat := min cap (n + 1)

/-- A sum divided by a count, rounded to nearest with halves up (R114). -/
def meanOf (codes : List Nat) : Nat := (codes.sum + codes.length / 2) / codes.length

/-- The first time after `now` on the grid of a periodic event that was due at `due`: no event that is taken late
shifts the grid. -/
def nextDue (due period now : Nat) : Nat := due + ((now - due) / period + 1) * period

/-- Since when a test has held: kept while it holds, started now when it begins to, none when it fails. -/
def holdSince (test : Bool) (now : Nat) (since : Option Nat) : Option Nat :=
  if test then some (since.getD now) else none

end Sys2Proof.Machine
end

