-- ==== Sys2Proof/Config.lean ====
section
/-!
DEFINITION. What the manual fixes for every TD-62 (fixed times and sizes), and the free values: the results
that the manual does not state. A free value has no body, so nothing can be proved of it.
-/

namespace Sys2Proof.Config

/-- The load stored at the end of an upward `LIFT` run in which no pressure value was taken. R90 stores "the
load estimate of the last pressure value taken while the run was in `RUNNING`" and states no value where there
was none. Applied to a counter in the state, so that each use is a fresh value. -/
opaque unstatedLoad : Nat → Nat

/-- R3: the plan table holds at most 12 records. -/
def tableCap : Nat := 12
/-- R15: the recent-outcomes list keeps 8 records. -/
def recentCap : Nat := 8
/-- R190: the notice queue holds at most 24 notices. -/
def noticeCap : Nat := 24
/-- R175: the receive FIFO holds at most 128 characters. -/
def fifoCap : Nat := 128
/-- R183: the transmit queue holds at most 256 characters. -/
def txCap : Nat := 256
/-- R182: processing begins with at least 240 characters free. -/
def txRoom : Nat := 240
/-- R177: a stored record is at most 96 characters long. -/
def recordCap : Nat := 96
/-- R167: the greatest value of a counter. -/
def counterMax : Nat := 4294967295
/-- R49: the fixed beacon reserve, in amperes. -/
def beaconReserve : Nat := 8
/-- R60: pump rest, in ms. -/
def pumpRestMs : Nat := 500
/-- R57 to R59: the contactor's window, in ms. -/
def contactorMs : Nat := 150
/-- R61: the overcurrent window, in ms. -/
def overcurrentMs : Nat := 500
/-- R84: the stall window, in ms. -/
def stallMs : Nat := 1500
/-- R84: the stall distance, in units of the axis. -/
def stallUnits : Int := 5
/-- R86: the ground time, in ms. -/
def groundMs : Nat := 200
/-- R89: the overload time, in ms. -/
def overloadMs : Nat := 300
/-- R93: the `UNLATCH` window, in ms. -/
def unlatchMs : Nat := 800
/-- R93: the `PULLIN` window, in ms. -/
def pullinMs : Nat := 600
/-- R93: the `REVERSE` time, in ms. -/
def reverseMs : Nat := 1000
/-- R93, R103: the obstruction blanking time, in ms. -/
def blankingMs : Nat := 300
/-- R93, R103: the obstruction persistence, in ms. -/
def obstructMs : Nat := 120
/-- R199: the image read, in ms. -/
def imageReadMs : Nat := 25
/-- R196: a save, in ms. -/
def saveMs : Nat := 400
/-- R32: the release time of ESTOP, in ms. -/
def estopReleaseMs : Nat := 100
/-- R144: the time RESET is held, in ms. -/
def resetKeyMs : Nat := 1000
/-- R110: the scan period, in ms. -/
def scanMs : Nat := 5
/-- R129: the poll cycle, in ms. -/
def pollMs : Nat := 20
/-- R147: the pattern slot, in ms. -/
def slotMs : Nat := 100
/-- R31: the debounce time of the inputs but ENGINE, in ms. -/
def debounceMs : Nat := 30
/-- R31: the debounce time of ENGINE, in ms. -/
def engineDebounceMs : Nat := 500
/-- R34: the time between speed computations, in ms. -/
def speedMs : Nat := 250
/-- R34: the window of a speed computation, in ms. -/
def speedWindowMs : Nat := 1000
/-- R155, R156: the time from a switch-on to the check, in ms. -/
def lampCheckMs : Nat := 50
/-- R156: the mismatch time that latches `STUCK`, in ms. -/
def mismatchMs : Nat := 20
/-- R119: what a rule reports for a channel that has no value. -/
def noValue : Int := -9999

end Sys2Proof.Config
end

