-- ==== Sys2Proof/Machine/State.lean ====
section
/-!
DEFINITION. The state of the TD-62, block by block, as plain data, and the state right after reset. Times are
in milliseconds since the last reset. A quantity that is a function of others (a condition, the budget limit,
the committed draw, rear movement) is not stored twice: the operation that computes it stands in `Machine/`.
-/

namespace Sys2Proof.Machine

/-! ### Settings (R193), the station table (R127) and the calibration pairs (R112) -/

/-- The plain settings of R193, each one integer in its unit. -/
structure Plain where
  leadMs : Int
  waitMax : Int
  liftTop : Int
  bedHt : Int
  supReq : Int
  holdMax : Int
  ppk : Int
  limEng : Int
  limBat : Int
  pumpDraw : Int
  valvDraw : Int
  doorDraw : Int
  batLow : Int
  batCrit : Int
  liftSlow : Int
  tiltSlow : Int
  liftCoUp : Int
  liftCoDn : Int
  tiltCoas : Int
  liftCrep : Int
  tiltCrep : Int
  liftTol : Int
  tiltTol : Int
  liftRun : Int
  tiltRun : Int
  settle : Int
  nudges : Int
  stowAng : Int
  lvlTrim : Int
  gndPres : Int
  gndBand : Int
  pTare : Int
  kLoad : Int
  ratedKg : Int
  doorTime : Int
  doorObs : Int
  trailMs : Int
  sndMove : Int
  beacReq : Int
deriving DecidableEq, Repr

/-- The motion kinds (R1). -/
inductive Kind where
  | lift
  | tilt
  | level
  | stow
  | unstow
  | doorOpen
  | doorShut
deriving DecidableEq, Repr

/-- An authority (R127): a set of tail-lift kinds. -/
structure Auth where
  lift : Bool
  tilt : Bool
  level : Bool
  stow : Bool
  unstow : Bool
deriving DecidableEq, Repr

/-- The role of a station, with what applies to that role alone (R127, R128). -/
inductive Role where
  | pendant (a : Auth)
  | platform (a : Auth)
  | keypad (side : Side)
  | cab
deriving DecidableEq, Repr

/-- A configured entry of the station table (R127). An entry with address 0 is `none` in the table. -/
structure StationCfg where
  addr : Nat
  role : Role
deriving DecidableEq, Repr

/-- A calibration pair with its set mark (R112). -/
structure Cal where
  cLo : Int
  vLo : Int
  cHi : Int
  vHi : Int
  mark : Bool
deriving DecidableEq, Repr

/-- The working settings (R193). -/
structure Settings where
  plain : Plain
  stn : Vector (Option StationCfg) 6
  cal : Vector Cal 9
deriving DecidableEq, Repr

/-! ### Motion records and the plan table (R1 to R30) -/

/-- The states of a record in the table (R5). -/
inductive RecState where
  | pending
  | blocked
  | waiting
  | lead
  | running
  | holding
  | settling
deriving DecidableEq, Repr

/-- The fifteen conditions, in the fixed order of R36. -/
inductive Cond where
  | parked
  | master
  | calib
  | liftSns
  | tiltSns
  | presSns
  | inclSns
  | notStowed
  | atBed
  | bodyLvl
  | rollOk
  | beaconOk
  | supply
  | oilOk
  | hold
deriving DecidableEq, Repr

/-- A wait reason (R2, R6). -/
inductive WaitReason where
  | cond (c : Cond)
  | budget
  | reserve
  | pack
  | channel
  | rest
deriving DecidableEq, Repr

/-- How a record ended (R13). -/
inductive RecOutcome where
  | done
  | stopped
  | failed
  | cancelled
deriving DecidableEq, Repr

/-- The reasons of R13. `halted` is the reason word `HALT`. -/
inductive EndReason where
  | cond (c : Cond)
  | stall
  | timeout
  | short
  | overload
  | obstruct
  | contactor
  | pumpOc
  | holdExp
  | linkLost
  | latch
  | switches
  | request
  | halted
  | pred
  | override
  | supersede
  | stale
  | station
deriving DecidableEq, Repr

/-- The flags of a record (R2). -/
structure Flags where
  clamped : Bool
  limited : Bool
  overshot : Bool
  ground : Bool
  derated : Bool
deriving DecidableEq, Repr

/-- Where a record came from (R2): the host link, or the station with this index (kept from 0). -/
inductive Origin where
  | link
  | station (i : Fin 6)
deriving DecidableEq, Repr

/-- The door states (R94). -/
inductive DoorState where
  | unknown
  | shut
  | closed
  | opened
  | ajar
  | fault
  | moving
deriving DecidableEq, Repr

/-- A position of a record's axis (R1): a height or a tilt, or a door state. -/
inductive Pos where
  | value (n : Int)
  | door (d : DoorState)
deriving DecidableEq, Repr

/-- The end data of a record (R2, R13). The reason is absent for `DONE` and `STOPPED`. -/
structure EndData where
  outcome : RecOutcome
  reason : Option EndReason
  pos : Pos
deriving DecidableEq, Repr

/-- A motion record (R2), with the timers the plan table keeps beside it. `waitFrom` is when the wait time of
R12 started, `leadEnd` when the lead time of R9 passes, `holdFrom` when the hold timer of R46 started, and
`key` the bit of the direction key that made a station record (R141). -/
structure Record where
  handle : Handle
  kind : Kind
  side : Option Side
  origin : Origin
  target : Option Int
  pred : Option Handle
  seq : Option Nat
  creep : Bool
  state : RecState
  wait : Option WaitReason
  flags : Flags
  pump : Option Bool
  holds : Nat
  nudges : Nat
  start : Option Pos
  ended : Option EndData
  waitFrom : Option Nat
  leadEnd : Option Nat
  holdFrom : Option Nat
  key : Option (Fin 6)
deriving DecidableEq, Repr

/-- The plan table, its counters and the recent-outcomes list (R3, R4, R15). -/
structure Plan where
  records : List Record
  peak : Nat
  nextHandle : Nat
  nextSeq : Nat
  recent : List Record
deriving DecidableEq, Repr

/-- The causes of a halt event (R28). -/
inductive Cause where
  | linkChar
  | request
  | station (i : Fin 6)
  | estop
  | welded
deriving DecidableEq, Repr

/-- The halt latch (R28): the set flag, the first cause and the present causes. -/
structure HaltLatch where
  set : Bool
  first : Option Cause
  estop : Bool
  welded : Bool
  stations : Vector Bool 6
deriving DecidableEq, Repr

/-! ### Inputs and the interlock evaluator (R31 to R47) -/

/-- A debounced input (R31): the latest sample, since when every sample has shown it, and the counted level,
absent before the first one. -/
structure Debounced where
  raw : Bool
  since : Nat
  counted : Option Bool
deriving DecidableEq, Repr

/-- The switches of one side (R94). -/
structure DoorSwitches where
  closed : Debounced
  latched : Debounced
  opened : Debounced
deriving DecidableEq, Repr

/-- The inputs. `estopQuiet` is since when every sample has shown ESTOP inactive while it is counted active
(R32). PUMP_FB has no counted level (R33). -/
structure Inputs where
  park : Debounced
  ign : Debounced
  engine : Debounced
  master : Debounced
  oilhot : Debounced
  near : DoorSwitches
  off : DoorSwitches
  estopRaw : Bool
  estopCounted : Bool
  estopQuiet : Option Nat
  pumpFb : Bool
deriving DecidableEq, Repr

/-- The road speed and the drive-away flag (R34, R47). `edges` are the times of the edges counted and `nextAt`
the time of the next computation. -/
structure Evaluator where
  edges : List Nat
  speed : Option Nat
  nextAt : Nat
  driveAway : Bool
deriving DecidableEq, Repr

/-! ### The power-pack arbiter and the supply monitor (R48 to R67) -/

/-- A held resource: its holder and its declared draw (R48, R49). -/
structure Holding where
  handle : Handle
  draw : Nat
deriving DecidableEq, Repr

/-- The contactor states (R56). `opened` is OPEN. -/
inductive Contactor where
  | opened
  | making
  | made
deriving DecidableEq, Repr

/-- The arbiter. `contactorAt` is the time of the last command to the contactor, on or off; `fbOpenSince` since
when PUMP_FB is seen open in MADE (R58); `weldArmed` whether the next closed sample of an OPEN contactor raises
the weld event (R59); `restUntil` when pump rest passes while it runs (R60); `overSince` since when the pump
current is above the limit (R61); `spanOrigin` the origin the pump spans carry (R164). -/
structure Arbiter where
  pack : Option Holding
  near : Option Holding
  off : Option Holding
  contactor : Contactor
  contactorAt : Nat
  fbOpenSince : Option Nat
  weldArmed : Bool
  restUntil : Option Nat
  overSince : Option Nat
  spanOrigin : Option Origin
deriving DecidableEq, Repr

/-- The supply states (R63). -/
inductive SupplyState where
  | unknown
  | normal
  | low
  | critical
deriving DecidableEq, Repr

/-- The supply monitor (R63, R64): its state and, for each window out of it, since when its test has held. `low`
leads to LOW from NORMAL, `crit` to CRITICAL, `up` to NORMAL from LOW and to LOW from CRITICAL. -/
structure Supply where
  state : SupplyState
  low : Option Nat
  crit : Option Nat
  up : Option Nat
deriving DecidableEq, Repr

/-! ### The axis controller (R68 to R92) -/

/-- R68. -/
inductive Dir where
  | up
  | down
deriving DecidableEq, Repr

/-- R68. -/
inductive RunKind where
  | ordinary
  | nudge
deriving DecidableEq, Repr

/-- R68, R75. -/
inductive SpeedClass where
  | fast
  | creep
deriving DecidableEq, Repr

/-- The run data of R68. `lift` says that the axis is height. The run time is `runAcc`, the time of the finished
runs, plus the time since `runFrom` while a run is on. The ground and overload times and the settle timer are
kept as the times at which they started and at which it passes. `runs` counts the runs (R91) and `runLoad` is
the load of the last pressure value taken in the present run (R90). -/
structure Run where
  target : Int
  dir : Dir
  pump : Bool
  lift : Bool
  runKind : Option RunKind
  lastRun : Option RunKind
  cls : Option SpeedClass
  coast : Int
  runAcc : Nat
  runFrom : Nat
  markPos : Int
  markAt : Nat
  groundSince : Option Nat
  armed : Bool
  overSince : Option Nat
  settleEnd : Option Nat
  nudgeDue : Bool
  runs : Nat
  runLoad : Option Nat
deriving DecidableEq, Repr

/-- The commanded levels of the six valves and the speed relay (R77). -/
structure Valves where
  liftRaise : Bool
  liftFast : Bool
  liftSlow : Bool
  tiltUp : Bool
  tiltFast : Bool
  tiltSlow : Bool
  speed : Bool
deriving DecidableEq, Repr

/-- The axis controller (R68, R77, R88, R90). -/
structure Axis where
  run : Option Run
  valves : Valves
  lastLoad : Nat
  presentLoad : Nat
deriving DecidableEq, Repr

/-! ### The side doors (R93 to R109) -/

/-- The door phases (R93). -/
inductive Phase where
  | unlatch
  | opening
  | closing
  | pullin
  | reverse
deriving DecidableEq, Repr

/-- A door channel (R93). Its holder stands in the arbiter. The phase timer runs from `phaseAt`, and the
obstruction time from `obsSince`. -/
structure Door where
  state : DoorState
  phase : Option Phase
  phaseAt : Nat
  obsSince : Option Nat
  motorOpen : Bool
  motorClose : Bool
  latch : Bool
deriving DecidableEq, Repr

/-! ### The sensor converter (R110 to R126) -/

/-- R116. -/
inductive ChanStatus where
  | init
  | ok
  | failed
deriving DecidableEq, Repr

/-- A measuring channel (R115 to R119). The history is newest first, `value` is the value or the last good
value, and `fresh` says that the latest scan's code entered the history. -/
structure Channel where
  status : ChanStatus
  hist : List Nat
  badRun : Nat
  goodRun : Nat
  value : Option Int
  fresh : Bool
deriving DecidableEq, Repr

/-- The converter (R110, R120 to R122). `nextAt` is when the next scan result is due and `ch9` the last CH9
code. `pitchF` and `rollF` are the filter sums F. -/
structure Converter where
  scanning : Bool
  nextAt : Nat
  refGood : Bool
  refRun : Nat
  refFails : Nat
  ch9 : Option Nat
  chans : Vector Channel 9
  pitchF : Option Int
  rollF : Option Int
deriving DecidableEq, Repr

/-! ### The station bus (R127 to R146) -/

/-- R133. -/
inductive MissKind where
  | silent
  | incomplete
  | wrongAddr
  | badCheck
  | conflict
deriving DecidableEq, Repr

/-- R134. -/
inductive StnState where
  | absent
  | present
  | lost
deriving DecidableEq, Repr

/-- One key of a station (R137): counted pressed, barred, shown pressed by the last good reply, and its pressed
run. A key stands at its bit of the keys character (R133). -/
structure KeySt where
  pressed : Bool
  barred : Bool
  shown : Bool
  run : Nat
deriving DecidableEq, Repr

/-- A station (R127, R134, R137, R144, R145). `entry` is the entry in force, `changed` says that the working
entry has changed since (R127), `lamps` is the last show character (R130) and `resetAt` when the RESET timer
passes while it runs. -/
structure Station where
  entry : Option StationCfg
  changed : Bool
  state : StnState
  goodRun : Nat
  missRun : Nat
  stuck : Bool
  keys : Vector KeySt 6
  missCount : Nat
  lastMiss : Option MissKind
  aborts : Nat
  conflicts : Nat
  lamps : Ch
  resetAt : Option Nat
deriving DecidableEq, Repr

/-- The station bus (R129, R135). `polling` says that polling has begun, `current` is the station being polled,
`frame` the characters of its poll, `cycleAborts` the polls aborted in this cycle and `runAborts` those of the
present run of conflict cycles. -/
structure Bus where
  polling : Bool
  nextAt : Nat
  current : Option (Fin 6)
  frame : List Ch
  fault : Bool
  conflictRun : Nat
  cleanRun : Nat
  faultCount : Nat
  cycleAborts : Nat
  runAborts : Nat
  stations : Vector Station 6
deriving DecidableEq, Repr

/-! ### The beacon controller (R147 to R161) -/

/-- R148. -/
inductive Pattern where
  | off
  | steady
  | flash
  | fast
  | double
  | altA
  | altB
deriving DecidableEq, Repr

/-- R154. -/
inductive DemandClass where
  | off
  | host
  | motion
  | alarm
deriving DecidableEq, Repr

/-- The faults a channel may have latched (the set of R155 and R156). `openLoad` is the fault `OPEN`. -/
inductive LampFault where
  | openLoad
  | short
  | stuck
deriving DecidableEq, Repr

/-- A beacon channel (R148, R154 to R157). `checkAt` is when the check is due and `readBack` the level of the last
read-back. While it differs from the commanded level the mismatch time of R156 is the time since `compareFrom`. -/
structure LampCh where
  host : Pattern
  cls : DemandClass
  pattern : Pattern
  level : Bool
  readBack : Bool
  forced : Bool
  openF : Bool
  shortF : Bool
  stuckF : Bool
  checkAt : Option Nat
  compareFrom : Nat
deriving DecidableEq, Repr

/-- The beacon controller: the pattern clock (R147), the trails, each as the time at which it expires while it
runs (R150, R151), and the channels B0, B1, B2, B3, SND. -/
structure Beacons where
  slot : Nat
  nextAt : Nat
  rearTrail : Option Nat
  nearTrail : Option Nat
  offTrail : Option Nat
  lamps : Vector LampCh 5
deriving DecidableEq, Repr

/-! ### The duty counters (R162 to R173) -/

/-- R163. -/
inductive Source where
  | liftCyc
  | stowCyc
  | doorCyc
  | pumpRun
  | pumpStart
  | overload
  | holds
  | halts
  | stnMiss
  | fails
  | engOffPump
deriving DecidableEq, Repr

/-- R162. -/
inductive OriginFilter where
  | any
  | link
  | station
deriving DecidableEq, Repr

/-- R162. -/
inductive SideFilter where
  | any
  | near
  | off
deriving DecidableEq, Repr

/-- A counter record (R162). `duration` and `load` say that the mode is `DURATION` and the weight `LOAD`. -/
structure Counter where
  source : Source
  duration : Bool
  load : Bool
  origin : OriginFilter
  side : SideFilter
  threshold : Nat
  derate : Bool
  value : Nat
  reached : Bool
  residue : Nat
deriving DecidableEq, Repr

/-- The counter unit (R162, R169). `service` holds, for each counter, the value at a crossing of the present event,
whose `SERVICE` notice waits for the event's `ENDED` notices (R168); it is empty between events. -/
structure Counters where
  recs : Vector Counter 8
  frozen : Bool
  derating : Bool
  service : Vector (Option Nat) 8
deriving DecidableEq, Repr

/-! ### The host link (R174 to R189) -/

/-- A character in the receive FIFO, with its framing mark and its loss mark (R175). -/
structure RxChar where
  c : Ch
  framing : Bool
  loss : Bool
deriving DecidableEq, Repr

/-- The record assembler (R176): HUNTING, or ASSEMBLING a record that may be damaged. -/
inductive Assembler where
  | hunting
  | assembling (text : List Ch) (damaged : Bool)
deriving DecidableEq, Repr

/-- R185. -/
inductive SupState where
  | off
  | armed
  | expired
deriving DecidableEq, Repr

/-- Link supervision (R185). `deadline` is when the timer passes while it runs. -/
structure Supervision where
  state : SupState
  interval : Option Nat
  live : Nat
  deadline : Option Nat
  taken : Bool
deriving DecidableEq, Repr

/-- A `CALP` that waits for its scan result (R124). -/
structure CalpWait where
  tag : Tag
  chan : Fin 9
  hi : Bool
  value : Int
deriving DecidableEq, Repr

/-- The eight counts of R184. -/
structure LinkCounts where
  framing : Nat
  overrun : Nat
  damage : Nat
  checksum : Nat
  tag : Nat
  brk : Nat
  halt : Nat
  expiry : Nat
deriving DecidableEq, Repr

/-- The host link: the sampled strap (R174), the FIFO (R175), the assembler and the complete record it holds
(R176), the transmit queue and the part of a `STAT` reply still to be fed (R183), the waiting `CALP` (R124),
supervision (R185) and the counts (R184). -/
structure Link where
  strap : Bool
  fifo : List RxChar
  asm : Assembler
  complete : Option (List Ch)
  tx : List Ch
  feed : List Ch
  calp : Option CalpWait
  sup : Supervision
  counts : LinkCounts
deriving DecidableEq, Repr

/-! ### Notices, the stored image and start-up (R190 to R200) -/

/-- R199. -/
inductive ResetKind where
  | powerOn
  | pin
deriving DecidableEq, Repr

/-- A notice (R190), one constructor for each kind. -/
inductive Notice where
  | ended (h : Handle) (kind : Kind) (outcome : RecOutcome) (reason : Option EndReason) (pos : Pos)
  | held (h : Handle) (reason : WaitReason)
  | halted (cause : Cause)
  | station (i : Fin 6) (addr : Nat) (found : Bool)
  | busFault (aborts : Nat)
  | busOk (count : Nat)
  | lamp (lamp : Lamp) (fault : LampFault)
  | supply (old new : SupplyState) (volts : Int)
  | service (i : Fin 8) (source : Source) (value : Nat)
  | linkLost (byCount : Bool) (live : Nat) (records : Nat)
  | driveAway (speed : Nat) (near off : DoorState) (tilt : Int)
  | doorMoved (side : Side) (old new : DoorState)
  | defaults (kind : ResetKind)
deriving DecidableEq, Repr

/-- The notice queue (R190), oldest first, the lost count and the ATTN output (R191). -/
structure NoticeQueue where
  entries : List Notice
  lost : Nat
  attn : Bool
deriving DecidableEq, Repr

/-- The stored image (R196, R199). `valid` says that the check word matches. -/
structure Image where
  valid : Bool
  settings : Settings
  counters : Vector Counter 8
deriving DecidableEq, Repr

/-- A save in progress (R196): its snapshot and when it ends. -/
structure Save where
  settings : Settings
  counters : Vector Counter 8
  endsAt : Nat
deriving DecidableEq, Repr

/-- The settings store (R196 to R198). -/
structure Store where
  image : Image
  save : Option Save
  due : Bool
deriving DecidableEq, Repr

/-- Start-up (R199): whether the image is being read, the kind of the last reset and whether it loaded the
defaults. -/
structure Startup where
  reading : Bool
  kind : ResetKind
  defaults : Bool
deriving DecidableEq, Repr

/-! ### The machine -/

/-- The state of the part. `now` is the time since reset in ms; `fresh` counts the free values used; `pending` is
the queue of commands that wait, first in first out. -/
structure State where
  now : Nat
  fresh : Nat
  pending : List Instr
  settings : Settings
  plan : Plan
  halt : HaltLatch
  inputs : Inputs
  eval : Evaluator
  arb : Arbiter
  supply : Supply
  axis : Axis
  near : Door
  off : Door
  conv : Converter
  bus : Bus
  beac : Beacons
  cnt : Counters
  link : Link
  notes : NoticeQueue
  store : Store
  startup : Startup
deriving DecidableEq, Repr

/-- The faults. There is none: every command of the table has an effect in every state, or is a report that finds
nothing to act on and is ignored (R14). -/
inductive Fault where
deriving DecidableEq, Repr

/-- The refusals. -/
inductive Refusal where
  /-- Raised by `exec` alone, for a command that has no meaning yet. Safe: the model stops where the part goes
  on. -/
  | notModelled (mnemonic : String)
deriving DecidableEq, Repr

/-! ### The values after reset -/

/-- The defaults of R193, R70 and the chapters named there. -/
def Plain.default : Plain :=
  { leadMs := 1500, waitMax := 120, liftTop := 1350, bedHt := 1100, supReq := 0, holdMax := 20000, ppk := 8000,
    limEng := 240, limBat := 170, pumpDraw := 150, valvDraw := 3, doorDraw := 18, batLow := 2340, batCrit := 2160,
    liftSlow := 80, tiltSlow := 30, liftCoUp := 12, liftCoDn := 6, tiltCoas := 4, liftCrep := 2, tiltCrep := 1,
    liftTol := 10, tiltTol := 5, liftRun := 40000, tiltRun := 25000, settle := 300, nudges := 2, stowAng := 900,
    lvlTrim := 0, gndPres := 60, gndBand := 80, pTare := 380, kLoad := 9, ratedKg := 1000, doorTime := 12000,
    doorObs := 90, trailMs := 3000, sndMove := 1, beacReq := 1 }

/-- The default station table (R127). -/
def Settings.defaultStations : Vector (Option StationCfg) 6 :=
  #v[some ⟨1, .pendant ⟨true, true, true, true, true⟩⟩, some ⟨2, .platform ⟨true, false, false, false, false⟩⟩,
    some ⟨3, .keypad .near⟩, some ⟨4, .keypad .off⟩, some ⟨5, .cab⟩, none]

/-- The default pairs (R112), marks clear. -/
def Settings.defaultCal : Vector Cal 9 :=
  #v[⟨400, 0, 3800, 1400, false⟩, ⟨300, -150, 3900, 950, false⟩, ⟨248, -300, 3848, 300, false⟩,
    ⟨248, -300, 3848, 300, false⟩, ⟨410, 0, 3686, 2500, false⟩, ⟨0, 0, 4096, 3300, false⟩,
    ⟨0, 0, 4096, 3000, false⟩, ⟨0, 0, 4096, 300, false⟩, ⟨0, 0, 4096, 300, false⟩]

/-- The default settings (R199). -/
def Settings.default : Settings := ⟨.default, Settings.defaultStations, Settings.defaultCal⟩

/-- A counter record with the setup given, no threshold and nothing counted. -/
def Counter.plain (source : Source) (duration load : Bool) (side : SideFilter) : Counter :=
  ⟨source, duration, load, .any, side, 0, false, 0, false, 0⟩

/-- The default counter records (R162). -/
def Counters.defaultRecs : Vector Counter 8 :=
  #v[.plain .liftCyc false false .any, .plain .liftCyc false true .any, .plain .pumpRun true false .any,
    .plain .pumpStart false false .any, .plain .doorCyc false false .near, .plain .doorCyc false false .off,
    .plain .halts false false .any, .plain .engOffPump true false .any]

/-- An input before its first counted level (R31). -/
def Debounced.reset : Debounced := ⟨false, 0, none⟩

/-- R31. -/
def DoorSwitches.reset : DoorSwitches := ⟨.reset, .reset, .reset⟩

/-- R93. -/
def Door.reset : Door := ⟨.unknown, none, 0, none, false, false, false⟩

/-- R115, R116. -/
def Channel.reset : Channel := ⟨.init, [], 0, 0, none, false⟩

/-- R137. -/
def KeySt.reset : KeySt := ⟨false, false, false, 0⟩

/-- A station as new, with this entry (R127, R134, R145). -/
def Station.new (entry : Option StationCfg) : Station :=
  { entry := entry, changed := false, state := .absent, goodRun := 0, missRun := 0, stuck := false,
    keys := Vector.replicate 6 .reset, missCount := 0, lastMiss := none, aborts := 0, conflicts := 0, lamps := 0,
    resetAt := none }

/-- R154, R156. -/
def LampCh.reset : LampCh :=
  { host := .off, cls := .off, pattern := .off, level := false, readBack := false, forced := false, openF := false,
    shortF := false, stuckF := false, checkAt := none, compareFrom := 0 }

/-- All valves and SPEED commanded off (R77). -/
def Valves.off : Valves := ⟨false, false, false, false, false, false, false⟩

/-- The machine right after a power-on reset: step 1 of R199 is done and the image read has begun. The strap, the
raw levels and the image are inputs of the part at that moment; their values here are design choices, named in the
assumption log. -/
def State.reset : State :=
  { now := 0
    fresh := 0
    pending := []
    settings := .default
    plan := { records := [], peak := 0, nextHandle := 1, nextSeq := 1, recent := [] }
    halt := { set := false, first := none, estop := false, welded := false, stations := Vector.replicate 6 false }
    inputs :=
      { park := .reset, ign := .reset, engine := .reset, master := .reset, oilhot := .reset, near := .reset,
        off := .reset, estopRaw := false, estopCounted := false, estopQuiet := none, pumpFb := false }
    eval := { edges := [], speed := none, nextAt := 1000, driveAway := false }
    arb :=
      { pack := none, near := none, off := none, contactor := .opened, contactorAt := 0, fbOpenSince := none,
        weldArmed := true, restUntil := some 500, overSince := none, spanOrigin := none }
    supply := { state := .unknown, low := none, crit := none, up := none }
    axis := { run := none, valves := .off, lastLoad := 0, presentLoad := 0 }
    near := .reset
    off := .reset
    conv :=
      { scanning := false, nextAt := 0, refGood := true, refRun := 0, refFails := 0, ch9 := none,
        chans := Vector.replicate 9 .reset, pitchF := none, rollF := none }
    bus :=
      { polling := false, nextAt := 0, current := none, frame := [], fault := false, conflictRun := 0, cleanRun := 0,
        faultCount := 0, cycleAborts := 0, runAborts := 0,
        stations := Vector.ofFn fun i => Station.new Settings.defaultStations[i] }
    beac :=
      { slot := 0, nextAt := 100, rearTrail := none, nearTrail := none, offTrail := none,
        lamps := Vector.replicate 5 .reset }
    cnt :=
      { recs := Counters.defaultRecs, frozen := false, derating := false, service := Vector.replicate 8 none }
    link :=
      { strap := false, fifo := [], asm := .hunting, complete := none, tx := [], feed := [], calp := none,
        sup := { state := .off, interval := none, live := 0, deadline := none, taken := false },
        counts := ⟨0, 0, 0, 0, 0, 0, 0, 0⟩ }
    notes := { entries := [], lost := 0, attn := false }
    store := { image := ⟨false, .default, Counters.defaultRecs⟩, save := none, due := false }
    startup := { reading := true, kind := .powerOn, defaults := false } }

end Sys2Proof.Machine
end

