-- ==== Sys2Proof/Machine/Ops.lean ====
section
/-!
DEFINITION. The operations that every block uses: looking up records and resources, queueing a notice, counting,
and letting time pass.
-/

namespace Sys2Proof.Machine

/-! ### Looking up -/

/-- The kinds of tail-lift records. -/
def Kind.isLift : Kind → Bool
  | .lift | .tilt | .level | .stow | .unstow => true
  | .doorOpen | .doorShut => false

/-- The record with this handle in the plan table. -/
def State.find (s : State) (h : Handle) : Option Record := s.plan.records.find? fun r => r.handle == h

/-- The handles in the plan table, in admission order. -/
def State.handles (s : State) : List Handle := s.plan.records.map (·.handle)

/-- The plan table with `f` applied to the record that has this handle. -/
def State.upd (s : State) (h : Handle) (f : Record → Record) : State :=
  { s with plan := { s.plan with records := s.plan.records.map fun r => if r.handle = h then f r else r } }

/-- The door channel of a side. -/
def State.door (s : State) : Side → Door
  | .near => s.near
  | .off => s.off

/-- The state with the door channel of a side replaced. -/
def State.setDoor (s : State) (side : Side) (d : Door) : State :=
  match side with
  | .near => { s with near := d }
  | .off => { s with off := d }

/-- The holder of a side's door channel (R48). -/
def Arbiter.channel (a : Arbiter) : Side → Option Holding
  | .near => a.near
  | .off => a.off

/-- The arbiter with a side's door channel given or freed. -/
def Arbiter.setChannel (a : Arbiter) (side : Side) (x : Option Holding) : Arbiter :=
  match side with
  | .near => { a with near := x }
  | .off => { a with off := x }

/-- Whether this record holds the power pack (R48). -/
def State.holdsPack (s : State) (h : Handle) : Bool :=
  match s.arb.pack with
  | some x => x.handle == h
  | none => false

/-- Whether this record holds the door channel of this side (R48). -/
def State.holdsDoor (s : State) (side : Side) (h : Handle) : Bool :=
  match s.arb.channel side with
  | some x => x.handle == h
  | none => false

/-- The record that holds the power pack. -/
def State.packRecord (s : State) : Option Record := s.arb.pack.bind fun x => s.find x.handle

/-- The record that holds a side's door channel. -/
def State.doorRecord (s : State) (side : Side) : Option Record := (s.arb.channel side).bind fun x => s.find x.handle

/-- The states of a record that holds its resource (R48). -/
def RecState.granted : RecState → Bool
  | .lead | .running | .holding | .settling => true
  | .pending | .blocked | .waiting => false

/-- The states of a record that has entered the competition for its resource and not yet won it. -/
def RecState.queued : RecState → Bool
  | .blocked | .waiting => true
  | .pending | .lead | .running | .holding | .settling => false

/-- Rear movement (R149): the holder of the power pack is in `LEAD`, `RUNNING`, `HOLDING` or `SETTLING`. -/
def State.rearMoving (s : State) : Bool :=
  match s.packRecord with
  | some r => r.state.granted
  | none => false

/-- ENGINE counted active; inactive before its first counted level (R31). -/
def State.engineOn (s : State) : Bool := s.inputs.engine.counted == some true

/-- The budget limit in force (R50). -/
def State.limit (s : State) : Int := if s.engineOn then s.settings.plain.limEng else s.settings.plain.limBat

/-- The declared draw of a resource, 0 when it is free. -/
def drawOf : Option Holding → Nat
  | some x => x.draw
  | none => 0

/-- The committed draw (R49). -/
def State.committed (s : State) : Nat :=
  Config.beaconReserve + drawOf s.arb.pack + drawOf s.arb.near + drawOf s.arb.off

/-- Whether pump rest is running (R60). -/
def State.resting (s : State) : Bool := s.arb.restUntil.isSome

/-- Whether a channel's status is OK (R116). -/
def State.chanOk (s : State) (n : Fin 9) : Bool := s.conv.chans[n].status == .ok

/-- The value or the last good value of a channel (R119). -/
def State.chanValue (s : State) (n : Fin 9) : Option Int := s.conv.chans[n].value

/-- A filter sum as a filtered value (R122). -/
def filtered (f : Int) : Int := clampInt (-300) 300 (roundDiv f 32)

/-- The filtered pitch, absent before the first sample. -/
def State.pitch (s : State) : Option Int := s.conv.pitchF.map filtered

/-- The filtered roll, absent before the first sample. -/
def State.roll (s : State) : Option Int := s.conv.rollF.map filtered

/-- The position a rule reports (R13, R119). DEDUCED, log entry 17. -/
def State.reported (s : State) (n : Fin 9) : Int := (s.chanValue n).getD Config.noValue

/-- The channel of a tail-lift record's axis (R1, R69): CH0 for `LIFT`, CH1 for the other kinds. -/
def Kind.axisChan : Kind → Fin 9
  | .lift => 0
  | .tilt | .level | .stow | .unstow | .doorOpen | .doorShut => 1

/-- The axis value of a record at this moment (R1, R13). -/
def State.posOf (s : State) (r : Record) : Pos :=
  match r.side with
  | some side => .door (s.door side).state
  | none => .value (s.reported r.kind.axisChan)

/-- The working entry of a station that is in force (R127). -/
def State.role (s : State) (i : Fin 6) : Option Role := s.bus.stations[i].entry.map (·.role)

/-! ### Notices (R190, R191) -/

/-- A notice joins the queue's end, or is dropped with the lost count raised when the queue is full. -/
def NoticeQueue.push (q : NoticeQueue) (n : Notice) : NoticeQueue :=
  if q.entries.length < Config.noticeCap then { q with entries := q.entries ++ [n], attn := true }
  else { q with lost := satSucc 255 q.lost }

/-- Queues a notice. -/
def State.notify (s : State) (n : Notice) : State := { s with notes := s.notes.push n }

/-! ### Duty counters (R163 to R169) -/

/-- Whether a counter's origin filter passes what an event carries (R164). -/
def OriginFilter.passes (f : OriginFilter) (o : Option Origin) : Bool :=
  match f, o with
  | .any, _ => true
  | .link, some .link => true
  | .station, some (.station _) => true
  | .link, some (.station _) | .link, none | .station, some .link | .station, none => false

/-- Whether a counter's side filter passes what an event carries (R164). -/
def SideFilter.passes (f : SideFilter) (x : Option Side) : Bool :=
  match f, x with
  | .any, _ => true
  | .near, some .near => true
  | .off, some .off => true
  | .near, some .off | .near, none | .off, some .near | .off, none => false

/-- A span source (R163). -/
def Source.isSpan : Source → Bool
  | .pumpRun | .engOffPump => true
  | .liftCyc | .stowCyc | .doorCyc | .pumpStart | .overload | .holds | .halts | .stnMiss | .fails => false

/-- The amount an event adds (R165): with weight `LOAD` on `LIFTCYC` the load in hundreds, rounded up and at
least 1, and 1 otherwise. -/
def Counter.amount (c : Counter) (load : Nat) : Nat :=
  if c.load && c.source == .liftCyc then max 1 ((load + 99) / 100) else 1

/-- A counter raised by an amount, and at a crossing the value that its `SERVICE` notice carries (R167, R168): `shown`. -/
def Counter.raise (c : Counter) (amount shown : Nat) : Counter × Option Nat :=
  let v := min Config.counterMax (c.value + amount)
  if v = c.value then (c, none)
  else if c.threshold ≠ 0 ∧ c.threshold ≤ v ∧ c.reached = false then
    ({ c with value := v, reached := true }, some shown)
  else ({ c with value := v }, none)

/-- What an event of these sources does to a counter (R164, R165). -/
def Counter.take (c : Counter) (sources : List Source) (o : Option Origin) (side : Option Side) (load : Nat) :
    Counter × Option Nat :=
  if c.duration = false ∧ c.source ∈ sources ∧ c.origin.passes o ∧ c.side.passes side then
    c.raise (c.amount load) (min Config.counterMax (c.value + c.amount load))
  else (c, none)

/-- What `ms` milliseconds of active time do to a `DURATION` counter (R166): a count for each whole 100 ms, the
remainder carried in the residue. The value at a crossing is the one the count that crosses gives. -/
def Counter.elapse (c : Counter) (ms : Nat) : Counter × Option Nat :=
  { c with residue := (c.residue + ms) % 100 }.raise ((c.residue + ms) / 100) (max c.threshold (c.value + 1))

/-- The outputs of R77 for an axis, a direction and a class; all off without a class. -/
def valvesFor (lift : Bool) (dir : Dir) (cls : Option SpeedClass) : Valves :=
  match lift, dir, cls with
  | _, _, none => .off
  | true, .up, some .fast => { Valves.off with liftRaise := true, speed := true }
  | true, .up, some .creep => { Valves.off with liftRaise := true }
  | true, .down, some .fast => { Valves.off with liftFast := true }
  | true, .down, some .creep => { Valves.off with liftSlow := true }
  | false, .up, some .fast => { Valves.off with tiltUp := true, speed := true }
  | false, .up, some .creep => { Valves.off with tiltUp := true }
  | false, .down, some .fast => { Valves.off with tiltFast := true }
  | false, .down, some .creep => { Valves.off with tiltSlow := true }

/-- Puts the present run into CREEP with its outputs (R75, R77). -/
def State.creepRun (s : State) (run : Run) : State :=
  { s with
    axis :=
      { s.axis with run := some { run with cls := some .creep }, valves := valvesFor run.lift run.dir (some .creep) } }

/-- Derating becoming active (R76): a pump-driven FAST run goes to CREEP and its record is flagged `DERATED`. -/
def State.slowRun (s : State) : State :=
  match s.axis.run, s.arb.pack with
  | some run, some x =>
    if run.pump ∧ run.cls = some .fast then
      (s.creepRun run).upd x.handle fun r => { r with flags := { r.flags with derated := true } }
    else s
  | _, _ => s

/-- Whether a counter has both its reached flag and its derate flag at 1 (R169). -/
def Counter.derates (c : Counter) : Bool := c.reached && c.derate

/-- Derating decided again (R169). -/
def State.decideDerating (s : State) : State :=
  let active := s.cnt.recs.toList.any Counter.derates
  let s1 := { s with cnt := { s.cnt with derating := active } }
  if active && !s.cnt.derating then s1.slowRun else s1

/-- Applies a change to every counter in index order, keeps the values of the crossings for their `SERVICE` notices,
and decides derating again (R164, R168, R169). -/
def State.applyCounters (s : State) (f : Fin 8 → Counter → Counter × Option Nat) : State :=
  let out := mapAt s.cnt.recs f
  { s with
    cnt :=
      { s.cnt with
        recs := mapAt out fun _ x => x.1, service := mapAt s.cnt.service fun i v => v.or out[i].2 } }.decideDerating

/-- The `SERVICE` notices that wait, in index order (R168). -/
def Counters.notices (c : Counters) : List Notice :=
  (List.finRange 8).filterMap fun i => c.service[i].map fun v => .service i c.recs[i].source v

/-- The `SERVICE` notices that wait are queued (R168). -/
def State.queueServices (s : State) : State :=
  { s.cnt.notices.foldl State.notify s with cnt := { s.cnt with service := Vector.replicate 8 none } }

/-- An event reaches the counters (R163, R164); the frozen flag discards it (R170). The `SERVICE` notice of a crossing
is queued at the close of the event, so that it stands after every `ENDED` notice of the event (R168). That it also
stands after the event's `HELD` and `DRIVEAWAY` notices is a DESIGN CHOICE, log entry 35. -/
def State.count (s : State) (sources : List Source) (o : Option Origin) (side : Option Side) (load : Nat) : State :=
  if s.cnt.frozen then s else s.applyCounters fun _ c => c.take sources o side load

/-- Whether a span source is active (R62, R163). -/
def State.spanOn (s : State) : Source → Bool
  | .pumpRun => s.arb.contactor != .opened
  | .engOffPump => s.arb.contactor != .opened && !s.engineOn
  | .liftCyc | .stowCyc | .doorCyc | .pumpStart | .overload | .holds | .halts | .stnMiss | .fails => false

/-- Whether a counter's residue grows now (R164, R166). -/
def State.accrues (s : State) (c : Counter) : Bool :=
  c.duration && s.spanOn c.source && c.origin.passes s.arb.spanOrigin && c.side.passes none

/-! ### Time -/

/-- `ms` milliseconds pass: the clock advances and the active spans are counted (R166). Nothing else changes by
the passing of time alone; the expiry of a timer is a command of its own. DESIGN CHOICE, log entry 1. -/
def State.passTime (s : State) (ms : Nat) : State :=
  let s1 := { s with now := s.now + ms }
  if s.cnt.frozen then s1
  else (s1.applyCounters fun _ c => if s.accrues c then c.elapse ms else (c, none)).queueServices

/-- Time passes until `t`, if `t` is not past already. DESIGN CHOICE, log entry 2. -/
def State.passTo (s : State) (t : Nat) : State := s.passTime (t - s.now)

end Sys2Proof.Machine
end

