-- ==== Sys2Proof/Machine/Converter.lean ====
section
/-!
DEFINITION. The sensor converter (R110 to R122): the reference, the histories, the statuses, the conversion and the
incline filters.
-/

namespace Sys2Proof.Machine

/-- The range of a channel (R112). -/
def chanRange (n : Fin 9) : Int × Int :=
  match n with
  | 0 => (0, 1600)
  | 1 => (-150, 950)
  | 2 | 3 => (-300, 300)
  | 4 => (0, 2500)
  | 5 => (0, 3300)
  | 6 => (0, 3000)
  | 7 | 8 => (0, 300)

/-- The size of a channel's history (R115). -/
def histCap (n : Fin 9) : Nat :=
  match n with
  | 0 | 1 => 4
  | 5 => 16
  | 2 | 3 | 4 | 6 | 7 | 8 => 1

/-- Whether a channel has a band check (R115, R117): CH0 to CH4. -/
def banded (n : Fin 9) : Bool := decide (n.val ≤ 4)

/-- Whether a code is in band (R115). -/
def inBand (n : Fin 9) (code : Nat) : Bool := !banded n || (decide (48 ≤ code) && decide (code ≤ 4047))

/-- Whether a CH9 code is in its range (R120). -/
def refInRange (code : Nat) : Bool := decide (2008 ≤ code) && decide (code ≤ 2088)

/-- Conversion (R113): the whole sum exactly, rounded once, then clamped. -/
def Cal.convert (k : Cal) (n : Fin 9) (code : Nat) : Int :=
  let span := k.cHi - k.cLo
  clampInt (chanRange n).1 (chanRange n).2
    (roundDiv (k.vLo * span + ((code : Int) - k.cLo) * (k.vHi - k.vLo)) span.toNat)

/-- A channel that the reference check takes down (R120). -/
def Channel.drop (c : Channel) : Channel :=
  { c with status := .failed, hist := [], badRun := 0, goodRun := 0, fresh := false }

/-- The histories and runs after a code of a scan whose reference is in range (R115, R117, R118). -/
def Channel.accept (c : Channel) (n : Fin 9) (code : Nat) : Channel :=
  if inBand n code then
    { c with
      hist := (code :: c.hist).take (histCap n), badRun := 0, goodRun := satSucc 20 c.goodRun, fresh := true }
  else
    let bad := satSucc 3 c.badRun
    if bad = 3 ∧ c.status ≠ .failed then
      { c with status := .failed, hist := [], badRun := bad, goodRun := 0, fresh := false }
    else { c with badRun := bad, goodRun := 0, fresh := false }

/-- Whether a channel may be OK (R116, R118). -/
def Channel.ready (c : Channel) (n : Fin 9) (refGood : Bool) : Bool :=
  refGood && decide (c.hist.length = histCap n) &&
    (c.status != .failed || !banded n || decide (20 ≤ c.goodRun))

/-- The status after a scan (R116 to R118). -/
def Channel.settle (c : Channel) (n : Fin 9) (refGood : Bool) : Channel :=
  if c.status ≠ .ok ∧ c.ready n refGood then { c with status := .ok } else c

/-- The value after a scan (R113, R114, R119). -/
def Channel.measure (c : Channel) (n : Fin 9) (k : Cal) : Channel :=
  if c.status = .ok then { c with value := some (k.convert n (meanOf c.hist)) } else c

/-- A channel's part of a scan whose reference is in range. -/
def Channel.scan (c : Channel) (n : Fin 9) (code : Nat) (refGood : Bool) (k : Cal) : Channel :=
  ((c.accept n code).settle n refGood).measure n k

/-- The reference's part of a scan (R120, R121). -/
def Converter.reference (v : Converter) (code : Nat) : Converter :=
  if refInRange code then
    if v.refGood then { v with ch9 := some code }
    else { v with ch9 := some code, refRun := satSucc 20 v.refRun, refGood := decide (20 ≤ v.refRun + 1) }
  else
    { v with
      ch9 := some code, refGood := false, refRun := 0,
      refFails := if v.refGood then satSucc 255 v.refFails else v.refFails }

/-- An incline filter's part of a scan (R122): `before` and `c` are the channel before and after it. -/
def filterStep (f : Option Int) (before c : Channel) : Option Int :=
  match c.value with
  | some x =>
    if c.status = .ok ∧ c.fresh = true then
      match f with
      | some f => if before.status = .ok then some (f + x - roundDiv f 32) else some (32 * x)
      | none => some (32 * x)
    else f
  | none => f

/-- One scan (R110): the reference, then each channel in order, then the filters. -/
def Converter.scan (v : Converter) (codes : Scan) (cal : Vector Cal 9) : Converter :=
  let ref := codes[9].toNat
  let v1 := v.reference ref
  let chans :=
    if refInRange ref then
      mapAt v.chans fun n c => c.scan n (codes[n.val]'(by omega)).toNat v1.refGood cal[n]
    else mapAt v.chans fun _ c => c.drop
  { v1 with
    chans := chans, pitchF := filterStep v.pitchF v.chans[2] chans[2],
    rollF := filterStep v.rollF v.chans[3] chans[3] }

end Sys2Proof.Machine
end

