-- ==== Sys2Proof/Machine/DoorState.lean ====
section
/-!
DEFINITION. The door state derived from the switches (R94), the outputs of each phase (R95), and a phase beginning
or ending.
-/

namespace Sys2Proof.Machine

/-- The switches of a side. -/
def Inputs.switches (x : Inputs) : Side → DoorSwitches
  | .near => x.near
  | .off => x.off

/-- The door state that counted levels of CLOSED, LATCHED and OPEN give (R94). -/
def doorOf : Bool → Bool → Bool → DoorState
  | true, true, false => .shut
  | true, false, false => .closed
  | false, false, true => .opened
  | false, false, false => .ajar
  | false, true, false => .fault
  | false, true, true => .fault
  | true, false, true => .fault
  | true, true, true => .fault

/-- The door state derived from the switches of a side; UNKNOWN until all three have a counted level (R94). -/
def DoorSwitches.derive (d : DoorSwitches) : DoorState :=
  match d.closed.counted, d.latched.counted, d.opened.counted with
  | some c, some l, some o => doorOf c l o
  | _, _, _ => .unknown

/-- The derived state of a side. -/
def State.derived (s : State) (side : Side) : DoorState := (s.inputs.switches side).derive

/-! ### Switches counted in the event of an ending (R99 to R101, R105) -/

/-- Whether a new level is on its way to being counted. -/
def Debounced.moving (d : Debounced) : Bool := d.counted != some d.raw

/-- The latest sample becomes the counted level (R31). -/
def Debounced.count (d : Debounced) : Debounced := { d with counted := some d.raw }

/-- A switch whose new level has been steady for its debounce time by now is counted (R31). -/
def Debounced.countDue (d : Debounced) (now : Nat) : Debounced :=
  if d.moving && decide (d.since + Config.debounceMs ≤ now) then d.count else d

/-- Every switch of a side that is due is counted. -/
def DoorSwitches.countDue (d : DoorSwitches) (now : Nat) : DoorSwitches :=
  ⟨d.closed.countDue now, d.latched.countDue now, d.opened.countDue now⟩

/-- The switches of a side that are due are counted in the event of an ending, so that the state derived there has them
and no later change is left to note (R99 to R101, R105). -/
def State.countDue (s : State) (side : Side) : State :=
  match side with
  | .near => { s with inputs := { s.inputs with near := s.inputs.near.countDue s.now } }
  | .off => { s with inputs := { s.inputs with off := s.inputs.off.countDue s.now } }

/-! ### Phases -/

/-- A phase begins, with its timer at 0, its outputs commanded and the door state MOVING (R93 to R95). -/
def Door.enter (d : Door) (p : Phase) (now : Nat) : Door :=
  { d with
    state := .moving, phase := some p, phaseAt := now, obsSince := none,
    motorOpen := p == .opening || p == .reverse, motorClose := p == .closing || p == .pullin,
    latch := p == .unlatch }

/-- The outputs go off, the phase is cleared and the state is the derived one (R107). -/
def Door.stop (d : Door) (derived : DoorState) : Door :=
  { d with
    state := derived, phase := none, obsSince := none, motorOpen := false, motorClose := false, latch := false }

/-- A phase begins on a side; a side trail that runs is dropped (R151). -/
def State.enterPhase (s : State) (side : Side) (p : Phase) : State :=
  let s1 := s.setDoor side ((s.door side).enter p s.now)
  match side with
  | .near => { s1 with beac := { s1.beac with nearTrail := none } }
  | .off => { s1 with beac := { s1.beac with offTrail := none } }

/-- The door of a side stops with its record (R107). The levels it is derived from are the counted ones; which endings
first count a switch that is due in the same instant is said at `State.countDue` and in log entry 34. -/
def State.stopDoor (s : State) (side : Side) : State := s.setDoor side ((s.door side).stop (s.derived side))

/-- Side movement (R151). -/
def State.sideMoving (s : State) (side : Side) : Bool := (s.door side).phase.isSome

/-- The phase in which a door granted to a record begins, or the outcome it ends with at once (R96, R97). -/
def startPhase : Kind → DoorState → Phase ⊕ (RecOutcome × Option EndReason)
  | .doorOpen, .shut => .inl .unlatch
  | .doorOpen, .closed => .inl .opening
  | .doorOpen, .ajar => .inl .opening
  | .doorOpen, .opened => .inr (.done, none)
  | .doorShut, .opened => .inl .closing
  | .doorShut, .ajar => .inl .closing
  | .doorShut, .closed => .inl .pullin
  | .doorShut, .shut => .inr (.done, none)
  | _, _ => .inr (.failed, some .switches)

end Sys2Proof.Machine
end

