-- ==== Sys2Proof/Machine/Conditions.lean ====
section
/-!
DEFINITION. The interlock conditions (R35 to R39): each is computed from its sources, so it has its value in the
event in which a source changes. What each kind of record requires, and the first required condition that is false.
-/

namespace Sys2Proof.Machine

/-- Whether an authority includes a kind (R127). -/
def Auth.has (a : Auth) : Kind → Bool
  | .lift => a.lift
  | .tilt => a.tilt
  | .level => a.level
  | .stow => a.stow
  | .unstow => a.unstow
  | .doorOpen | .doorShut => false

/-- The authority of a role: that of a PENDANT or PLATFORM, none of the others (R128). -/
def Role.has : Role → Kind → Bool
  | .pendant a, k | .platform a, k => a.has k
  | .keypad _, _ | .cab, _ => false

/-- Whether a channel of a body switch or input is counted at a level (R31). -/
def Debounced.shows (d : Debounced) (level : Bool) : Bool := d.counted == some level

/-- The filtered tilt, or the last good one, is 800 or more (R20, R47, R141). False while CH1 has no value. -/
def State.stowed (s : State) : Bool :=
  match s.chanValue 1 with
  | some t => decide (800 ≤ t)
  | none => false

/-- Whether a lamp has a latched fault (R155 to R158). -/
def LampCh.faulty (c : LampCh) : Bool := c.openF || c.shortF || c.stuckF

/-- Whether a calibration pair lets `CALIB` hold (R36). -/
def Cal.sound (c : Cal) : Bool := c.mark && decide (1000 ≤ c.cHi - c.cLo)

/-- Whether a value lies within a distance of a point, both ends included. -/
def within (d at_ v : Int) : Bool := decide (at_ - d ≤ v) && decide (v ≤ at_ + d)

/-- The fourteen conditions that have one value for the whole part (R36). `HOLD` has one per record and is taken
as true here. DEDUCED, log entry 10. -/
def State.cond (s : State) : Cond → Bool
  | .parked => s.inputs.park.shows true && (match s.eval.speed with | some v => decide (v < 20) | none => false)
  | .master => s.inputs.master.shows true
  | .calib => s.settings.cal[0].sound && s.settings.cal[1].sound
  | .liftSns => s.chanOk 0
  | .tiltSns => s.chanOk 1
  | .presSns => s.chanOk 4
  | .inclSns => s.chanOk 2 && s.chanOk 3 && s.conv.pitchF.isSome && s.conv.rollF.isSome
  | .notStowed => s.chanOk 1 && (match s.chanValue 1 with | some t => decide (t < 800) | none => false)
  | .atBed =>
    s.chanOk 0 && (match s.chanValue 0 with | some h => within 30 s.settings.plain.bedHt h | none => false)
  | .bodyLvl => s.chanOk 2 && (match s.pitch with | some p => within 120 0 p | none => false)
  | .rollOk => s.chanOk 3 && (match s.roll with | some p => within 80 0 p | none => false)
  | .beaconOk =>
    !s.beac.lamps[0].faulty || !s.beac.lamps[1].faulty || decide (s.settings.plain.beacReq = 0)
  | .supply => s.supply.state == .normal || s.supply.state == .low
  | .oilOk => s.inputs.oilhot.shows false
  | .hold => true

/-- ENABLE counted pressed on a PRESENT station whose role and authority let it hold this kind (R37). -/
def Station.enables (x : Station) (k : Kind) : Bool :=
  x.state == .present && x.keys[1].pressed &&
    (match x.entry with | some e => e.role.has k | none => false)

/-- `HOLD` of a record (R37). Door records do not require it. -/
def State.holdOf (s : State) (r : Record) : Bool :=
  match r.origin, r.key with
  | .link, _ => s.bus.stations.toList.any fun x => x.enables r.kind
  | .station i, some k => s.bus.stations[i].keys[k].pressed && s.bus.stations[i].keys[1].pressed
  | .station _, none => false

/-- The value of a condition for a record. -/
def State.holds (s : State) (r : Record) : Cond → Bool
  | .hold => s.holdOf r
  | c => s.cond c

/-- The fixed order of R36. -/
def Cond.all : List Cond :=
  [.parked, .master, .calib, .liftSns, .tiltSns, .presSns, .inclSns, .notStowed, .atBed, .bodyLvl, .rollOk, .beaconOk,
    .supply, .oilOk, .hold]

/-- The STOP class of each kind (R38), in the order of R36. -/
def Kind.stopClass : Kind → List Cond
  | .lift => [.parked, .master, .calib, .liftSns, .presSns, .notStowed, .beaconOk]
  | .tilt => [.parked, .master, .calib, .tiltSns, .notStowed, .beaconOk]
  | .level => [.parked, .master, .calib, .tiltSns, .inclSns, .notStowed, .bodyLvl, .beaconOk]
  | .stow | .unstow => [.parked, .master, .calib, .liftSns, .tiltSns, .atBed, .beaconOk]
  | .doorOpen => [.parked, .rollOk]
  | .doorShut => []

/-- The PAUSE class of each kind (R38), in the order of R36, for a record that is or is not pump-driven. -/
def Kind.pauseClass (k : Kind) (pump : Bool) : List Cond :=
  match k with
  | .lift | .tilt | .level => if pump then [.supply, .oilOk, .hold] else [.hold]
  | .stow => [.supply, .oilOk, .hold]
  | .unstow => [.hold]
  | .doorOpen | .doorShut => []

/-- The filtered pitch with the trim, as `LEVEL` aims at it (R72), before the clamp. -/
def State.levelAim (s : State) : Option Int := s.pitch.map (· + s.settings.plain.lvlTrim)

/-- The target that a record would have if it were granted now (R39, R71, R72). -/
def State.aim (s : State) (r : Record) : Option Int :=
  match r.kind with
  | .lift | .tilt => r.target
  | .level => s.levelAim.map (clampInt (-100) 100)
  | .stow => some s.settings.plain.stowAng
  | .unstow => some 0
  | .doorOpen | .doorShut => none

/-- The provisional pump-driven decision (R39). DEDUCED, log entry 31. -/
def State.provisional (s : State) (r : Record) : Bool :=
  match r.kind with
  | .lift | .tilt | .level =>
    match s.aim r, s.chanValue r.kind.axisChan with
    | some t, some p => decide (p < t)
    | some _, none | none, _ => true
  | .stow => true
  | .unstow | .doorOpen | .doorShut => false

/-- Whether a record counts as pump-driven: the fixed decision once granted, the provisional one before. -/
def State.pumpOf (s : State) (r : Record) : Bool := r.pump.getD (s.provisional r)

/-- Every condition that a record requires, in the order of R36. -/
def State.required (s : State) (r : Record) : List Cond :=
  Cond.all.filter fun c => c ∈ r.kind.stopClass ++ r.kind.pauseClass (s.pumpOf r)

/-- The first condition of a list that is false for a record. -/
def State.firstFalse (s : State) (r : Record) (cs : List Cond) : Option Cond := cs.find? fun c => !s.holds r c

/-- The first false PAUSE-class condition. The key of a station record is no PAUSE-class condition of it (R27,
R42): its release ends the record. DEDUCED, log entry 31. -/
def State.pauseLost (s : State) (r : Record) : Option Cond :=
  s.firstFalse r ((r.kind.pauseClass (s.pumpOf r)).filter fun c =>
    !(c == .hold && (match r.origin with | .station _ => true | .link => false)))

/-- The first false STOP-class condition. -/
def State.stopLost (s : State) (r : Record) : Option Cond := s.firstFalse r r.kind.stopClass

end Sys2Proof.Machine
end

