-- ==== Sys2Proof/Machine/Runs.lean ====
section
/-!
DEFINITION. The axis controller's runs and the contactor that goes with them (R56, R68 to R79, R90), and the holds
of a record (R42 to R45).
-/

namespace Sys2Proof.Machine

/-! ### The settings that depend on the axis (R70) -/

/-- The slow zone. -/
def Plain.slowZone (p : Plain) (lift : Bool) : Int := if lift then p.liftSlow else p.tiltSlow

/-- The tolerance. -/
def Plain.tolerance (p : Plain) (lift : Bool) : Int := if lift then p.liftTol else p.tiltTol

/-- The run limit, in ms. -/
def Plain.runLimit (p : Plain) (lift : Bool) : Nat := (if lift then p.liftRun else p.tiltRun).toNat

/-- The coast in force (R78). -/
def Plain.coast (p : Plain) (lift : Bool) (dir : Dir) (nudge : Bool) : Int :=
  match lift, nudge, dir with
  | true, true, _ => p.liftCrep
  | true, false, .up => p.liftCoUp
  | true, false, .down => p.liftCoDn
  | false, true, _ => p.tiltCrep
  | false, false, _ => p.tiltCoas

/-- The remaining distance (R69). -/
def Run.rem (run : Run) (pos : Int) : Int :=
  match run.dir with
  | .up => run.target - pos
  | .down => pos - run.target

/-- A run that has no coast stop: a `LIFT` down to 0 (R87). -/
def Run.noStop (run : Run) : Bool := run.lift && run.dir == .down && decide (run.target = 0)

/-- The load estimate of a pressure value (R88). -/
def Plain.load (p : Plain) (pressure : Int) : Nat := ((pressure - p.pTare) * p.kLoad).toNat / 10

/-! ### The contactor (R56, R60) -/

/-- The contactor commanded on for a record's run, with the pump events of R62. -/
def State.pumpStart (s : State) (o : Origin) : State :=
  let s1 :=
    { s with
      arb :=
        { s.arb with
          contactor := .making, contactorAt := s.now, fbOpenSince := none, overSince := none, spanOrigin := some o } }
  s1.count ([.pumpStart, .pumpRun] ++ if s.engineOn then [] else [.engOffPump]) (some o) none s.axis.lastLoad

/-- A pump stop: the contactor goes OPEN and pump rest starts (R56, R60). -/
def State.pumpStop (s : State) : State :=
  { s with
    arb :=
      { s.arb with
        contactor := .opened, contactorAt := s.now, fbOpenSince := none, overSince := none, weldArmed := true,
        restUntil := some (s.now + Config.pumpRestMs) } }

/-! ### Runs (R74) -/

/-- The class of a run at its start (R75, R76). -/
def State.startClass (s : State) (r : Record) (run : Run) (nudge : Bool) (pos : Int) : SpeedClass :=
  if nudge || r.creep || (run.pump && s.cnt.derating) then .creep
  else if s.settings.plain.slowZone run.lift < run.rem pos then .fast
  else .creep

/-- Whether the latest pressure value lies below `GNDPRES` (R86). -/
def State.pressureLow (s : State) : Bool :=
  match s.chanOk 4, s.chanValue 4 with
  | true, some p => decide (p < s.settings.plain.gndPres)
  | _, _ => false

/-- The run data at the start of a run (R74). The ground time of a `LIFT` going down starts here where the pressure is
already low (R86). The overload time of a run whose test is already armed starts at the first load estimate taken in the
run (R89): DESIGN CHOICE, log entry 41. -/
def State.startRun (s : State) (r : Record) (run : Run) : Run :=
  let nudge := run.nudgeDue || run.lastRun == some .nudge
  let pos := s.reported r.kind.axisChan
  let kind : RunKind := if nudge then .nudge else .ordinary
  { run with
    runKind := some kind, lastRun := some kind, cls := some (s.startClass r run nudge pos),
    coast := s.settings.plain.coast run.lift run.dir nudge, runFrom := s.now, markPos := pos, markAt := s.now,
    groundSince := if run.lift && run.dir == .down && s.pressureLow then some s.now else none,
    overSince := none, settleEnd := none, nudgeDue := false, runs := run.runs + 1, runLoad := none }

/-- The record at the start of a run (R6, R74, R76, R82). -/
def State.startRecord (s : State) (run : Run) (r : Record) : Record :=
  { r with
    state := .running, wait := none, leadEnd := none, holdFrom := none,
    nudges := if run.nudgeDue then r.nudges + 1 else r.nudges,
    flags := { r.flags with derated := r.flags.derated || (run.pump && s.cnt.derating) } }

/-- The holder of the pack enters `RUNNING` and its run begins (R74, R56, R150). Class and `DERATED` flag are those of the
derating before the run's own `PUMPSTART` event; where that event makes derating active, it slows a run that began FAST and
flags it, and leaves one that began in CREEP unflagged (R76): DESIGN CHOICE, log entry 46. -/
def State.enterRunning (s : State) (h : Handle) : State :=
  match s.find h, s.axis.run with
  | some r, some run =>
    let next := s.startRun r run
    let s1 :=
      { (s.upd h (s.startRecord run)) with
        axis := { s.axis with run := some next, valves := valvesFor next.lift next.dir next.cls }
        beac := { s.beac with rearTrail := none } }
    if run.pump then s1.pumpStart r.origin else s1
  | _, _ => s

/-- The last load at the end of a run (R90): the load of the last pressure value of the run. Where no value was
taken in the run the manual states no result, and it is a free value. DESIGN CHOICE, log entry 8. -/
def State.storeLoad (s : State) (run : Run) : State :=
  if run.lift && run.dir == .up then
    match run.runLoad with
    | some w => { s with axis := { s.axis with lastLoad := w } }
    | none => { s with axis := { s.axis with lastLoad := Config.unstatedLoad s.fresh }, fresh := s.fresh + 1 }
  else s

/-- The present run ends (R74): valves, relay and contactor off, run time totalled, last load stored. The
record's own state is changed by the caller. -/
def State.leaveRun (s : State) : State :=
  match s.axis.run with
  | some run =>
    let s1 :=
      { s with
        axis :=
          { s.axis with
            valves := .off
            run :=
              some
                { run with
                  runAcc := run.runAcc + (s.now - run.runFrom), runKind := none, cls := none, groundSince := none,
                  overSince := none, runLoad := none } } }
    let s2 := s1.storeLoad run
    if run.pump then s2.pumpStop else s2
  | none => s

/-- The holder of the pack enters `HOLDING` for a lost condition (R10, R42 to R44). Its `HELD` notice stands before the
`SERVICE` notice of a crossing that its `HOLDS` event makes: the order of the two is a DESIGN CHOICE, log
entry 35. -/
def State.hold (s : State) (h : Handle) (c : Cond) : State :=
  match s.find h with
  | some r =>
    let s1 := if r.state = .running then s.leaveRun else s
    let s2 :=
      s1.upd h fun r =>
        { r with
          state := .holding, holds := satSucc 255 r.holds, wait := some (.cond c), leadEnd := none,
          holdFrom := some s.now }
    (s2.notify (.held h (.cond c))).count [.holds] (some r.origin) none s.axis.lastLoad
  | none => s

/-- The coast stop: the run ends and the record settles (R79, R80). -/
def State.coastStop (s : State) (h : Handle) : State :=
  let s1 := s.leaveRun.upd h fun r => { r with state := .settling, wait := none }
  { s1 with
    axis :=
      { s1.axis with
        run := s1.axis.run.map fun run => { run with settleEnd := some (s.now + s.settings.plain.settle.toNat) } } }

/-- A record goes on from a wait in `LEAD` or `SETTLING`, or from the end of its lead time (R10, R44, R82): to
`HOLDING` when a PAUSE-class condition is false, else to wait for pump rest, else to `RUNNING`. -/
def State.proceed (s : State) (r : Record) : State :=
  match s.pauseLost r with
  | some c => s.hold r.handle c
  | none =>
    if s.pumpOf r && s.resting then
      s.upd r.handle fun r => { r with wait := some .rest, leadEnd := none }
    else s.enterRunning r.handle

end Sys2Proof.Machine
end

