-- ==== Sys2Proof/Machine/Plan.lean ====
section
/-!
DEFINITION. The plan table: allocating handles, admitting records, ending them with their successors, and the halt
latch (R3 to R7, R13 to R18, R24, R28 to R30).
-/

namespace Sys2Proof.Machine

/-! ### Handles and sequence numbers (R4) -/

/-- The value after `n` in 1..255. -/
def succ255 (n : Nat) : Nat := if n < 255 then n + 1 else 1

/-- The first value from `n` on, in 1..255 cyclically, that is not in use; `fuel` values are tried. -/
def firstFree (used : List Nat) : Nat → Nat → Nat
  | 0, n => n
  | fuel + 1, n => if n ∈ used then firstFree used fuel (succ255 n) else n

/-- The handles in use (R4). -/
def Plan.used (p : Plan) : List Nat := p.records.map (·.handle) ++ p.recent.map (·.handle)

/-- The handle that the next admission allocates. -/
def Plan.newHandle (p : Plan) : Nat := firstFree p.used 255 p.nextHandle

/-- The sequence number that the next `SEQN` allocates. -/
def Plan.newSeq (p : Plan) : Nat := firstFree (p.records.filterMap (·.seq)) 255 p.nextSeq

/-! ### Entering the competition (R5) -/

/-- The state and wait reason of a record without a predecessor (R5, R6, R8). A `WAITING` record's reason is the
arbiter's. -/
def State.entry (s : State) (r : Record) : Record :=
  match s.firstFalse r (s.required r) with
  | some c => { r with state := .blocked, wait := some (.cond c) }
  | none => { r with state := .waiting, wait := if r.state = .waiting then r.wait else none }

/-- A record enters `BLOCKED` or `WAITING` from outside, and its wait time starts (R5, R7, R12). -/
def State.compete (s : State) (r : Record) : Record :=
  { s.entry { r with pred := none } with waitFrom := some s.now }

/-! ### Admission (R5, R16 to R19) -/

/-- What an admission asks for. -/
structure Ask where
  kind : Kind
  side : Option Side
  target : Option Int
  creep : Bool
  origin : Origin
  key : Option (Fin 6)
  pred : Option Handle
  seq : Option Nat
deriving DecidableEq, Repr

/-- The range a `LIFT` or `TILT` target is clamped to (R18). -/
def State.clampTarget (s : State) : Kind → Int → Int
  | .lift, n => clampInt 0 s.settings.plain.liftTop n
  | .tilt, n => clampInt (-100) 150 n
  | .level, n | .stow, n | .unstow, n | .doorOpen, n | .doorShut, n => n

/-- The record that an admission makes, before its state is decided (R2, R18). -/
def State.make (s : State) (a : Ask) : Record :=
  { handle := s.plan.newHandle, kind := a.kind, side := a.side, origin := a.origin,
    target := a.target.map (s.clampTarget a.kind), pred := a.pred, seq := a.seq, creep := a.creep,
    state := .pending, wait := none,
    flags := ⟨decide (a.target.map (s.clampTarget a.kind) ≠ a.target), false, false, false, false⟩,
    pump := none, holds := 0, nudges := 0, start := none, ended := none, waitFrom := none, leadEnd := none,
    holdFrom := none, key := a.key }

/-- Admits one record (R3 to R5). The caller has checked that there is a free entry. -/
def State.enrol (s : State) (a : Ask) : State :=
  let r := s.make a
  let r1 := if a.pred.isSome then r else s.compete r
  let p := s.plan
  { s with
    plan :=
      { p with
        records := p.records ++ [r1], peak := max p.peak (p.records.length + 1), nextHandle := succ255 r.handle } }

/-! ### Ending a record (R13) -/

/-- The outputs of a record go off (R13): its run if it is in one, its door if it holds the channel. -/
def State.stopOutputs (s : State) (r : Record) : State :=
  match r.side with
  | some side => if s.holdsDoor side r.handle then s.stopDoor side else s
  | none => if s.holdsPack r.handle && r.state == .running then s.leaveRun else s

/-- A trail started now, already expired when `TRAILMS` is 0 (R150, R151): it is expired before the arbiter's look of
that event, which therefore finds no trail. DESIGN CHOICE, log entry 44. -/
def State.newTrail (s : State) : Option Nat :=
  if s.settings.plain.trailMs = 0 then none else some (s.now + s.settings.plain.trailMs.toNat)

/-- The resource, the draw and the run data of an ending record are given up (R13, R48, R68), and the trail of the
movement that ends with it starts (R150, R151). `moved` says that there was rear or side movement. -/
def State.release (s : State) (r : Record) (moved : Bool) : State :=
  match r.side with
  | some side =>
    if s.holdsDoor side r.handle then
      let s1 := { s with arb := s.arb.setChannel side none }
      if moved then
        match side with
        | .near => { s1 with beac := { s1.beac with nearTrail := s.newTrail } }
        | .off => { s1 with beac := { s1.beac with offTrail := s.newTrail } }
      else s1
    else s
  | none =>
    if s.holdsPack r.handle then
      let s1 := { s with arb := { s.arb with pack := none }, axis := { s.axis with run := none } }
      if moved then { s1 with beac := { s1.beac with rearTrail := s.newTrail } } else s1
    else s

/-- The travel of an ended record (R91): 0 if it was never granted. -/
def travel : Option Pos → Pos → Int
  | some (.value a), .value b => b - a
  | some (.value _), .door _ | some (.door _), .value _ | some (.door _), .door _ | none, _ => 0

/-- The point sources that an end event feeds (R163). `ran` says that the record made a run or entered a phase. -/
def endSources (r : Record) (e : EndData) (ran : Bool) : List Source :=
  (match r.kind, e.outcome with
    | .lift, .done => if 500 ≤ travel r.start e.pos then [.liftCyc] else []
    | .stow, .done => if ran then [.stowCyc] else []
    | .doorOpen, .done | .doorShut, .done => if ran then [.doorCyc] else []
    | _, .failed => if e.reason = some .overload then [.overload, .fails] else [.fails]
    | _, _ => [])

/-- The entry of an ended record (R2, R13). -/
def Record.finish (r : Record) (e : EndData) : Record :=
  { r with wait := none, waitFrom := none, leadEnd := none, holdFrom := none, key := none, ended := some e }

/-- Ends one record, without its successors (R13). -/
def State.endOne (s : State) (h : Handle) (o : RecOutcome) (why : Option EndReason) : State :=
  match s.find h with
  | none => s
  | some r =>
    let moved :=
      match r.side with
      | some side => s.holdsDoor side h && s.sideMoving side
      | none => s.holdsPack h && r.state.granted
    let ran :=
      match r.side with
      | some _ => moved
      | none => s.holdsPack h && (match s.axis.run with | some run => decide (0 < run.runs) | none => false)
    let s1 := s.stopOutputs r
    let e : EndData := ⟨o, why, s1.posOf r⟩
    let s2 :=
      { s1 with
        plan :=
          { s1.plan with
            records := s1.plan.records.filter fun x => x.handle ≠ h
            recent := (r.finish e :: s1.plan.recent).take Config.recentCap } }
    let s3 := (s2.notify (.ended h r.kind o why e.pos)).release r moved
    s3.count (endSources r e ran) (some r.origin) r.side s3.axis.lastLoad

/-- The predecessor of a record has ended `DONE` (R7). -/
def State.freePred (s : State) (h : Handle) : State := s.upd h s.compete

/-- The direct successors of a record, in admission order (R7). -/
def State.successors (s : State) (h : Handle) : List Handle :=
  (s.plan.records.filter fun r => r.pred == some h).map (·.handle)

/-- Ends a record and takes its successors (R7, R13). `fuel` bounds the length of a chain. -/
def State.endChain : Nat → State → Handle → RecOutcome → Option EndReason → State
  | 0, s, _, _, _ => s
  | fuel + 1, s, h, o, why =>
    let next := s.successors h
    let s1 := s.endOne h o why
    match o with
    | .done => next.foldl State.freePred s1
    | .stopped | .failed | .cancelled =>
      next.foldl (fun t k => State.endChain fuel t k .cancelled (some .pred)) s1

/-- Ends a record and takes its successors. A chain is no longer than the table (R3). DEDUCED, log entry 32. -/
def State.endTree (s : State) (h : Handle) (o : RecOutcome) (why : Option EndReason) : State :=
  s.endChain (Config.tableCap + 1) h o why

/-- Ends records in the order given, none with `PRED` (R21, R28). DEDUCED, log entry 12. -/
def State.endEach (s : State) (hs : List Handle) (o : RecOutcome) (why : Option EndReason) : State :=
  hs.foldl (fun t h => t.endOne h o why) s

/-! ### Link supervision expires (R24, R187) -/

/-- A link record ends `LINKLOST`, and the station records that wait for it end `PRED` (R24). Its link successors are
ended by the expiry itself. -/
def State.endLost (s : State) (h : Handle) (o : RecOutcome) : State :=
  let next := (s.successors h).filter fun k =>
    match s.find k with
    | some x => x.origin != .link
    | none => false
  next.foldl (fun t k => t.endTree k .cancelled (some .pred)) (s.endOne h o (some .linkLost))

/-- Ends the link records, in admission order (R24). -/
def State.linkLostEnds (s : State) : State :=
  s.plan.records.foldl
    (fun t r =>
      match r.origin with
      | .station _ => t
      | .link => t.endLost r.handle (if r.state.granted then .failed else .cancelled))
    s

/-! ### The halt latch (R28 to R30) -/

/-- Whether a cause is among the present causes (R28). `LINKCHAR` and `REQUEST` are never present. -/
def HaltLatch.has (l : HaltLatch) : Cause → Bool
  | .linkChar | .request => false
  | .station i => l.stations[i]
  | .estop => l.estop
  | .welded => l.welded

/-- A cause joins the present causes or leaves them (R28). -/
def HaltLatch.mark (l : HaltLatch) (c : Cause) (on : Bool) : HaltLatch :=
  match c with
  | .linkChar | .request => l
  | .station i => { l with stations := modAt l.stations i fun _ => on }
  | .estop => { l with estop := on }
  | .welded => { l with welded := on }

/-- Whether a cause is one that can be present (R30). -/
def Cause.lasting : Cause → Bool
  | .linkChar | .request => false
  | .station _ | .estop | .welded => true

/-- Whether any cause is present (R30). -/
def HaltLatch.present (l : HaltLatch) : Bool := l.estop || l.welded || l.stations.toList.any id

/-- The origin a `HALTS` event carries (R163). -/
def Cause.origin : Cause → Option Origin
  | .linkChar | .request => some .link
  | .station i => some (.station i)
  | .estop | .welded => none

/-- A halt event (R28). The `HALTS` event reaches the counters after the endings. DEDUCED, log entry 12. -/
def State.raiseHalt (s : State) (c : Cause) : State :=
  if s.halt.set then
    if c.lasting && !s.halt.has c then { s with halt := s.halt.mark c true }.notify (.halted c) else s
  else
    let s1 := { s with halt := { s.halt with set := true, first := some c }.mark c true }.notify (.halted c)
    let s2 := s1.endEach s1.handles .cancelled (some .halted)
    s2.count [.halts] c.origin none s2.axis.lastLoad

/-- The latch is cleared (R30). -/
def State.clearHalt (s : State) : State :=
  { s with
    halt := { set := false, first := none, estop := false, welded := false, stations := Vector.replicate 6 false } }

end Sys2Proof.Machine
end

