-- ==== Sys2Proof/Machine/Arbiter.lean ====
section
/-!
DEFINITION. The arbiter's looks and grants (R48 to R55), and what a grant does at the axis controller and the
door channel (R9, R71 to R73, R96, R97).
-/

namespace Sys2Proof.Machine

/-! ### Candidates (R52, R54) -/

/-- Whether a record is a station tail-lift record. -/
def Record.isStation (r : Record) : Bool :=
  match r.origin with
  | .link => false
  | .station _ => true

/-- The candidates for the power pack: station records first, then link records, oldest first (R52). -/
def State.packCandidates (s : State) : List Record :=
  let c := s.plan.records.filter fun r => r.kind.isLift && r.state == .waiting
  c.filter Record.isStation ++ c.filter fun r => !r.isStation

/-- The candidates for a door channel, oldest first (R54). -/
def State.doorCandidates (s : State) (side : Side) : List Record :=
  s.plan.records.filter fun r => r.side == some side && r.state == .waiting

/-- A record's wait reason is set. -/
def State.setWait (s : State) (h : Handle) (w : WaitReason) : State := s.upd h fun r => { r with wait := some w }

/-- Every record of a list waits with the same reason. -/
def State.setWaits (s : State) (rs : List Record) (w : WaitReason) : State :=
  rs.foldl (fun t r => t.setWait r.handle w) s

/-! ### The power pack (R9, R52, R53, R71 to R73) -/

/-- The declared draw of a tail-lift record (R49). -/
def State.packDraw (s : State) (pump : Bool) : Nat :=
  (if pump then s.settings.plain.pumpDraw else s.settings.plain.valvDraw).toNat

/-- The run data at grant (R68, R71, R73). -/
def Run.fresh (target : Int) (pump lift : Bool) : Run :=
  { target := target, dir := if pump then .up else .down, pump := pump, lift := lift, runKind := none, lastRun := none,
    cls := none, coast := 0, runAcc := 0, runFrom := 0, markPos := 0, markAt := 0, groundSince := none, armed := false,
    overSince := none, settleEnd := none, nudgeDue := false, runs := 0, runLoad := none }

/-- The already-there test (R73). -/
def State.alreadyThere (s : State) (k : Kind) (target pos : Int) : Bool :=
  match k with
  | .lift => within (s.settings.plain.tolerance true) target pos
  | .tilt | .level => within (s.settings.plain.tolerance false) target pos
  | .stow => decide (s.settings.plain.stowAng - s.settings.plain.tiltTol ≤ pos)
  | .unstow => decide (pos ≤ s.settings.plain.tiltTol)
  | .doorOpen | .doorShut => false

/-- Whether the target of a `LEVEL` had to be clamped (R72). -/
def State.limited (s : State) (k : Kind) : Bool :=
  match k, s.levelAim with
  | .level, some n => clampInt (-100) 100 n != n
  | _, _ => false

/-- The record at its grant (R9, R72): start position, pump-driven decision, frozen target. -/
def State.grantRecord (s : State) (pump : Bool) (r : Record) : Record :=
  { r with
    start := some (s.posOf r), pump := some pump,
    target := if r.kind = .level then s.aim r else r.target,
    flags := { r.flags with limited := r.flags.limited || s.limited r.kind } }

/-- How a record moves at its grant when it is not already there (R9). -/
def State.afterGrant (s : State) (h : Handle) (pump : Bool) : State :=
  if s.beac.rearTrail.isSome then
    if pump && s.resting then
      { (s.upd h fun r => { r with state := .lead, wait := some .rest, leadEnd := none }) with
        beac := { s.beac with rearTrail := none } }
    else s.enterRunning h
  else
    s.upd h fun r =>
      { r with state := .lead, wait := none, leadEnd := some (s.now + s.settings.plain.leadMs.toNat) }

/-- The power pack is granted to a candidate (R9, R53). -/
def State.grantPack (s : State) (r : Record) : State :=
  let pump := s.provisional r
  let target := (s.aim r).getD 0
  let pos := s.reported r.kind.axisChan
  let s1 :=
    { (s.upd r.handle (s.grantRecord pump)) with
      arb := { s.arb with pack := some ⟨r.handle, s.packDraw pump⟩ }
      axis := { s.axis with run := some (Run.fresh target pump (r.kind == Kind.lift)) } }
  if s.alreadyThere r.kind target pos then s1.endTree r.handle .done none else s1.afterGrant r.handle pump

/-- The power pack's part of a look (R52). -/
def State.lookPack (s : State) : State :=
  match s.packCandidates with
  | [] => s
  | r :: rest =>
    let s1 := s.setWaits rest .pack
    let pump := s.provisional r
    if s.arb.pack.isSome then s1.setWait r.handle .pack
    else if pump && s.supply.state != .normal then s1.setWait r.handle .reserve
    else if s.limit < s.committed + s.packDraw pump then s1.setWait r.handle .budget
    else s1.grantPack r

/-! ### The door channels (R54, R96, R97) -/

/-- Whether the first power-pack candidate waits for budget alone (R54). -/
def State.budgetHeld (s : State) : Bool :=
  match s.packCandidates with
  | [] => false
  | r :: _ => r.wait == some .budget

/-- A door channel is granted to a candidate (R9, R54). -/
def State.grantDoor (s : State) (side : Side) (r : Record) : State :=
  let found := (s.door side).state
  let s1 :=
    { (s.upd r.handle fun r => { r with state := .running, wait := none, start := some (.door found) }) with
      arb := s.arb.setChannel side (some ⟨r.handle, s.settings.plain.doorDraw.toNat⟩) }
  match startPhase r.kind found with
  | .inl p => s1.enterPhase side p
  | .inr (o, why) => s1.endTree r.handle o why

/-- A door channel's part of a look (R54). -/
def State.lookDoor (s : State) (side : Side) : State :=
  match s.doorCandidates side with
  | [] => s
  | r :: rest =>
    let s1 := s.setWaits rest .channel
    if (s.arb.channel side).isSome then s1.setWait r.handle .channel
    else if s.limit < s.committed + s.settings.plain.doorDraw.toNat || s.budgetHeld then s1.setWait r.handle .budget
    else s1.grantDoor side r

/-! ### Looks (R51) -/

/-- One look: the power pack, then NEAR, then OFF. -/
def State.lookOnce (s : State) : State := ((s.lookPack).lookDoor .near).lookDoor .off

/-- A look, and a further one whenever a grant ended its record at once (R51). -/
def State.looks : Nat → State → State
  | 0, s => s
  | fuel + 1, s =>
    let s1 := s.lookOnce
    if s1.plan.records.length < s.plan.records.length then State.looks fuel s1 else s1

/-- The looks of one event. Each further look follows an ending, so there are at most as many as records.
DEDUCED, log entry 11. -/
def State.look (s : State) : State := s.looks (Config.tableCap + 1)

end Sys2Proof.Machine
end

