-- ==== Sys2Proof/Machine/Beacons.lean ====
section
/-!
DEFINITION. The beacon controller's demands, patterns and levels (R148 to R154, R157), the drive-away flag (R47),
the report of the conditions to the plan table (R35, R40 to R45), and the close of an event, in which all of these
follow from what the event has changed.
-/

namespace Sys2Proof.Machine

/-! ### The drive-away flag (R47) -/

/-- Whether the drive-away test holds. -/
def State.drivesAway (s : State) : Bool :=
  (match s.eval.speed with | some v => decide (50 ≤ v) | none => false) &&
    (s.near.state != .shut || s.off.state != .shut || !s.stowed)

/-- The flag follows its test; each setting queues a `DRIVEAWAY` notice (R47). -/
def State.driveAway (s : State) : State :=
  let s1 := { s with eval := { s.eval with driveAway := s.drivesAway } }
  if s.drivesAway && !s.eval.driveAway then
    s1.notify (.driveAway (s.eval.speed.getD 0) s.near.state s.off.state (s.reported 1))
  else s1

/-! ### Beacons and sounder -/

/-- The place of a channel. -/
def lampIdx : Lamp → Fin 5
  | .b0 => 0
  | .b1 => 1
  | .b2 => 2
  | .b3 => 3
  | .snd => 4

/-- The channel at a place. -/
def lampAt (i : Fin 5) : Lamp :=
  match i with
  | 0 => .b0
  | 1 => .b1
  | 2 => .b2
  | 3 => .b3
  | 4 => .snd

/-- Whether a pattern's output is on in a slot (R148). -/
def Pattern.on (p : Pattern) (slot : Nat) : Bool :=
  match p with
  | .off => false
  | .steady => true
  | .flash | .altA => decide (slot % 10 < 5)
  | .altB => decide (5 ≤ slot % 10)
  | .fast => decide (slot % 4 < 2)
  | .double => decide (slot = 0 ∨ slot = 2 ∨ slot = 10 ∨ slot = 12)

/-- Whether ALARM is active on a channel (R153). -/
def State.alarm (s : State) (l : Lamp) : Bool :=
  s.eval.driveAway ||
    (match l with
      | .b0 | .b1 | .snd => s.halt.set
      | .b2 | .b3 => false)

/-- Whether MOTION is active on a channel (R149 to R152). -/
def State.motion (s : State) (l : Lamp) : Bool :=
  match l with
  | .b0 | .b1 => s.rearMoving || s.beac.rearTrail.isSome
  | .b2 => s.sideMoving .near || s.beac.nearTrail.isSome
  | .b3 => s.sideMoving .off || s.beac.offTrail.isSome
  | .snd =>
    decide (s.settings.plain.sndMove = 1) &&
      (match s.packRecord with
        | some r => r.state == .running
        | none => false)

/-- The class of a channel (R154). -/
def State.demand (s : State) (l : Lamp) (host : Pattern) : DemandClass :=
  if s.alarm l then .alarm
  else if s.motion l then .motion
  else if host ≠ .off then .host
  else .off

/-- The pattern of a class on a channel (R154). -/
def patternOf (l : Lamp) (host : Pattern) : DemandClass → Pattern
  | .alarm => .fast
  | .motion => if l = .snd then .double else .flash
  | .host => host
  | .off => .off

/-- The commanded level is set (R148). A switch-on starts the check and sets the mismatch time back; the read-backs of
the 50 ms after it are not compared (R155, R156). A switch-off abandons the check; a mismatch that begins with it counts
from it. -/
def LampCh.drive (c : LampCh) (on : Bool) (now : Nat) : LampCh :=
  if c.level = on then c
  else if on then
    { c with level := true, checkAt := some (now + Config.lampCheckMs), compareFrom := now + Config.lampCheckMs }
  else { c with level := false, checkAt := none, compareFrom := max c.compareFrom now }

/-- A channel resolved, and its level set for the present slot (R148, R154, R157). -/
def State.resolve (s : State) (l : Lamp) (c : LampCh) : LampCh :=
  let cls := s.demand l c.host
  let p := patternOf l c.host cls
  { c with cls := cls, pattern := p }.drive (p.on s.beac.slot && !c.forced) s.now

/-- All five channels resolved. -/
def State.resolveAll (s : State) : State :=
  { s with beac := { s.beac with lamps := mapAt s.beac.lamps fun i c => s.resolve (lampAt i) c } }

/-! ### The report of the conditions (R35) -/

/-- What the conditions as they stand do to one record (R8, R10, R40 to R45). Every granted record had its
required conditions true before, so a false one has been lost. A `DOOROPEN` in `WAITING` that loses `PARKED` or `ROLLOK` goes
to `BLOCKED` by R8 and R40, where R106 has a door record in `WAITING` ended by that loss: DESIGN CHOICE, log entry 50. -/
def State.judge (s : State) (h : Handle) : State :=
  match s.find h with
  | none => s
  | some r =>
    match r.state with
    | .pending => s
    | .blocked | .waiting => s.upd h s.entry
    | .lead =>
      match s.stopLost r with
      | some c => s.endTree h .failed (some (.cond c))
      | none =>
        match s.firstFalse r ((r.kind.pauseClass (s.pumpOf r)).filter fun c => c != .hold) with
        | some c => s.hold h c
        | none => if r.wait = some .rest ∧ s.resting = false then s.proceed r else s
    | .running =>
      match s.stopLost r with
      | some c => s.endTree h .failed (some (.cond c))
      | none =>
        match s.pauseLost r with
        | some c => s.hold h c
        | none => s
    | .settling =>
      match s.stopLost r with
      | some c => s.endTree h .failed (some (.cond c))
      | none => if r.wait = some .rest then s.proceed r else s
    | .holding =>
      match s.stopLost r with
      | some c => s.endTree h .failed (some (.cond c))
      | none =>
        match s.pauseLost r with
        | some c => s.setWait h (.cond c)
        | none =>
          if s.pumpOf r && s.resting then s.setWait h .rest else s.enterRunning h

/-- The report of one event: every record in admission order (R35, R37). -/
def State.report (s : State) : State := s.handles.foldl State.judge s

/-! ### The close of an event -/

/-- What follows in the same event from what it has changed: the conditions' report (R35), the arbiter's look (R51),
the drive-away flag (R47), the beacons (R154) and the `SERVICE` notices of the event's crossings (R168).

DESIGN CHOICE, log entry 37: the drive-away test comes after the report and the look, so a `DRIVEAWAY` notice stands after the
event's `ENDED` notices and carries the door states that the look leaves; and the beacons are resolved once, so a demand
that ends and begins again within one event makes no switch-off and no switch-on. -/
def State.conclude (s : State) : State := s.report.look.driveAway.resolveAll.queueServices

end Sys2Proof.Machine
end

