-- ==== Sys2Proof/Machine/Doors.lean ====
section
/-!
DEFINITION. The door channels: switch changes (R98 to R102, R104, R108) and obstruction (R103 to R105).
-/

namespace Sys2Proof.Machine

/-- The record that drives a door ends (R107). -/
def State.endDoor (s : State) (side : Side) (o : RecOutcome) (why : Option EndReason) : State :=
  match s.arb.channel side with
  | some x => s.endTree x.handle o why
  | none => s

/-- A change of the derived state with nothing driving the door (R94, R108). -/
def State.doorMoved (s : State) (side : Side) : State :=
  let old := (s.door side).state
  let new := s.derived side
  let s1 := s.setDoor side { s.door side with state := new }
  if old = new ∨ old = .unknown then s1 else s1.notify (.doorMoved side old new)

/-- What a switch change does in a phase (R98 to R102, R104): `c` is the combination, and `back` says that OPEN
has closed in this event. DEDUCED, log entry 27. -/
def State.phaseSwitched (s : State) (side : Side) (p : Phase) (c : DoorState) (back : Bool) : State :=
  match p, c with
  | .reverse, _ => if back then s.endDoor side .failed (some .obstruct) else s
  | .unlatch, .fault | .opening, .fault | .closing, .fault | .pullin, .fault =>
    s.endDoor side .failed (some .switches)
  | .unlatch, .closed | .unlatch, .ajar => s.enterPhase side .opening
  | .unlatch, .opened | .opening, .opened => s.endDoor side .done none
  | .closing, .closed => s.enterPhase side .pullin
  | .closing, .shut | .pullin, .shut => s.endDoor side .done none
  | .unlatch, .shut | .unlatch, .unknown | .unlatch, .moving => s
  | .opening, .shut | .opening, .closed | .opening, .ajar | .opening, .unknown | .opening, .moving => s
  | .closing, .opened | .closing, .ajar | .closing, .unknown | .closing, .moving => s
  | .pullin, .opened | .pullin, .closed | .pullin, .ajar | .pullin, .unknown | .pullin, .moving => s

/-- The counted levels of a side's switches have changed (R94, R98 to R102, R108). -/
def State.doorSwitched (s : State) (side : Side) (back : Bool) : State :=
  match (s.door side).phase with
  | some p => s.phaseSwitched side p (s.derived side) back
  | none => s.doorMoved side

/-- The record that drives a door ends, with the door derived from the switches as they stand at this moment (R99 to
R101, R105). -/
def State.settleDoor (s : State) (side : Side) (o : RecOutcome) (why : Option EndReason) : State :=
  (s.countDue side).endDoor side o why

/-- An obstruction in a phase (R103 to R105). It reverses a closing leaf, unless it is taken because the current
cannot be read. -/
def State.obstruct (s : State) (side : Side) (measured : Bool) : State :=
  match (s.door side).phase with
  | some .closing =>
    if measured then s.enterPhase side .reverse else s.settleDoor side .failed (some .obstruct)
  | some .opening => s.settleDoor side .failed (some .obstruct)
  | some .unlatch | some .pullin | some .reverse | none => s

/-- The current channel of a side (R93). -/
def currentChan : Side → Fin 9
  | .near => 7
  | .off => 8

/-- Whether the motor current of a side is watched in its phase (R103). -/
def Door.watched (d : Door) : Bool := d.phase == some .opening || d.phase == some .closing

/-- A new value of a side's motor current, or its loss (R103). `wasOk` is the channel's status before the scan. A value at
exactly 300 ms is compared: DEDUCED, log entry 26. At the first moment compared the status is the one after that scan, so a
channel that enters OK with it is compared and is no obstruction, whatever it was as the blanking time ended: DESIGN CHOICE,
log entry 49. -/
def State.doorCurrent (s : State) (side : Side) (wasOk : Bool) : State :=
  let d := s.door side
  if d.watched then
    let compared := decide (d.phaseAt + Config.blankingMs ≤ s.now)
    if s.chanOk (currentChan side) then
      if compared then
        s.setDoor side
          { d with
            obsSince :=
              holdSince (decide (s.settings.plain.doorObs < s.reported (currentChan side))) s.now d.obsSince }
      else s
    else if wasOk || compared then s.obstruct side false
    else s
  else s

end Sys2Proof.Machine
end

