-- ==== Sys2Proof/Machine/Lamps.lean ====
section
/-!
DEFINITION. The read-backs and the lamp faults: sampling a drive level (R156), latching a fault (R155 to R157) and
clearing a channel's set (R160).
-/

namespace Sys2Proof.Machine

/-- Whether a channel has a fault latched. -/
def LampCh.has (c : LampCh) : LampFault → Bool
  | .openLoad => c.openF
  | .short => c.shortF
  | .stuck => c.stuckF

/-- The latched faults of a channel, in the order of Formats on the wire. -/
def LampCh.faults (c : LampCh) : List LampFault :=
  (if c.openF then [.openLoad] else []) ++ (if c.shortF then [.short] else []) ++ if c.stuckF then [.stuck] else []

/-- A fault is added to a channel's set; a short forces the channel off (R157). -/
def LampCh.latch (c : LampCh) (f : LampFault) (now : Nat) : LampCh :=
  match f with
  | .openLoad => { c with openF := true }
  | .short => { c with shortF := true, forced := true }.drive false now
  | .stuck => { c with stuckF := true }

/-- A channel's record replaced. -/
def State.updLamp (s : State) (l : Lamp) (f : LampCh → LampCh) : State :=
  { s with beac := { s.beac with lamps := modAt s.beac.lamps (lampIdx l) f } }

/-- A fault found by a check or a read-back is latched, with its `LAMP` notice (R157). -/
def State.latchFault (s : State) (l : Lamp) (f : LampFault) : State :=
  if s.beac.lamps[lampIdx l].has f then s else (s.updLamp l fun c => c.latch f s.now).notify (.lamp l f)

/-- A read-back of the drive level (R156). A mismatch that begins with it counts from it, or from the end of the 50 ms
after a switch-on. DESIGN CHOICE, log entry 19. -/
def LampCh.sampleBack (c : LampCh) (level : Bool) (now : Nat) : LampCh :=
  if c.readBack = level then c else { c with readBack := level, compareFrom := max c.compareFrom now }

/-- The set is emptied, the forcing lifted and the mismatch time set to 0 (R160). -/
def LampCh.clear (c : LampCh) (now : Nat) : LampCh :=
  { c with
    openF := false, shortF := false, stuckF := false, forced := false, compareFrom := max c.compareFrom now }

/-- The sets of the channels named are emptied (R160). -/
def State.clearFaults (s : State) (ls : List Lamp) : State :=
  ls.foldl (fun t l => t.updLamp l fun c => c.clear s.now) s

/-- How many faults the channels named have latched. -/
def State.faultCount (s : State) (ls : List Lamp) : Nat :=
  (ls.map fun l => s.beac.lamps[lampIdx l].faults.length).sum

end Sys2Proof.Machine
end

