-- ==== Sys2Proof/Machine/Supply.lean ====
section
/-!
DEFINITION. The supply monitor (R63 to R66) and the settings store's saves (R196 to R198).
-/

namespace Sys2Proof.Machine

/-- The band that the first value lies in (R63). -/
def Plain.band (p : Plain) (v : Int) : SupplyState :=
  if v < p.batCrit then .critical else if v < p.batLow then .low else .normal

/-- The windows of a state after one value (R64). A window that does not lead out of the state does not run. -/
def Supply.watch (u : Supply) (p : Plain) (v : Int) (engine : Bool) (now : Nat) : Supply :=
  match u.state with
  | .unknown => { u with low := none, crit := none, up := none }
  | .normal =>
    { u with
      low := holdSince (decide (v < p.batLow) && !engine) now u.low
      crit := holdSince (decide (v < p.batCrit)) now u.crit, up := none }
  | .low =>
    { u with
      low := none, crit := holdSince (decide (v < p.batCrit)) now u.crit
      up := holdSince (decide (2420 ≤ v)) now u.up }
  | .critical => { u with low := none, crit := none, up := holdSince (decide (2240 ≤ v)) now u.up }

/-- The supply goes to a state, with its windows started anew and a `SUPPLY` notice (R64, R65).
DEDUCED, log entry 13. -/
def State.enterSupply (s : State) (new : SupplyState) : State :=
  let v := s.reported 5
  { s with
    supply :=
      { state := new, low := none, crit := none, up := none : Supply }.watch s.settings.plain v s.engineOn s.now }.notify
    (.supply s.supply.state new v)

/-- The monitor's part of a scan (R63, R64, R66). -/
def State.supplyScan (s : State) : State :=
  match s.chanOk 5, s.chanValue 5 with
  | true, some v =>
    if s.supply.state = .unknown then s.enterSupply (s.settings.plain.band v)
    else { s with supply := s.supply.watch s.settings.plain v s.engineOn s.now }
  | _, _ => { s with supply := { s.supply with low := none, crit := none, up := none } }

/-- The windows that lead out of the present state, each with when it completes and where it leads (R64). -/
def Supply.exits (u : Supply) : List (Nat × SupplyState) :=
  match u.state with
  | .unknown => []
  | .normal =>
    (match u.crit with | some t => [(t + 500, .critical)] | none => []) ++
      (match u.low with | some t => [(t + 2000, .low)] | none => [])
  | .low =>
    (match u.crit with | some t => [(t + 500, .critical)] | none => []) ++
      (match u.up with | some t => [(t + 2000, .normal)] | none => [])
  | .critical => (match u.up with | some t => [(t + 1000, .low)] | none => [])

/-- The window that completes first; of two that complete together the one to CRITICAL, which stands first (R64).
DEDUCED, log entry 13. -/
def firstExit : List (Nat × SupplyState) → Option (Nat × SupplyState)
  | [] => none
  | x :: rest =>
    match firstExit rest with
    | none => some x
    | some y => if x.1 ≤ y.1 then some x else some y

/-- A save starts: the image is marked invalid and the snapshot taken (R196). -/
def State.startSave (s : State) : State :=
  { s with
    store :=
      { s.store with
        image := { s.store.image with valid := false }
        save := some ⟨s.settings, s.cnt.recs, s.now + Config.saveMs⟩ } }

/-- MASTER off asks for a save (R198). -/
def State.askSave (s : State) : State :=
  if s.store.save.isSome then { s with store := { s.store with due := true } } else s.startSave

/-- A save ends with a valid image, and a due save starts (R196, R198). -/
def State.endSave (s : State) (x : Save) : State :=
  let s1 := { s with store := { s.store with image := ⟨true, x.settings, x.counters⟩, save := none } }
  if s.store.due then { s1 with store := { s1.store with due := false } }.startSave else s1

end Sys2Proof.Machine
end

