-- ==== Sys2Proof/Machine/Inputs.lean ====
section
/-!
DEFINITION. The discrete inputs (R31 to R33), the contactor's feedback (R57 to R59) and the road speed (R34).
-/

namespace Sys2Proof.Machine

/-! ### Debounced inputs (R31) -/

/-- One switch of a side. -/
def DoorSwitches.get (d : DoorSwitches) : Switch → Debounced
  | .closed => d.closed
  | .latched => d.latched
  | .opened => d.opened

/-- One switch of a side replaced. -/
def DoorSwitches.put (d : DoorSwitches) (sw : Switch) (x : Debounced) : DoorSwitches :=
  match sw with
  | .closed => { d with closed := x }
  | .latched => { d with latched := x }
  | .opened => { d with opened := x }

/-- One debounced input. -/
def Inputs.get (v : Inputs) : DInput → Debounced
  | .park => v.park
  | .ign => v.ign
  | .engine => v.engine
  | .master => v.master
  | .oilhot => v.oilhot
  | .door side sw => (v.switches side).get sw

/-- One debounced input replaced. -/
def Inputs.put (v : Inputs) (d : DInput) (x : Debounced) : Inputs :=
  match d with
  | .park => { v with park := x }
  | .ign => { v with ign := x }
  | .engine => { v with engine := x }
  | .master => { v with master := x }
  | .oilhot => { v with oilhot := x }
  | .door .near sw => { v with near := v.near.put sw x }
  | .door .off sw => { v with off := v.off.put sw x }

/-- The debounce time of an input, in ms (R31). -/
def debounceMs : DInput → Nat
  | .engine => Config.engineDebounceMs
  | .park | .ign | .master | .oilhot | .door _ _ => Config.debounceMs

/-- A sample of a debounced input: a level other than the last sample restarts its count (R31). -/
def Debounced.sample (d : Debounced) (level : Bool) (now : Nat) : Debounced :=
  if d.raw = level then d else { d with raw := level, since := now }

/-- The inputs of a list that have a new level to count, each once. -/
def Inputs.due (v : Inputs) (ins : List DInput) : List DInput := ins.dedup.filter fun d => (v.get d).moving

/-- When the last of these inputs has been steady for its debounce time. -/
def Inputs.dueAt (v : Inputs) (ins : List DInput) : Nat :=
  ins.foldl (fun t d => max t ((v.get d).since + debounceMs d)) 0

/-- The inputs with each of a list counted. -/
def Inputs.countAll (v : Inputs) (ins : List DInput) : Inputs := ins.foldl (fun v d => v.put d (v.get d).count) v

/-- Whether a list holds a switch of a side. -/
def touches (ins : List DInput) (side : Side) : Bool :=
  ins.any fun d =>
    match d with
    | .door x _ => x == side
    | .park | .ign | .engine | .master | .oilhot => false

/-- The switches of a side have been handed to its door channel (R33). `v` are the inputs before. -/
def State.handDoor (s : State) (v : Inputs) (ins : List DInput) (side : Side) : State :=
  if touches ins side then
    s.doorSwitched side ((s.inputs.switches side).opened.shows true && !(v.switches side).opened.shows true)
  else s

/-- ENGINE handed to the supply monitor and the duty counters (R33, R64, R163). -/
def State.handEngine (s : State) (v : Inputs) : State :=
  match v.engine.counted, s.inputs.engine.counted with
  | some true, some false =>
    if s.arb.contactor = .opened then s else s.count [.engOffPump] s.arb.spanOrigin none s.axis.lastLoad
  | some false, some true | none, some true => { s with supply := { s.supply with low := none } }
  | _, _ => s

/-- MASTER handed to the settings store (R33, R198). -/
def State.handMaster (s : State) (v : Inputs) : State :=
  if v.master.counted = some true ∧ s.inputs.master.counted = some false then s.askSave else s

/-- New counted levels, handed to the blocks that act on them (R33). The conditions and the arbiter follow at the
close of the event, so the snapshot of a save that MASTER off asks for is taken before the records that its loss ends
are counted. DESIGN CHOICE, log entry 36. -/
def State.countInputs (s : State) (ins : List DInput) : State :=
  let v := s.inputs
  let s1 := { s with inputs := v.countAll ins }
  (((s1.handDoor v ins .near).handDoor v ins .off).handEngine v).handMaster v

/-! ### ESTOP (R32, R200) -/

/-- An active sample of ESTOP. During the image read it is not acted on (R200). -/
def State.estopOn (s : State) : State :=
  let s1 := { s with inputs := { s.inputs with estopRaw := true, estopQuiet := none } }
  if s.startup.reading || s.inputs.estopCounted then s1
  else { s1 with inputs := { s1.inputs with estopCounted := true } }.raiseHalt .estop

/-- An inactive sample of ESTOP: the release count runs while it is counted active. -/
def State.estopOff (s : State) : State :=
  { s with
    inputs :=
      { s.inputs with
        estopRaw := false
        estopQuiet := if s.inputs.estopCounted then some (s.inputs.estopQuiet.getD s.now) else none } }

/-- The release is counted, and the cause stops being present (R30, R32). -/
def State.estopReleased (s : State) : State :=
  { s with
    inputs := { s.inputs with estopCounted := false, estopQuiet := none }, halt := s.halt.mark .estop false }

/-! ### PUMP_FB (R57 to R59) -/

/-- MAKING goes to MADE (R57). -/
def State.contactorMade (s : State) : State :=
  { s with
    arb := { s.arb with contactor := .made, fbOpenSince := none }, inputs := { s.inputs with pumpFb := true } }

/-- The weld event (R59). -/
def State.welded (s : State) : State :=
  { s with
    arb := { s.arb with weldArmed := false }, inputs := { s.inputs with pumpFb := true } }.raiseHalt .welded

/-- A closed sample of PUMP_FB (R57 to R59). During the image read it raises no halt (R200). -/
def State.feedbackClosed (s : State) : State :=
  match s.arb.contactor with
  | .making => s.contactorMade
  | .made =>
    { s with arb := { s.arb with fbOpenSince := none }, inputs := { s.inputs with pumpFb := true } }
  | .opened =>
    if s.arb.contactorAt + Config.contactorMs ≤ s.now ∧ s.arb.weldArmed = true ∧ s.startup.reading = false then s.welded
    else { s with inputs := { s.inputs with pumpFb := true } }

/-- An open sample of PUMP_FB: the `WELDED` cause is no longer present (R30), the weld detection is armed again (R59)
and the open count of a MADE contactor starts (R58). -/
def State.feedbackOpen (s : State) : State :=
  { s with
    inputs := { s.inputs with pumpFb := false }, halt := s.halt.mark .welded false
    arb :=
      { s.arb with
        weldArmed := true
        fbOpenSince := if s.arb.contactor = .made then some (s.arb.fbOpenSince.getD s.now) else s.arb.fbOpenSince } }

/-- A sample of a new raw level (R31, R32, R56 to R59, R156). DEDUCED, log entries 7 and 19. -/
def State.sampleRaw (s : State) : RawInput → Bool → State
  | .debounced d, level => { s with inputs := s.inputs.put d ((s.inputs.get d).sample level s.now) }
  | .estop, true => s.estopOn
  | .estop, false => s.estopOff
  | .pumpFb, true => s.feedbackClosed
  | .pumpFb, false => s.feedbackOpen
  | .readBack l, level => s.updLamp l fun c => c.sampleBack level s.now

/-! ### Road speed (R34) -/

/-- Whether an edge lies in the 1000 ms that end now. DESIGN CHOICE, log entry 24. -/
def inWindow (now edge : Nat) : Bool := decide (now ≤ edge + Config.speedWindowMs)

/-- A rising edge is counted. -/
def State.edge (s : State) : State :=
  { s with eval := { s.eval with edges := s.now :: s.eval.edges.filter (inWindow s.now) } }

/-- The speed that a number of edges in the window gives. -/
def speedOf (n : Nat) (ppk : Int) : Nat := min 2550 (n * 36000 / ppk.toNat)

/-- The speed is computed (R34). -/
def State.computeSpeed (s : State) : State :=
  { s with
    eval :=
      { s.eval with
        speed := some (speedOf (s.eval.edges.filter (inWindow s.now)).length s.settings.plain.ppk)
        nextAt := nextDue s.eval.nextAt Config.speedMs s.now } }

end Sys2Proof.Machine
end

