-- ==== Sys2Proof/Machine/AxisScan.lean ====
section
/-!
DEFINITION. What a scan result does at its readers (R111): the axis controller (R69, R75, R79, R84, R86, R88 to R90),
the pump current (R61), the door channels (R103) and the supply monitor (R63); and the judgement of a position when
the settle timer passes (R81).
-/

namespace Sys2Proof.Machine

/-- The present load follows each pressure value (R88). -/
def State.takeLoad (s : State) : State :=
  match s.chanOk 4, s.chanValue 4 with
  | true, some p => { s with axis := { s.axis with presentLoad := s.settings.plain.load p } }
  | _, _ => s

/-- Whether a position is at least 5 units nearer the target than the mark (R84). -/
def Run.progressed (run : Run) (pos : Int) : Bool :=
  match run.dir with
  | .up => decide (run.markPos + Config.stallUnits ≤ pos)
  | .down => decide (pos ≤ run.markPos - Config.stallUnits)

/-- A new position in a run: the stall mark (R84). -/
def Run.mark (run : Run) (pos : Int) (now : Nat) : Run :=
  if run.progressed pos then { run with markPos := pos, markAt := now } else run

/-- A new height for an upward `LIFT`: the overload test is armed after 50 mm (R89). DEDUCED, log entry 28. -/
def Run.arm (run : Run) (start : Option Pos) (pos : Int) : Run :=
  match start with
  | some (.value a) => if run.lift && run.dir == .up && decide (50 ≤ pos - a) then { run with armed := true } else run
  | some (.door _) | none => run

/-- A new pressure in a run of a `LIFT`: the ground time (R86), the overload time (R89), the load of the run (R90). -/
def Run.press (run : Run) (p : Plain) (pressure : Int) (now : Nat) : Run :=
  if run.lift then
    match run.dir with
    | .down => { run with groundSince := holdSince (decide (pressure < p.gndPres)) now run.groundSince }
    | .up =>
      { run with
        overSince := holdSince (run.armed && decide (p.ratedKg < (p.load pressure : Int))) now run.overSince
        runLoad := some (p.load pressure) }
  else run

/-- The run data after a scan, in a record that runs. -/
def State.runScan (s : State) (r : Record) (run : Run) (pos : Int) : Run :=
  let run1 := (run.mark pos s.now).arm r.start pos
  match s.chanOk 4, s.chanValue 4 with
  | true, some p => run1.press s.settings.plain p s.now
  | _, _ => run1

/-- The axis controller's part of a scan (R69, R75, R79, R83). The pressure value of the scan that makes the coast stop is
taken in the run, before the stop, so its load is the one stored (R90): DESIGN CHOICE, log entry 48. -/
def State.axisScan (s : State) : State :=
  match s.packRecord, s.axis.run with
  | some r, some run =>
    match s.chanOk r.kind.axisChan, s.chanValue r.kind.axisChan with
    | true, some pos =>
      match r.state with
      | .running =>
        let run1 := s.runScan r run pos
        let s1 := { s with axis := { s.axis with run := some run1 } }
        if !run1.noStop && decide (run1.rem pos ≤ run1.coast) then s1.coastStop r.handle
        else if run1.cls = some .fast ∧ run1.rem pos ≤ s.settings.plain.slowZone run1.lift then s1.creepRun run1
        else s1
      | .lead | .settling => { s with axis := { s.axis with run := some (run.arm r.start pos) } }
      | .pending | .blocked | .waiting | .holding => s
    | _, _ => s
  | _, _ => s

/-- The pump current's part of a scan (R61). -/
def State.pumpScan (s : State) : State :=
  { s with
    arb :=
      { s.arb with
        overSince :=
          holdSince (s.chanOk 6 && s.arb.contactor != .opened && decide (2800 < s.reported 6)) s.now
            s.arb.overSince } }

/-- A whole scan result before the close of its event (R110, R111). The readers take it in this order: the
interlock evaluator, the supply monitor, the axis controller, the arbiter's pump current, door NEAR, door OFF.
DESIGN CHOICE, log entry 9. The pressure value of a scan whose report ends an upward run is the present load (R88) and is
not counted as taken in the run (R90): DESIGN CHOICE, log entry 42. -/
def State.scan (s : State) (codes : Scan) : State :=
  let near := s.chanOk 7
  let off := s.chanOk 8
  let s1 :=
    { s with
      conv := { s.conv.scan codes s.settings.cal with nextAt := nextDue s.conv.nextAt Config.scanMs s.now } }
  (((s1.takeLoad.report.supplyScan.axisScan.pumpScan).doorCurrent .near near).doorCurrent .off off)

/-! ### The judgement (R81, R82) -/

/-- What a judgement finds. -/
inductive Verdict where
  | done
  | short
  | over
deriving DecidableEq, Repr

/-- The judgement of a position against the target (R81). -/
def Run.verdict (run : Run) (tol pos : Int) : Verdict :=
  let err := match run.dir with
    | .up => run.target - pos
    | .down => pos - run.target
  if err < -tol then .over else if tol < err then .short else .done

/-- The settle timer has passed (R81, R82). -/
def State.settled (s : State) (r : Record) (run : Run) : State :=
  let s1 := { s with axis := { s.axis with run := some { run with settleEnd := none } } }
  match run.verdict (s.settings.plain.tolerance run.lift) (s.reported r.kind.axisChan) with
  | .done => s1.endTree r.handle .done none
  | .over =>
    (s1.upd r.handle fun r => { r with flags := { r.flags with overshot := true } }).endTree r.handle .done none
  | .short =>
    if (r.nudges : Int) < s.settings.plain.nudges then
      { s with axis := { s.axis with run := some { run with settleEnd := none, nudgeDue := true } } }.proceed r
    else s1.endTree r.handle .failed (some .short)

end Sys2Proof.Machine
end

