-- ==== Sys2Proof/Machine/Bus.lean ====
section
/-!
DEFINITION. The station bus: frames and lamps (R130, R131), keys (R137 to R140), key requests (R25 to R27, R141 to R144),
station states (R134), statistics (R145), the poll cycle and the bus fault (R127, R129, R132, R135, R136).
-/

namespace Sys2Proof.Machine

/-! ### Frames (R130, R131, R133) -/

/-- The check character of a frame: 255 minus the sum of its preceding characters, mod 256 (R131). -/
def frameCheck (cs : List Ch) : Ch := 255#8 - cs.foldl (· + ·) 0

/-- The address character of a poll (R130) and of a reply (R133). -/
def pollAddr (addr : Nat) : Ch := BitVec.ofNat 8 (0x40 + addr)

/-- The address character of a reply (R133). -/
def replyAddr (addr : Nat) : Ch := BitVec.ofNat 8 (0x60 + addr)

/-- MOVING (R130). -/
def State.showsMoving (s : State) (i : Fin 6) : Role → Bool
  | .pendant a | .platform a =>
    s.plan.records.any fun r =>
      r.kind.isLift && r.state == .running &&
        (match r.origin with
          | .station j => j == i
          | .link => a.has r.kind)
  | .keypad side => s.plan.records.any fun r => r.side == some side && r.state == .running
  | .cab => false

/-- The show character of a station (R130): READY 1, MOVING 2, FAULT 4, BUZZ 8. -/
def State.showChar (s : State) (i : Fin 6) (r : Role) : Ch :=
  BitVec.ofNat 8
    ((if s.cond .master && !s.halt.set then 1 else 0) + (if s.showsMoving i r then 2 else 0) +
      (if s.halt.set || s.beac.lamps.toList.any LampCh.faulty then 4 else 0) +
      if s.beac.lamps[4].cls = .alarm then 8 else 0)

/-- The characters of a poll (R130). -/
def State.pollFrame (s : State) (i : Fin 6) (e : StationCfg) : List Ch :=
  [pollAddr e.addr, s.showChar i e.role, frameCheck [pollAddr e.addr, s.showChar i e.role]]

/-! ### Keys (R128, R137 to R139) -/

/-- Whether a role has the key at a bit (R128, R133). -/
def Role.hasKey (r : Role) (k : Fin 6) : Bool :=
  match r with
  | .pendant _ => true
  | .platform _ => decide (k.val ≤ 3)
  | .keypad _ => decide (k.val ≤ 2)
  | .cab => decide (k.val ≤ 1)

/-- Whether a keys character shows a key of the role pressed. -/
def showsKey (r : Role) (keys : Ch) (k : Fin 6) : Bool := r.hasKey k && keys.getLsbD k.val

/-- A key after a miss, or after its station leaves PRESENT (R138): released, and barred if it was shown or counted
pressed, unless it is STOP (bit 0). -/
def KeySt.drop (x : KeySt) (k : Fin 6) : KeySt :=
  { x with pressed := false, barred := x.barred || (k != 0 && (x.shown || x.pressed)), run := 0 }

/-- A key after a good reply that shows it or not, on a PRESENT station (R137). -/
def KeySt.take (x : KeySt) (shown : Bool) : KeySt :=
  if shown then
    if x.barred then { x with pressed := false, shown := true, run := 0 }
    else { x with pressed := x.pressed || decide (2 ≤ x.run + 1), shown := true, run := satSucc 2 x.run }
  else { pressed := false, barred := false, shown := false, run := 0 }

/-- A key after a good reply with STUCK (R139). -/
def KeySt.stick (x : KeySt) (k : Fin 6) (shown : Bool) : KeySt :=
  { x with pressed := false, barred := shown && (x.barred || k != 0), shown := shown, run := 0 }

/-- A key after a good reply of a station: `found` says that the reply makes it PRESENT (R137, R139). -/
def KeySt.reply (x : KeySt) (k : Fin 6) (shown stuck found : Bool) : KeySt :=
  let y := { x with barred := x.barred || (found && shown && k != 0) }
  if stuck then y.stick k shown else y.take shown

/-! ### Station states (R134, R145) -/

/-- A station after a miss (R134, R138, R145). DEDUCED, log entry 18. -/
def Station.miss (x : Station) (m : MissKind) : Station :=
  let run := satSucc 4 x.missRun
  { x with
    state := if x.state = .present ∧ run = 4 then .lost else x.state
    goodRun := 0, missRun := run, keys := mapAt x.keys fun k y => y.drop k
    missCount := satSucc 65535 x.missCount, lastMiss := some m
    aborts := if m = .conflict then satSucc 65535 x.aborts else x.aborts }

/-- A station after a good reply (R134 to R139). While the bus is in FAULT it stays LOST with good run 0, and its
keys are not looked at. A reply that shows STUCK bars a key only where the keys are looked at (R137): of a station that
is not PRESENT, or while the bus is in FAULT, it bars none. DEDUCED, log entry 43. -/
def Station.good (x : Station) (r : Role) (keys : Ch) (stuck fault : Bool) : Station :=
  let run := if fault then 0 else satSucc 3 x.goodRun
  let found := !fault && x.state != .present && decide (run = 3)
  let present := !fault && (x.state == .present || found)
  { x with
    state := if found then .present else x.state
    goodRun := run, missRun := 0, stuck := stuck
    keys :=
      mapAt x.keys fun k y =>
        if present then y.reply k (showsKey r keys k) stuck found else { y with shown := showsKey r keys k } }

/-- A key of a station that the bus fault puts into LOST: dropped where the station leaves PRESENT, and else counted
released without a new bar (R135, R138). -/
def KeySt.fail (x : KeySt) (k : Fin 6) (present : Bool) : KeySt :=
  if present then x.drop k else { x with pressed := false }

/-- A station that the bus fault puts into LOST (R135, R138). -/
def Station.fail (x : Station) : Station :=
  if x.entry.isSome then
    { x with state := .lost, goodRun := 0, keys := mapAt x.keys fun k y => y.fail k (x.state == .present) }
  else x

/-- A station replaced. -/
def State.setStation (s : State) (i : Fin 6) (x : Station) : State :=
  { s with bus := { s.bus with stations := modAt s.bus.stations i fun _ => x } }

/-- A request conflict counted (R145). -/
def State.conflict (s : State) (i : Fin 6) : State :=
  s.setStation i { s.bus.stations[i] with conflicts := satSucc 65535 s.bus.stations[i].conflicts }

/-! ### Requests of the keys (R25, R26, R141 to R143) -/

/-- Whether a station tail-lift record is in the table (R25). -/
def State.stationBusy (s : State) : Bool := s.plan.records.any fun r => r.kind.isLift && r.isStation

/-- The link tail-lift record that holds the pack is overridden (R25). -/
def State.overrideLink (s : State) : State :=
  match s.packRecord with
  | some r => if r.isStation then s else s.endTree r.handle .cancelled (some .override)
  | none => s

/-- A station direction request (R25). -/
def State.stationMove (s : State) (i k : Fin 6) (kind : Kind) (target : Option Int) : State :=
  if s.halt.set then s
  else if s.stationBusy then s.conflict i
  else
    let s1 := s.overrideLink
    if s1.plan.records.length < Config.tableCap then
      s1.enrol
        { kind := kind, side := none, target := target, creep := false, origin := .station i, key := some k
          pred := none, seq := none }
    else s.conflict i

/-- What a direction key asks for (R141). -/
def State.keyAsks (s : State) (k : Fin 6) : Option (Kind × Option Int) :=
  match k with
  | 2 => some (.lift, some s.settings.plain.bedHt)
  | 3 => some (.lift, some 0)
  | 4 => some (if s.cond .atBed then (.stow, none) else (.tilt, some 150))
  | 5 =>
    if (s.chanValue 1).isNone then none
    else some (if s.stowed then (.unstow, none) else (.tilt, some (-100)))
  | 0 | 1 => none

/-- The one direction key that a reply counts pressed asks for its record (R141). -/
def State.askMove (s : State) (i k : Fin 6) (a : Auth) : State :=
  match s.keyAsks k with
  | some (kind, target) => if a.has kind then s.stationMove i k kind target else s.conflict i
  | none => s

/-- The direction keys among keys. -/
def directions (ks : List (Fin 6)) : List (Fin 6) := ks.filter fun k => decide (2 ≤ k.val)

/-- The direction keys that a reply counts pressed (R141). -/
def State.askDirections (s : State) (i : Fin 6) (a : Auth) (pressed : List (Fin 6)) : State :=
  if s.bus.stations[i].keys[1].pressed then
    match directions pressed with
    | [] => s
    | [k] => s.askMove i k a
    | _ :: _ :: _ => s.conflict i
  else s

/-- The door records of a side, in admission order. -/
def State.sideHandles (s : State) (side : Side) : List Handle :=
  (s.plan.records.filter fun r => r.side == some side).map (·.handle)

/-- The door records of a side end, with their successors (R26). -/
def State.endSide (s : State) (side : Side) (why : EndReason) : State :=
  (s.sideHandles side).foldl (fun t h => t.endTree h .cancelled (some why)) s

/-- A keypad OPEN or CLOSE request (R26). -/
def State.keypadMove (s : State) (i : Fin 6) (kind : Kind) (side : Side) : State :=
  if s.halt.set then s
  else if s.plan.records.any fun r => r.side == some side && r.kind == kind then s
  else
    let s1 := s.endSide side .supersede
    if s1.plan.records.length < Config.tableCap then
      s1.enrol
        { kind := kind, side := some side, target := none, creep := false, origin := .station i, key := none
          pred := none, seq := none }
    else s1.conflict i

/-- The OPEN and CLOSE keys that a reply counts pressed (R142). -/
def State.askDoor (s : State) (i : Fin 6) (side : Side) (pressed : List (Fin 6)) : State :=
  if (1 : Fin 6) ∈ pressed then
    if (2 : Fin 6) ∈ pressed then s.conflict i else s.keypadMove i .doorOpen side
  else if (2 : Fin 6) ∈ pressed then s.keypadMove i .doorShut side
  else s

/-! ### Handing on (R140) -/

/-- A key is counted released (R27, R30, R144). -/
def State.handRelease (s : State) (i : Fin 6) (r : Role) (k : Fin 6) : State :=
  match r with
  | .pendant _ | .platform _ =>
    if k = 0 then { s with halt := s.halt.mark (.station i) false }
    else
      match s.plan.records.find? fun x => x.origin == .station i && x.kind.isLift && (k == 1 || x.key == some k) with
      | some x => s.endTree x.handle .stopped none
      | none => s
  | .keypad _ => s
  | .cab =>
    if k = 0 then { s with halt := s.halt.mark (.station i) false }
    else s.setStation i { s.bus.stations[i] with resetAt := none }

/-- The keys of a station that are counted pressed. -/
def Station.pressedKeys (x : Station) : List (Fin 6) := (List.finRange 6).filter fun k => x.keys[k].pressed

/-- Releases of a station's keys handed on in the order of the keys (R127, R135, R140). -/
def State.handReleases (s : State) (i : Fin 6) (r : Role) (ks : List (Fin 6)) : State :=
  ks.foldl (fun t k => State.handRelease t i r k) s

/-- The presses other than ENABLE (R140 to R144). STOP is taken before the other keys of the reply. DEDUCED, log entry 18. -/
def State.handPresses (s : State) (i : Fin 6) (r : Role) (pressed : List (Fin 6)) : State :=
  match r with
  | .pendant a | .platform a =>
    (if (0 : Fin 6) ∈ pressed then s.raiseHalt (.station i) else s).askDirections i a pressed
  | .keypad side =>
    (if (0 : Fin 6) ∈ pressed then s.endSide side .station else s).askDoor i side pressed
  | .cab =>
    let s1 := if (0 : Fin 6) ∈ pressed then s.raiseHalt (.station i) else s
    if (1 : Fin 6) ∈ pressed then
      s1.setStation i { s1.bus.stations[i] with resetAt := some (s.now + Config.resetKeyMs) }
    else s1

/-- The keys whose counted state a judgement has changed to a level. -/
def changedKeys (before after : Station) (level : Bool) : List (Fin 6) :=
  (List.finRange 6).filter fun k => (after.keys[k]).pressed == level && (before.keys[k]).pressed != level

/-- A `STATION` notice for a change of state (R134). -/
def State.noteStation (s : State) (i : Fin 6) (e : StationCfg) (before after : StnState) : State :=
  if before = .present ∧ after = .lost then s.notify (.station i e.addr false)
  else if before ≠ .present ∧ after = .present then s.notify (.station i e.addr true)
  else s

/-- The changes of one judgement are handed on (R140): the state, the releases, ENABLE, the other keys. The
conditions are reported after the releases and after ENABLE. DEDUCED, log entry 18. -/
def State.handOn (s : State) (i : Fin 6) (e : StationCfg) (after : Station) : State :=
  let before := s.bus.stations[i]
  let s1 := (s.setStation i after).noteStation i e before.state after.state
  let s2 := s1.handReleases i e.role (changedKeys before after false)
  s2.report.handPresses i e.role (changedKeys before after true)

/-! ### The poll cycle (R127, R129, R132 to R136) -/

/-- A changed entry takes effect (R127): its keys are released and handed on, and the station starts anew, ABSENT. So it
does while the bus is in FAULT, where R135 has every station LOST: DESIGN CHOICE, log entry 39. -/
def State.applyEntry (s : State) (i : Fin 6) : State :=
  let x := s.bus.stations[i]
  if x.changed then
    let s1 :=
      match x.entry with
      | some e => s.handReleases i e.role x.pressedKeys
      | none => s
    s1.setStation i (Station.new s1.settings.stn[i])
  else s

/-- The entries changed since the last cycle take effect (R127). -/
def State.applyEntries (s : State) : State := (List.finRange 6).foldl State.applyEntry s

/-- The next configured station from an index on (R129). -/
def Bus.next (b : Bus) (n : Nat) : Option (Fin 6 × StationCfg) :=
  ((List.finRange 6).filter fun i => decide (n ≤ i.val)).findSome? fun i => b.stations[i].entry.map fun e => (i, e)

/-- A poll begins (R130). -/
def State.poll (s : State) (i : Fin 6) (e : StationCfg) : State :=
  let s1 := s.setStation i { s.bus.stations[i] with lamps := s.showChar i e.role }
  { s1 with bus := { s1.bus with current := some i, frame := s.pollFrame i e } }

/-- The bus goes to FAULT (R135): stations LOST, keys released and handed on, notice, count. -/
def State.busFault (s : State) : State :=
  let b := s.bus
  let s1 := { s with bus := { b with stations := mapAt b.stations fun _ x => x.fail } }
  let s2 :=
    (List.finRange 6).foldl
      (fun t i =>
        match b.stations[i].entry with
        | some e => t.handReleases i e.role b.stations[i].pressedKeys
        | none => t)
      s1
  let s3 := s2.notify (.busFault b.runAborts)
  { s3 with bus := { s3.bus with fault := true, faultCount := satSucc 255 b.faultCount, cleanRun := 0 } }

/-- The bus returns to NORMAL (R136). -/
def State.busOk (s : State) : State :=
  { s with bus := { s.bus with fault := false, conflictRun := 0, runAborts := 0 } }.notify (.busOk s.bus.faultCount)

/-- A cycle is judged at its end (R135, R136). -/
def State.judgeCycle (s : State) : State :=
  let b := s.bus
  if b.fault then
    if 0 < b.cycleAborts then { s with bus := { b with current := none, frame := [], cleanRun := 0 } }
    else
      let s1 := { s with bus := { b with current := none, frame := [], cleanRun := satSucc 10 b.cleanRun } }
      if s1.bus.cleanRun = 10 then s1.busOk else s1
  else if 0 < b.cycleAborts then
    let s1 :=
      { s with
        bus :=
          { b with
            current := none, frame := [], conflictRun := satSucc 3 b.conflictRun
            runAborts := b.runAborts + b.cycleAborts } }
    if s1.bus.conflictRun = 3 then s1.busFault else s1
  else { s with bus := { b with current := none, frame := [], conflictRun := 0, runAborts := 0 } }

/-- The next poll of the cycle begins, or the cycle is judged (R129, R135). The judgement of the cycle stands in the
event of its last poll, and the event closes once, after it (R168). DESIGN CHOICE, log entry 45. -/
def State.advance (s : State) (n : Nat) : State :=
  match s.bus.next n with
  | some (i, e) => s.conclude.poll i e
  | none => s.judgeCycle.conclude

/-- The side that a station's misses carry (R163). -/
def Role.missSide : Role → Option Side
  | .keypad side => some side
  | .pendant _ | .platform _ | .cab => none

/-- A poll is judged a miss (R133, R134, R138, R145). -/
def State.judgeMiss (s : State) (i : Fin 6) (e : StationCfg) (m : MissKind) : State :=
  let s1 := s.handOn i e (s.bus.stations[i].miss m)
  s1.count [.stnMiss] (some (.station i)) e.role.missSide s1.axis.lastLoad

/-- A poll is judged a good reply (R133, R134, R137 to R139). -/
def State.judgeGood (s : State) (i : Fin 6) (e : StationCfg) (keys status : Ch) : State :=
  s.handOn i e (s.bus.stations[i].good e.role keys (status.getLsbD 0) s.bus.fault)

/-- The judgement of four characters (R133): the kind of miss, or none for a good reply. -/
def judgeReply (addr : Nat) (c1 c2 c3 c4 : Ch) (framing : Bool) : Option MissKind :=
  if c1 ≠ replyAddr addr then some .wrongAddr
  else if framing || c4 != frameCheck [c1, c2, c3] then some .badCheck
  else none

/-- The present poll is judged, and the cycle goes on (R129, R133). Nothing happens between cycles. -/
def State.endPoll (s : State) (f : State → Fin 6 → StationCfg → State) : State :=
  match s.bus.current with
  | some i =>
    match s.bus.stations[i].entry with
    | some e => (f s i e).advance (i.val + 1)
    | none => s
  | none => s

end Sys2Proof.Machine
end

