-- ==== Sys2Proof/Machine/Words.lean ====
section
/-!
DEFINITION. The words of the host link: each named thing of the manual as the word it is written with, and the
reading of a word.
-/

namespace Sys2Proof.Machine

/-- The thing of a list that is written with this word. -/
def reading {α : Type} (all : List α) (word : α → String) (w : String) : Option α := all.find? fun x => word x == w

/-- R1. -/
def Kind.word : Kind → String
  | .lift => "LIFT"
  | .tilt => "TILT"
  | .level => "LEVEL"
  | .stow => "STOW"
  | .unstow => "UNSTOW"
  | .doorOpen => "DOOROPEN"
  | .doorShut => "DOORSHUT"

/-- The seven kinds. -/
def Kind.all : List Kind := [.lift, .tilt, .level, .stow, .unstow, .doorOpen, .doorShut]

/-- R2. -/
def sideWord : Side → String
  | .near => "NEAR"
  | .off => "OFF"

/-- Both sides. -/
def allSides : List Side := [.near, .off]

/-- R5. -/
def RecState.word : RecState → String
  | .pending => "PENDING"
  | .blocked => "BLOCKED"
  | .waiting => "WAITING"
  | .lead => "LEAD"
  | .running => "RUNNING"
  | .holding => "HOLDING"
  | .settling => "SETTLING"

/-- R36. -/
def Cond.word : Cond → String
  | .parked => "PARKED"
  | .master => "MASTER"
  | .calib => "CALIB"
  | .liftSns => "LIFTSNS"
  | .tiltSns => "TILTSNS"
  | .presSns => "PRESSNS"
  | .inclSns => "INCLSNS"
  | .notStowed => "NOTSTOWED"
  | .atBed => "ATBED"
  | .bodyLvl => "BODYLVL"
  | .rollOk => "ROLLOK"
  | .beaconOk => "BEACONOK"
  | .supply => "SUPPLY"
  | .oilOk => "OILOK"
  | .hold => "HOLD"

/-- R2, R6. -/
def WaitReason.word : WaitReason → String
  | .cond c => c.word
  | .budget => "BUDGET"
  | .reserve => "RESERVE"
  | .pack => "PACK"
  | .channel => "CHANNEL"
  | .rest => "REST"

/-- R13. -/
def RecOutcome.word : RecOutcome → String
  | .done => "DONE"
  | .stopped => "STOPPED"
  | .failed => "FAILED"
  | .cancelled => "CANCELLED"

/-- R13. -/
def EndReason.word : EndReason → String
  | .cond c => c.word
  | .stall => "STALL"
  | .timeout => "TIMEOUT"
  | .short => "SHORT"
  | .overload => "OVERLOAD"
  | .obstruct => "OBSTRUCT"
  | .contactor => "CONTACTOR"
  | .pumpOc => "PUMPOC"
  | .holdExp => "HOLDEXP"
  | .linkLost => "LINKLOST"
  | .latch => "LATCH"
  | .switches => "SWITCHES"
  | .request => "REQUEST"
  | .halted => "HALT"
  | .pred => "PRED"
  | .override => "OVERRIDE"
  | .supersede => "SUPERSEDE"
  | .stale => "STALE"
  | .station => "STATION"

/-- R94. -/
def DoorState.word : DoorState → String
  | .unknown => "UNKNOWN"
  | .shut => "SHUT"
  | .closed => "CLOSED"
  | .opened => "OPEN"
  | .ajar => "PARTIAL"
  | .fault => "FAULT"
  | .moving => "MOVING"

/-- R28. -/
def Cause.word : Cause → String
  | .linkChar => "LINKCHAR"
  | .request => "REQUEST"
  | .station _ => "STATION"
  | .estop => "ESTOP"
  | .welded => "WELDED"

/-- R63. -/
def SupplyState.word : SupplyState → String
  | .unknown => "UNKNOWN"
  | .normal => "NORMAL"
  | .low => "LOW"
  | .critical => "CRITICAL"

/-- R56. -/
def Contactor.word : Contactor → String
  | .opened => "OPEN"
  | .making => "MAKING"
  | .made => "MADE"

/-- R68. -/
def Dir.word : Dir → String
  | .up => "UP"
  | .down => "DOWN"

/-- R68. -/
def RunKind.word : RunKind → String
  | .ordinary => "ORDINARY"
  | .nudge => "NUDGE"

/-- R68. -/
def SpeedClass.word : SpeedClass → String
  | .fast => "FAST"
  | .creep => "CREEP"

/-- R93. -/
def Phase.word : Phase → String
  | .unlatch => "UNLATCH"
  | .opening => "OPENING"
  | .closing => "CLOSING"
  | .pullin => "PULLIN"
  | .reverse => "REVERSE"

/-- R116. -/
def ChanStatus.word : ChanStatus → String
  | .init => "INIT"
  | .ok => "OK"
  | .failed => "FAILED"

/-- R127. -/
def Role.word : Role → String
  | .pendant _ => "PENDANT"
  | .platform _ => "PLATFORM"
  | .keypad _ => "KEYPAD"
  | .cab => "CAB"

/-- The side word of a role (R193). -/
def Role.sideWord : Role → String
  | .keypad side => Machine.sideWord side
  | .pendant _ | .platform _ | .cab => "NONE"

/-- R133. -/
def MissKind.word : MissKind → String
  | .silent => "SILENT"
  | .incomplete => "INCOMPLETE"
  | .wrongAddr => "WRONGADDR"
  | .badCheck => "BADCHECK"
  | .conflict => "CONFLICT"

/-- R134. -/
def StnState.word : StnState → String
  | .absent => "ABSENT"
  | .present => "PRESENT"
  | .lost => "LOST"

/-- R148. -/
def Pattern.word : Pattern → String
  | .off => "OFF"
  | .steady => "STEADY"
  | .flash => "FLASH"
  | .fast => "FAST"
  | .double => "DOUBLE"
  | .altA => "ALTA"
  | .altB => "ALTB"

/-- The seven patterns. -/
def Pattern.all : List Pattern := [.off, .steady, .flash, .fast, .double, .altA, .altB]

/-- R154. -/
def DemandClass.word : DemandClass → String
  | .off => "OFF"
  | .host => "HOST"
  | .motion => "MOTION"
  | .alarm => "ALARM"

/-- R159. -/
def lampWord : Lamp → String
  | .b0 => "B0"
  | .b1 => "B1"
  | .b2 => "B2"
  | .b3 => "B3"
  | .snd => "SND"

/-- The five channels, in the order of R159. -/
def allLamps : List Lamp := [.b0, .b1, .b2, .b3, .snd]

/-- R155. -/
def LampFault.word : LampFault → String
  | .openLoad => "OPEN"
  | .short => "SHORT"
  | .stuck => "STUCK"

/-- R163. -/
def Source.word : Source → String
  | .liftCyc => "LIFTCYC"
  | .stowCyc => "STOWCYC"
  | .doorCyc => "DOORCYC"
  | .pumpRun => "PUMPRUN"
  | .pumpStart => "PUMPSTART"
  | .overload => "OVERLOAD"
  | .holds => "HOLDS"
  | .halts => "HALTS"
  | .stnMiss => "STNMISS"
  | .fails => "FAILS"
  | .engOffPump => "ENGOFFPUMP"

/-- The eleven sources. -/
def Source.all : List Source :=
  [.liftCyc, .stowCyc, .doorCyc, .pumpRun, .pumpStart, .overload, .holds, .halts, .stnMiss, .fails, .engOffPump]

/-- R162. -/
def OriginFilter.word : OriginFilter → String
  | .any => "ANY"
  | .link => "LINK"
  | .station => "STATION"

/-- The three origin filters. -/
def OriginFilter.all : List OriginFilter := [.any, .link, .station]

/-- R162. -/
def SideFilter.word : SideFilter → String
  | .any => "ANY"
  | .near => "NEAR"
  | .off => "OFF"

/-- The three side filters. -/
def SideFilter.all : List SideFilter := [.any, .near, .off]

/-- The mode word (R162). -/
def modeWord : Bool → String
  | true => "DURATION"
  | false => "EDGE"

/-- The weight word (R162). -/
def weightWord : Bool → String
  | true => "LOAD"
  | false => "ONE"

/-- R199. -/
def ResetKind.word : ResetKind → String
  | .powerOn => "POWERON"
  | .pin => "PIN"

/-- R185. -/
def SupState.word : SupState → String
  | .off => "OFF"
  | .armed => "ARMED"
  | .expired => "EXPIRED"

/-- R178. -/
def reqWord : ReqName → String
  | .move => "MOVE"
  | .seqn => "SEQN"
  | .canc => "CANC"
  | .halt => "HALT"
  | .resm => "RESM"
  | .qrec => "QREC"
  | .plan => "PLAN"
  | .calp => "CALP"
  | .beac => "BEAC"
  | .cntr => "CNTR"
  | .note => "NOTE"
  | .getv => "GETV"
  | .setv => "SETV"
  | .save => "SAVE"
  | .link => "LINK"
  | .live => "LIVE"
  | .stat => "STAT"

/-- The seventeen requests (R178). -/
def allReqs : List ReqName :=
  [.move, .seqn, .canc, .halt, .resm, .qrec, .plan, .calp, .beac, .cntr, .note, .getv, .setv, .save, .link, .live,
    .stat]

/-- A word or `NONE`. -/
def wordOr {α : Type} (word : α → String) : Option α → String
  | some x => word x
  | none => "NONE"

/-- A yes-or-no item (Formats on the wire). -/
def yes (b : Bool) : Int := if b then 1 else 0

end Sys2Proof.Machine
end

