-- ==== Sys2Proof/Machine/Settings.lean ====
section
/-!
DEFINITION. The settings by name (R193): each plain setting's word, range, value and change, the station entries and the
calibration ends; and whether a stored image is valid (R199).
-/

namespace Sys2Proof.Machine

/-- The plain settings (R193). -/
inductive PlainName where
  | leadMs
  | waitMax
  | liftTop
  | bedHt
  | supReq
  | holdMax
  | ppk
  | limEng
  | limBat
  | pumpDraw
  | valvDraw
  | doorDraw
  | batLow
  | batCrit
  | liftSlow
  | tiltSlow
  | liftCoUp
  | liftCoDn
  | tiltCoas
  | liftCrep
  | tiltCrep
  | liftTol
  | tiltTol
  | liftRun
  | tiltRun
  | settle
  | nudges
  | stowAng
  | lvlTrim
  | gndPres
  | gndBand
  | pTare
  | kLoad
  | ratedKg
  | doorTime
  | doorObs
  | trailMs
  | sndMove
  | beacReq
deriving DecidableEq, Repr

/-- Every plain setting, in the order of R193. -/
def PlainName.all : List PlainName :=
  [.leadMs, .waitMax, .liftTop, .bedHt, .supReq, .holdMax, .ppk, .limEng, .limBat, .pumpDraw,
    .valvDraw, .doorDraw, .batLow, .batCrit, .liftSlow, .tiltSlow, .liftCoUp, .liftCoDn, .tiltCoas, .liftCrep,
    .tiltCrep, .liftTol, .tiltTol, .liftRun, .tiltRun, .settle, .nudges, .stowAng, .lvlTrim, .gndPres,
    .gndBand, .pTare, .kLoad, .ratedKg, .doorTime, .doorObs, .trailMs, .sndMove, .beacReq]

/-- The name on the link (R193). -/
def PlainName.word : PlainName → String
  | .leadMs => "LEADMS"
  | .waitMax => "WAITMAX"
  | .liftTop => "LIFTTOP"
  | .bedHt => "BEDHT"
  | .supReq => "SUPREQ"
  | .holdMax => "HOLDMAX"
  | .ppk => "PPK"
  | .limEng => "LIMENG"
  | .limBat => "LIMBAT"
  | .pumpDraw => "PUMPDRAW"
  | .valvDraw => "VALVDRAW"
  | .doorDraw => "DOORDRAW"
  | .batLow => "BATLOW"
  | .batCrit => "BATCRIT"
  | .liftSlow => "LIFTSLOW"
  | .tiltSlow => "TILTSLOW"
  | .liftCoUp => "LIFTCOUP"
  | .liftCoDn => "LIFTCODN"
  | .tiltCoas => "TILTCOAS"
  | .liftCrep => "LIFTCREP"
  | .tiltCrep => "TILTCREP"
  | .liftTol => "LIFTTOL"
  | .tiltTol => "TILTTOL"
  | .liftRun => "LIFTRUN"
  | .tiltRun => "TILTRUN"
  | .settle => "SETTLE"
  | .nudges => "NUDGES"
  | .stowAng => "STOWANG"
  | .lvlTrim => "LVLTRIM"
  | .gndPres => "GNDPRES"
  | .gndBand => "GNDBAND"
  | .pTare => "PTARE"
  | .kLoad => "KLOAD"
  | .ratedKg => "RATEDKG"
  | .doorTime => "DOORTIME"
  | .doorObs => "DOOROBS"
  | .trailMs => "TRAILMS"
  | .sndMove => "SNDMOVE"
  | .beacReq => "BEACREQ"

/-- The range (R193, R70). -/
def PlainName.range : PlainName → Int × Int
  | .leadMs => (0, 5000)
  | .waitMax => (10, 600)
  | .liftTop => (500, 1600)
  | .bedHt => (0, 1600)
  | .supReq => (0, 1)
  | .holdMax => (2000, 60000)
  | .ppk => (1000, 25000)
  | .limEng => (50, 400)
  | .limBat => (50, 400)
  | .pumpDraw => (0, 400)
  | .valvDraw => (0, 50)
  | .doorDraw => (0, 100)
  | .batLow => (2250, 2400)
  | .batCrit => (1800, 2220)
  | .liftSlow => (20, 300)
  | .tiltSlow => (10, 150)
  | .liftCoUp => (0, 50)
  | .liftCoDn => (0, 50)
  | .tiltCoas => (0, 30)
  | .liftCrep => (0, 20)
  | .tiltCrep => (0, 10)
  | .liftTol => (2, 50)
  | .tiltTol => (1, 30)
  | .liftRun => (5000, 60000)
  | .tiltRun => (5000, 60000)
  | .settle => (100, 2000)
  | .nudges => (0, 2)
  | .stowAng => (800, 950)
  | .lvlTrim => (-50, 50)
  | .gndPres => (0, 500)
  | .gndBand => (0, 300)
  | .pTare => (0, 2500)
  | .kLoad => (1, 200)
  | .ratedKg => (100, 3000)
  | .doorTime => (2000, 30000)
  | .doorObs => (20, 300)
  | .trailMs => (0, 10000)
  | .sndMove => (0, 1)
  | .beacReq => (0, 1)

/-- The working value. -/
def Plain.get (p : Plain) : PlainName → Int
  | .leadMs => p.leadMs
  | .waitMax => p.waitMax
  | .liftTop => p.liftTop
  | .bedHt => p.bedHt
  | .supReq => p.supReq
  | .holdMax => p.holdMax
  | .ppk => p.ppk
  | .limEng => p.limEng
  | .limBat => p.limBat
  | .pumpDraw => p.pumpDraw
  | .valvDraw => p.valvDraw
  | .doorDraw => p.doorDraw
  | .batLow => p.batLow
  | .batCrit => p.batCrit
  | .liftSlow => p.liftSlow
  | .tiltSlow => p.tiltSlow
  | .liftCoUp => p.liftCoUp
  | .liftCoDn => p.liftCoDn
  | .tiltCoas => p.tiltCoas
  | .liftCrep => p.liftCrep
  | .tiltCrep => p.tiltCrep
  | .liftTol => p.liftTol
  | .tiltTol => p.tiltTol
  | .liftRun => p.liftRun
  | .tiltRun => p.tiltRun
  | .settle => p.settle
  | .nudges => p.nudges
  | .stowAng => p.stowAng
  | .lvlTrim => p.lvlTrim
  | .gndPres => p.gndPres
  | .gndBand => p.gndBand
  | .pTare => p.pTare
  | .kLoad => p.kLoad
  | .ratedKg => p.ratedKg
  | .doorTime => p.doorTime
  | .doorObs => p.doorObs
  | .trailMs => p.trailMs
  | .sndMove => p.sndMove
  | .beacReq => p.beacReq

/-- The value replaced. -/
def Plain.put (p : Plain) (v : Int) : PlainName → Plain
  | .leadMs => { p with leadMs := v }
  | .waitMax => { p with waitMax := v }
  | .liftTop => { p with liftTop := v }
  | .bedHt => { p with bedHt := v }
  | .supReq => { p with supReq := v }
  | .holdMax => { p with holdMax := v }
  | .ppk => { p with ppk := v }
  | .limEng => { p with limEng := v }
  | .limBat => { p with limBat := v }
  | .pumpDraw => { p with pumpDraw := v }
  | .valvDraw => { p with valvDraw := v }
  | .doorDraw => { p with doorDraw := v }
  | .batLow => { p with batLow := v }
  | .batCrit => { p with batCrit := v }
  | .liftSlow => { p with liftSlow := v }
  | .tiltSlow => { p with tiltSlow := v }
  | .liftCoUp => { p with liftCoUp := v }
  | .liftCoDn => { p with liftCoDn := v }
  | .tiltCoas => { p with tiltCoas := v }
  | .liftCrep => { p with liftCrep := v }
  | .tiltCrep => { p with tiltCrep := v }
  | .liftTol => { p with liftTol := v }
  | .tiltTol => { p with tiltTol := v }
  | .liftRun => { p with liftRun := v }
  | .tiltRun => { p with tiltRun := v }
  | .settle => { p with settle := v }
  | .nudges => { p with nudges := v }
  | .stowAng => { p with stowAng := v }
  | .lvlTrim => { p with lvlTrim := v }
  | .gndPres => { p with gndPres := v }
  | .gndBand => { p with gndBand := v }
  | .pTare => { p with pTare := v }
  | .kLoad => { p with kLoad := v }
  | .ratedKg => { p with ratedKg := v }
  | .doorTime => { p with doorTime := v }
  | .doorObs => { p with doorObs := v }
  | .trailMs => { p with trailMs := v }
  | .sndMove => { p with sndMove := v }
  | .beacReq => { p with beacReq := v }

/-- Whether a value lies in a range, both ends included. -/
def inRange (r : Int × Int) (v : Int) : Bool := decide (r.1 ≤ v) && decide (v ≤ r.2)

/-! ### Names (R193) -/

/-- A setting. -/
inductive SettingName where
  | plain (p : PlainName)
  | stn (i : Fin 6)
  | cal (n : Fin 9) (hi : Bool)
deriving DecidableEq, Repr

/-- The name of a setting. -/
def SettingName.word : SettingName → String
  | .plain p => p.word
  | .stn i => "STN" ++ toString (i.val + 1)
  | .cal n hi => "CAL" ++ toString n.val ++ (if hi then "HI" else "LO")

/-- Every setting. -/
def SettingName.all : List SettingName :=
  PlainName.all.map .plain ++ (List.finRange 6).map .stn ++
    (List.finRange 9).flatMap fun n => [.cal n false, .cal n true]

/-! ### Station entries (R127, R193) -/

/-- The five kinds an authority may include, in the order of R193. -/
def Kind.lifts : List Kind := [.lift, .tilt, .level, .stow, .unstow]

/-- The authority with these kinds. DEDUCED, log entry 16. -/
def Auth.of (ks : List Kind) : Auth :=
  ⟨decide (Kind.lift ∈ ks), decide (Kind.tilt ∈ ks), decide (Kind.level ∈ ks), decide (Kind.stow ∈ ks),
    decide (Kind.unstow ∈ ks)⟩

/-- The kinds of an authority, in the order of R193. -/
def Auth.kinds (a : Auth) : List Kind :=
  (if a.lift then [.lift] else []) ++ (if a.tilt then [.tilt] else []) ++ (if a.level then [.level] else []) ++
    (if a.stow then [.stow] else []) ++ (if a.unstow then [.unstow] else [])

/-- The kinds of a role's authority. -/
def Role.kinds : Role → List Kind
  | .pendant a | .platform a => a.kinds
  | .keypad _ | .cab => []

/-- The words of an authority, each once (R194). -/
def readKinds (fs : List Field) : Option (List Kind) :=
  match fs with
  | [] => some []
  | .word w :: rest =>
    match reading Kind.lifts Kind.word w, readKinds rest with
    | some k, some ks => if k ∈ ks then none else some (k :: ks)
    | _, _ => none
  | _ :: _ => none

/-- The role that the fields after an address give (R194). -/
def readRole (role side : String) (rest : List Field) : Option Role :=
  match readKinds rest with
  | none => none
  | some ks =>
    match role with
    | "PENDANT" => if side = "NONE" then some (.pendant (.of ks)) else none
    | "PLATFORM" => if side = "NONE" then some (.platform (.of ks)) else none
    | "KEYPAD" => if ks = [] then (reading allSides sideWord side).map .keypad else none
    | "CAB" => if side = "NONE" ∧ ks = [] then some .cab else none
    | _ => none

/-- The address and role of a station entry's contents (R194). Address 0 takes no further field. -/
def readEntry : List Field → Option (Int × Option Role)
  | [.num a] => if a = 0 then some (0, none) else none
  | .num a :: .word role :: .word side :: rest =>
    if a = 0 then none else (readRole role side rest).map fun r => (a, some r)
  | _ => none

/-- A station entry as `GETV` reports it (R193). -/
def entryFields : Option StationCfg → List Field
  | none => [.num 0]
  | some e =>
    [.num e.addr, .word e.role.word, .word e.role.sideWord] ++ e.role.kinds.map fun k => .word k.word

/-- A calibration end as `GETV` reports it (R193). -/
def calFields (k : Cal) (hi : Bool) : List Field :=
  [.num (if hi then k.cHi else k.cLo), .num (if hi then k.vHi else k.vLo), .num (yes k.mark)]

/-- The contents of a setting, as `GETV` reports them (R193). -/
def Settings.contents (w : Settings) : SettingName → List Field
  | .plain p => [.num (w.plain.get p)]
  | .stn i => entryFields w.stn[i]
  | .cal n hi => calFields w.cal[n] hi

/-- A calibration end replaced, with its pair's mark (R112). -/
def Cal.setEnd (k : Cal) (hi : Bool) (code value : Int) (mark : Bool) : Cal :=
  if hi then { k with cHi := code, vHi := value, mark := mark } else { k with cLo := code, vLo := value, mark := mark }

/-! ### Validity (R194, R199) -/

/-- Whether a calibration pair lies in its ranges, with its high code above its low one (R112). -/
def Cal.valid (k : Cal) (n : Fin 9) : Bool :=
  inRange (0, 4096) k.cLo && inRange (0, 4096) k.cHi && inRange (chanRange n) k.vLo && inRange (chanRange n) k.vHi &&
    decide (k.cLo < k.cHi)

/-- Whether another configured entry holds an address (R127). -/
def addrTaken (stn : Vector (Option StationCfg) 6) (i : Fin 6) (addr : Int) : Bool :=
  (List.finRange 6).any fun j =>
    j != i && (match stn[j] with | some e => decide ((e.addr : Int) = addr) | none => false)

/-- Whether the station table is as R127 has it. -/
def stationsValid (stn : Vector (Option StationCfg) 6) : Bool :=
  (List.finRange 6).all fun i =>
    match stn[i] with
    | some e => decide (1 ≤ e.addr) && decide (e.addr ≤ 15) && !addrTaken stn i e.addr
    | none => true

/-- Whether every setting lies in its range (R199). -/
def Settings.valid (w : Settings) : Bool :=
  (PlainName.all.all fun p => inRange p.range (w.plain.get p)) && stationsValid w.stn &&
    (List.finRange 9).all fun n => w.cal[n].valid n

/-- Whether a counter record lies in its ranges (R162). -/
def Counter.valid (c : Counter) : Bool :=
  decide (c.threshold ≤ Config.counterMax) && decide (c.value ≤ Config.counterMax) && decide (c.residue ≤ 99)

/-- Whether a stored image is valid (R199). -/
def Image.good (m : Image) : Bool := m.valid && m.settings.valid && m.counters.toList.all Counter.valid

end Sys2Proof.Machine
end

