-- ==== Sys2Proof/Machine/Operands.lean ====
section
/-!
DEFINITION. The operand forms of the requests (R19 to R22, R124, R159, R170 to R173, R185, R186, R194): what each
takes from its fields, or none where they do not fit the form. Also the expansion of a `SEQN` (R20), the checks of an
admission (R16, R17), and the fields of a reply that several requests share.
-/

namespace Sys2Proof.Machine

/-! ### `MOVE` and `SEQN` -/

/-- What a `MOVE` asks for (R19). -/
structure MoveForm where
  kind : Kind
  side : Option Side
  target : Option Int
  after : Option Int
  creep : Bool
deriving DecidableEq, Repr

/-- The optional fields of a `MOVE`, in either order (R19). -/
def moveOptions : List Field → Option (Option Int × Bool)
  | [] => some (none, false)
  | [.wnum w n] => if w = "AFTER" then some (some n, false) else none
  | [.word w] => if w = "CREEP" then some (none, true) else none
  | [.wnum w n, .word v] => if w = "AFTER" ∧ v = "CREEP" then some (some n, true) else none
  | [.word v, .wnum w n] => if w = "AFTER" ∧ v = "CREEP" then some (some n, true) else none
  | _ => none

/-- The fields of a `MOVE` after its kind word (R19). -/
def moveRest (k : Kind) (fs : List Field) : Option MoveForm :=
  match k, fs with
  | .lift, .num n :: opts | .tilt, .num n :: opts => (moveOptions opts).map fun o => ⟨k, none, some n, o.1, o.2⟩
  | .level, opts | .stow, opts | .unstow, opts => (moveOptions opts).map fun o => ⟨k, none, none, o.1, o.2⟩
  | .doorOpen, .word w :: opts | .doorShut, .word w :: opts =>
    match reading allSides sideWord w, moveOptions opts with
    | some side, some (a, false) => some ⟨k, some side, none, a, false⟩
    | _, _ => none
  | _, _ => none

/-- The form of a `MOVE` (R19). -/
def readMove : List Field → Option MoveForm
  | .word w :: rest =>
    match reading Kind.all Kind.word w with
    | some k => moveRest k rest
    | none => none
  | _ => none

/-- The sequences (R20). -/
inductive SeqName where
  | deploy
  | toBed
  | stowAll
  | secure
deriving DecidableEq, Repr

/-- The name of a sequence. -/
def SeqName.word : SeqName → String
  | .deploy => "DEPLOY"
  | .toBed => "TOBED"
  | .stowAll => "STOWALL"
  | .secure => "SECURE"

/-- The four sequences. -/
def SeqName.all : List SeqName := [.deploy, .toBed, .stowAll, .secure]

/-- The form of a `SEQN` (R20). -/
def readSeqn : List Field → Option SeqName
  | [.word w] => reading SeqName.all SeqName.word w
  | _ => none

/-- The kind, side and target of each record of a chain to stow the platform (R20). -/
def State.stowChain (s : State) : List (Kind × Option Side × Option Int) :=
  if s.stowed then []
  else [(.lift, none, some s.settings.plain.bedHt), (.tilt, none, some 0), (.stow, none, none)]

/-- The expansion of a sequence against the filtered tilt (R20). -/
def State.expand (s : State) : SeqName → List (Kind × Option Side × Option Int)
  | .deploy =>
    (if s.stowed then [(.unstow, none, none)] else []) ++ [(.lift, none, some 0), (.level, none, none)]
  | .toBed => [(.lift, none, some s.settings.plain.bedHt), (.tilt, none, some 0)]
  | .stowAll => s.stowChain
  | .secure => [(.doorShut, some .near, none), (.doorShut, some .off, none)] ++ s.stowChain

/-- Checks 2 to 4 of R16. -/
def State.refusal (s : State) : Option String :=
  if s.halt.set then some "HALTED"
  else if s.link.sup.state = .expired then some "EXPIRED"
  else if s.settings.plain.supReq = 1 ∧ s.link.sup.taken = false then some "NOTARMED"
  else none

/-- Whether an ended record ended `DONE`. -/
def Record.endedDone (r : Record) : Bool :=
  match r.ended with
  | some e => e.outcome == .done
  | none => false

/-- A named predecessor resolved (R17): the predecessor the record gets, or the word of the refusal. -/
def State.resolvePred (s : State) (h : Handle) : String ⊕ Option Handle :=
  if (s.find h).isSome then .inr (some h)
  else
    match s.plan.recent.find? fun r => r.handle == h with
    | some r =>
      if r.endedDone then .inr none else .inl "PREDFAILED"
    | none => .inl "NOHANDLE"

/-- The predecessor of a `MOVE` (R16, R17, R19). -/
def State.movePred (s : State) : Option Int → String ⊕ Option Handle
  | none => .inr none
  | some h => s.resolvePred h.toNat

/-- The records of a sequence admitted one after the other, each tail-lift record behind the one before it (R20).
`last` is the tail-lift record admitted last. -/
def State.admitAll (s : State) (seq : Nat) (last : Option Handle) : List (Kind × Option Side × Option Int) → State
  | [] => s
  | (k, side, target) :: rest =>
    let h := s.plan.newHandle
    let s1 :=
      s.enrol
        { kind := k, side := side, target := target, creep := false, origin := .link, key := none
          pred := if k.isLift then last else none, seq := some seq }
    s1.admitAll seq (if k.isLift then some h else last) rest

/-! ### Calibration, beacons, counters -/

/-- The channel a number names. -/
def chanOf (n : Int) : Option (Fin 9) := (List.finRange 9).find? fun i => decide ((i.val : Int) = n)

/-- The counter a number names. -/
def counterOf (n : Int) : Option (Fin 8) := (List.finRange 8).find? fun i => decide ((i.val : Int) = n)

/-- The end a word names (R124): true for `HI`. -/
def readEnd : String → Option Bool
  | "LO" => some false
  | "HI" => some true
  | _ => none

/-- The form of a `CALP` (R124): channel number, end, value. -/
def readCalp : List Field → Option (Int × Bool × Int)
  | [.num n, .word w, .num v] => (readEnd w).map fun hi => (n, hi, v)
  | _ => none

/-- The channels that a field of `BEAC` names (R159). -/
def readLamps : Field → Option (List Lamp)
  | .word w => if w = "ALL" then some allLamps else (reading allLamps lampWord w).map fun l => [l]
  | .num _ | .wnum _ _ | .bad _ => none

/-- The form of a `BEAC` (R159, R160): the channels, and the pattern, or none for `CLEAR`. -/
def readBeac : List Field → Option (List Lamp × Option Pattern)
  | [x, .word w] =>
    match readLamps x with
    | some ls => if w = "CLEAR" then some (ls, none) else (reading Pattern.all Pattern.word w).map fun p => (ls, some p)
    | none => none
  | _ => none

/-- What `CNTR SETUP` asks for (R173). -/
structure SetupForm where
  index : Int
  source : Source
  duration : Bool
  load : Bool
  origin : OriginFilter
  side : SideFilter
  millions : Int
  units : Int
  derate : Int
deriving DecidableEq, Repr

/-- The form of a `CNTR SETUP` after its operation word (R173). -/
def readSetup : List Field → Option SetupForm
  | [.num i, .word src, .word mode, .word weight, .word org, .word side, .wnum a m, .wnum b u, .wnum c d] =>
    match reading Source.all Source.word src, reading [false, true] modeWord mode,
      reading [false, true] weightWord weight, reading OriginFilter.all OriginFilter.word org,
      reading SideFilter.all SideFilter.word side with
    | some s, some dur, some w, some o, some x =>
      if a = "THM" ∧ b = "THL" ∧ c = "DERATE" then some ⟨i, s, dur, w, o, x, m, u, d⟩ else none
    | _, _, _, _, _ => none
  | _ => none

/-- Step 2 of R173: every number in its range, and no combination that is refused. -/
def SetupForm.inRange (f : SetupForm) : Bool :=
  Machine.inRange (0, 7) f.index && Machine.inRange (0, 999999) f.millions && Machine.inRange (0, 999999) f.units &&
    Machine.inRange (0, 1) f.derate && (!f.duration || f.source.isSpan) && (!f.load || f.source == .liftCyc)

/-- The threshold asked for (R173). -/
def SetupForm.asked (f : SetupForm) : Nat := f.millions.toNat * 1000000 + f.units.toNat

/-- The threshold stored: clamped to the greatest count (R173). -/
def SetupForm.threshold (f : SetupForm) : Nat := min Config.counterMax f.asked

/-- A counter with its setup replaced and its reached flag decided afresh (R173). -/
def Counter.setUp (c : Counter) (f : SetupForm) : Counter :=
  { source := f.source, duration := f.duration, load := f.load, origin := f.origin, side := f.side,
    threshold := f.threshold, derate := decide (f.derate = 1), value := c.value,
    reached := decide (f.threshold ≠ 0 ∧ f.threshold ≤ c.value),
    residue := if c.source = f.source ∧ c.duration = f.duration then c.residue else 0 }

/-- A count as two fields, millions and units (R171). -/
def countFields (m u : String) (n : Nat) : List Field := [.wnum m (n / 1000000 : Nat), .wnum u (n % 1000000 : Nat)]

/-! ### Notices and records -/

/-- A position as a field (R13). -/
def posField : Pos → Field
  | .value n => .num n
  | .door d => .word d.word

/-- A notice's kind word and fields (R190). -/
def noticeFields : Notice → List Field
  | .ended h k o why p =>
    [.word "ENDED", .num h, .word k.word, .word o.word, .word (wordOr EndReason.word why), posField p]
  | .held h w => [.word "HELD", .num h, .word w.word]
  | .halted (.station i) => [.word "HALTED", .word "STATION", .num (i.val + 1 : Nat)]
  | .halted .linkChar => [.word "HALTED", .word "LINKCHAR"]
  | .halted .request => [.word "HALTED", .word "REQUEST"]
  | .halted .estop => [.word "HALTED", .word "ESTOP"]
  | .halted .welded => [.word "HALTED", .word "WELDED"]
  | .station i a found =>
    [.word "STATION", .num (i.val + 1 : Nat), .num a, .word (if found then "FOUND" else "LOST")]
  | .busFault n => [.word "BUSFAULT", .num n]
  | .busOk n => [.word "BUSOK", .num n]
  | .lamp l f => [.word "LAMP", .word (lampWord l), .word f.word]
  | .supply a b v => [.word "SUPPLY", .word a.word, .word b.word, .num v]
  | .service i src v =>
    [.word "SERVICE", .num i.val, .word src.word, .num (v / 1000000 : Nat), .num (v % 1000000 : Nat)]
  | .linkLost byCount live n =>
    [.word "LINKLOST", .word (if byCount then "COUNT" else "TIME"), .num live, .num n]
  | .driveAway v a b t => [.word "DRIVEAWAY", .num v, .word a.word, .word b.word, .num t]
  | .doorMoved side a b => [.word "DOORMOVED", .word (sideWord side), .word a.word, .word b.word]
  | .defaults k => [.word "DEFAULTS", .word k.word]

/-- The number of an origin (R22). -/
def Origin.number : Origin → Int
  | .link => 0
  | .station i => (i.val + 1 : Nat)

/-- A field that stands when a thing is present. -/
def optField {α : Type} (f : α → Field) : Option α → List Field
  | some x => [f x]
  | none => []

/-- A word that stands when something holds. -/
def wordIf (b : Bool) (w : String) : List Field := if b then [.word w] else []

/-- The flag words of a record, in the order of R22. -/
def Flags.fields (f : Flags) : List Field :=
  [wordIf f.clamped "CLAMPED", wordIf f.limited "LIMITED", wordIf f.overshot "OVERSHOT", wordIf f.ground "GROUND",
    wordIf f.derated "DERATED"].flatten

/-- A position reported by `QREC` (R22). -/
def posReport : Pos → Field
  | .value n => .wnum "POS" n
  | .door d => .word d.word

/-- The status word of a record (R22). -/
def Record.status (r : Record) : String :=
  match r.ended with
  | some e => e.outcome.word
  | none => r.state.word

/-- The reason word of a record (R22). -/
def Record.reasonWord (r : Record) : String :=
  match r.ended with
  | some e => wordOr EndReason.word e.reason
  | none => wordOr WaitReason.word r.wait

/-- The position that is reported of a record: the final one once ended, else the start once granted (R22). -/
def Record.shownPos (r : Record) : Option Pos :=
  match r.ended with
  | some e => some e.pos
  | none => r.start

/-- What `QREC` reports of a record (R22). -/
def recordFields (r : Record) : List Field :=
  [[.num r.handle, .word r.kind.word, .word r.status, .word r.reasonWord],
    optField (fun x => .word (sideWord x)) r.side, [.wnum "ORG" r.origin.number],
    optField (fun n => .wnum "TGT" n) r.target, optField (fun h => .wnum "PRE" h) r.pred,
    optField (fun n => .wnum "SEQ" n) r.seq, wordIf r.creep "CREEP", r.flags.fields,
    [.wnum "HOLDS" r.holds, .wnum "NUDG" r.nudges], optField posReport r.shownPos].flatten

end Sys2Proof.Machine
end

