-- ==== Sys2Proof/Machine/Reports.lean ====
section
/-!
DEFINITION. The groups of `STAT`: what each reports, in the order of Formats on the wire (R67, R92, R109, R123, R146,
R161, R188, R189).
-/

namespace Sys2Proof.Machine

/-! ### Shared items -/

/-- The status word of a channel. -/
def State.chanWord (s : State) (n : Fin 9) : Field := .word s.conv.chans[n].status.word

/-- The handle of a holder, 0 for a free resource. -/
def holderOf : Option Holding → Nat
  | some x => x.handle
  | none => 0

/-- A counted level: 1, 0, or -1 before the first one. -/
def levelOf : Option Bool → Int
  | some true => 1
  | some false => 0
  | none => -1

/-- The time until a deadline, 0 when there is none. -/
def State.left (s : State) : Option Nat → Nat
  | some t => t - s.now
  | none => 0

/-! ### `STAT AXES` (R92) -/

/-- The run time of a record (R68, R85). -/
def Run.time (run : Run) (now : Nat) : Nat :=
  if run.runKind.isSome then run.runAcc + (now - run.runFrom) else run.runAcc

/-- The items of the holder. -/
def State.runFields (s : State) (r : Record) (run : Run) : List Field :=
  [.wnum "TG" run.target, .word run.dir.word, .word (wordOr RunKind.word run.runKind),
    .word (wordOr SpeedClass.word run.cls), .wnum "RT" (run.time s.now), .wnum "NU" r.nudges,
    .wnum "ND" (yes run.nudgeDue), .wnum "SR" (s.left run.settleEnd), .wnum "OA" (yes run.armed)]

/-- The items of no holder, or of one in `LEAD`. -/
def noRunFields : List Field :=
  [.wnum "TG" 0, .word "NONE", .word "NONE", .word "NONE", .wnum "RT" 0, .wnum "NU" 0, .wnum "ND" 0, .wnum "SR" 0,
    .wnum "OA" 0]

/-- The items of the holder, if it is past `LEAD`. -/
def State.holderFields (s : State) : List Field :=
  match s.packRecord, s.axis.run with
  | some r, some run => if r.state = .lead then noRunFields else s.runFields r run
  | _, _ => noRunFields

/-- A filtered incline as it is reported. -/
def inclineOf (v : Option Int) : Int := v.getD Config.noValue

/-- `STAT AXES`. -/
def State.statAxes (s : State) : List Field :=
  [.wnum "HT" (s.reported 0), s.chanWord 0, .wnum "TL" (s.reported 1), s.chanWord 1, .wnum "PI" (inclineOf s.pitch),
    .wnum "RO" (inclineOf s.roll), .wnum "PR" (s.reported 4), s.chanWord 4, .wnum "LD" s.axis.presentLoad,
    .wnum "LL" s.axis.lastLoad, .wnum "PK" (holderOf s.arb.pack),
    .word (wordOr (fun r : Record => r.kind.word) s.packRecord)] ++
    s.holderFields ++ [.wnum "DR" (yes s.cnt.derating)]

/-! ### `STAT DOORS` (R109) -/

/-- The phase timer of a door, 0 with no phase. -/
def State.phaseTime (s : State) (d : Door) : Nat := if d.phase.isSome then s.now - d.phaseAt else 0

/-- The obstruction time of a door. -/
def State.obsTime (s : State) (d : Door) : Nat :=
  match d.obsSince with
  | some t => if d.phase.isSome then s.now - t else 0
  | none => 0

/-- The fields of one side. The names of its fields end in `x`, and the current's is `i`. -/
def State.doorFields (s : State) (side : Side) (x i : String) : List Field :=
  let d := s.door side
  let sw := s.inputs.switches side
  [.word d.state.word, .word (wordOr Phase.word d.phase), .wnum ("H" ++ x) (holderOf (s.arb.channel side)),
    .wnum ("PT" ++ x) (s.phaseTime d), .wnum ("OT" ++ x) (s.obsTime d), .wnum ("CL" ++ x) (levelOf sw.closed.counted),
    .wnum ("LA" ++ x) (levelOf sw.latched.counted), .wnum ("OP" ++ x) (levelOf sw.opened.counted),
    .wnum i (s.reported (currentChan side)), s.chanWord (currentChan side)]

/-- `STAT DOORS`. -/
def State.statDoors (s : State) : List Field := s.doorFields .near "N" "IN" ++ s.doorFields .off "F" "IF"

/-! ### `STAT SUPPLY` (R67) -/

/-- `STAT SUPPLY`. -/
def State.statSupply (s : State) : List Field :=
  [.word s.supply.state.word, .wnum "V" ((s.chanValue 5).getD (-1)), s.chanWord 5, .wnum "IP" (s.reported 6),
    s.chanWord 6, .wnum "LIM" s.limit, .wnum "COM" s.committed, .word s.arb.contactor.word,
    .wnum "REST" (s.left s.arb.restUntil), .wnum "ENG" (yes s.engineOn), .wnum "PKH" (holderOf s.arb.pack),
    .wnum "PKD" (drawOf s.arb.pack), .wnum "NH" (holderOf s.arb.near), .wnum "NDR" (drawOf s.arb.near),
    .wnum "FH" (holderOf s.arb.off), .wnum "FDR" (drawOf s.arb.off)]

/-! ### `STAT COND` (R35) -/

/-- The fourteen conditions of the whole part, numbered from 1. -/
def State.condFields (s : State) : List Field :=
  (Cond.all.take 14).mapIdx fun i c => .wnum ("C" ++ toString (i + 1)) (yes (s.cond c))

/-- `HOLD` of each tail-lift record. -/
def State.holdFields (s : State) : List Field :=
  (s.plan.records.filter fun r => r.kind.isLift).map fun r => .wnum ("H" ++ toString r.handle) (yes (s.holdOf r))

/-- The road speed as it is reported. -/
def State.speedShown (s : State) : Int :=
  match s.eval.speed with
  | some v => v
  | none => -1

/-- `STAT COND`. -/
def State.statCond (s : State) : List Field :=
  [.wnum "PARK" (levelOf s.inputs.park.counted), .wnum "IGN" (levelOf s.inputs.ign.counted),
    .wnum "ENG" (levelOf s.inputs.engine.counted), .wnum "MAST" (levelOf s.inputs.master.counted),
    .wnum "OIL" (levelOf s.inputs.oilhot.counted), .wnum "ESTOP" (yes s.inputs.estopCounted),
    .wnum "SPD" s.speedShown, .wnum "DA" (yes s.eval.driveAway)] ++ s.condFields ++ s.holdFields

/-! ### `STAT PLAN` (R23) -/

/-- The stations in the `STATION` cause as digits. -/
def stationDigits (v : Vector Bool 6) : Nat :=
  (List.finRange 6).foldl (fun n i => if v[i] then 10 * n + (i.val + 1) else n) 0

/-- `STAT PLAN`. One word stands for each present cause, in the order of Formats on the wire. With no cause present there
is none, and STATION stands once however many stations hold it: DESIGN CHOICE, log entry 40. SI names the stations whose
cause is present, also where the first cause is a STATION that has been released: DESIGN CHOICE, log entry 47. -/
def State.statPlan (s : State) : List Field :=
  [[.wnum "N" s.plan.records.length, .wnum "PK" s.plan.peak, .wnum "HALT" (yes s.halt.set),
      .word (wordOr Cause.word s.halt.first)],
    wordIf (s.halt.stations.toList.any id) "STATION", wordIf s.halt.estop "ESTOP", wordIf s.halt.welded "WELDED",
    [.wnum "SI" (stationDigits s.halt.stations), .wnum "PKH" (holderOf s.arb.pack), .wnum "NH" (holderOf s.arb.near),
      .wnum "FH" (holderOf s.arb.off)]].flatten

/-! ### `STAT STATIONS` (R146) -/

/-- A set of keys as the sum of their weights. -/
def keySum (ks : Vector KeySt 6) (f : KeySt → Bool) : Nat :=
  (List.finRange 6).foldl (fun n i => if f ks[i] then n + 2 ^ i.val else n) 0

/-- The fields of a station with an entry in force. -/
def stationFields (i : String) (x : Station) (e : StationCfg) : List Field :=
  [.wnum ("A" ++ i) e.addr, .word e.role.word, .word e.role.sideWord, .word x.state.word, .wnum ("G" ++ i) x.goodRun,
    .wnum ("M" ++ i) x.missRun, .wnum ("KP" ++ i) (keySum x.keys (·.pressed)),
    .wnum ("KB" ++ i) (keySum x.keys (·.barred)), .wnum ("SK" ++ i) (yes x.stuck), .wnum ("MC" ++ i) x.missCount,
    .word (wordOr MissKind.word x.lastMiss), .wnum ("AC" ++ i) x.aborts, .wnum ("RC" ++ i) x.conflicts]

/-- The fields of an entry that is not configured. -/
def noStationFields (i : String) : List Field :=
  [.wnum ("A" ++ i) 0, .word "NONE", .word "NONE", .word "NONE", .wnum ("G" ++ i) 0, .wnum ("M" ++ i) 0,
    .wnum ("KP" ++ i) 0, .wnum ("KB" ++ i) 0, .wnum ("SK" ++ i) 0, .wnum ("MC" ++ i) 0, .word "NONE",
    .wnum ("AC" ++ i) 0, .wnum ("RC" ++ i) 0]

/-- The fields of one index. -/
def State.stationReport (s : State) (i : Fin 6) : List Field :=
  match s.bus.stations[i].entry with
  | some e => stationFields (toString (i.val + 1)) s.bus.stations[i] e
  | none => noStationFields (toString (i.val + 1))

/-- `STAT STATIONS`. -/
def State.statStations (s : State) : List Field :=
  [.word (if s.bus.fault then "FAULT" else "NORMAL"), .wnum "BF" s.bus.faultCount, .wnum "CR" s.bus.conflictRun,
    .wnum "CL" s.bus.cleanRun] ++ (List.finRange 6).flatMap s.stationReport

/-! ### `STAT BEACONS` (R161) -/

/-- The letter of a channel in its field names. -/
def lampLetter : Lamp → String
  | .b0 => "0"
  | .b1 => "1"
  | .b2 => "2"
  | .b3 => "3"
  | .snd => "S"

/-- The faults of a channel as words, or `NONE`. -/
def LampCh.faultFields (c : LampCh) : List Field :=
  if c.faulty then c.faults.map fun f => .word f.word else [.word "NONE"]

/-- The fields of one channel. -/
def State.lampReport (s : State) (l : Lamp) : List Field :=
  let c := s.beac.lamps[lampIdx l]
  [.word c.cls.word, .word c.pattern.word, .word c.host.word, .wnum ("C" ++ lampLetter l) (yes c.level),
    .wnum ("R" ++ lampLetter l) (yes c.readBack), .wnum ("F" ++ lampLetter l) (yes c.forced)] ++ c.faultFields

/-- `STAT BEACONS`. -/
def State.statBeacons (s : State) : List Field :=
  [.wnum "SL" s.beac.slot, .wnum "RM" (yes s.rearMoving), .wnum "RT" (s.left s.beac.rearTrail),
    .wnum "TN" (s.left s.beac.nearTrail), .wnum "TF" (s.left s.beac.offTrail), .wnum "BOK" (yes (s.cond .beaconOk))] ++
    allLamps.flatMap s.lampReport

/-! ### `STAT PART` and `STAT LINK` (R189) -/

/-- `STAT PART`. -/
def State.statPart (s : State) : List Field :=
  [.word s.startup.kind.word, .wnum "DEF" (yes s.startup.defaults), .wnum "SAVE" (yes s.store.save.isSome),
    .word (if s.conv.refGood then "GOOD" else "BAD"),
    .wnum "C9" (match s.conv.ch9 with | some c => (c : Int) | none => -1), .wnum "RFC" s.conv.refFails]

/-- `STAT LINK`. -/
def State.statLink (s : State) : List Field :=
  let l := s.link
  let n := l.counts
  [.word l.sup.state.word, .wnum "IV" (l.sup.interval.getD 0 : Nat), .wnum "LC" l.sup.live,
    .wnum "LR" (s.left l.sup.deadline), .wnum "BAUD" (if l.strap then 115200 else 38400), .wnum "FQ" l.fifo.length,
    .wnum "TQ" l.tx.length, .wnum "FRM" n.framing, .wnum "OVR" n.overrun, .wnum "DMG" n.damage,
    .wnum "CS" n.checksum, .wnum "TAG" n.tag, .wnum "BRK" n.brk, .wnum "HC" n.halt, .wnum "EXP" n.expiry]

/-- The fields of a group, by its word (R188). -/
def State.statGroup (s : State) : String → Option (List Field)
  | "AXES" => some s.statAxes
  | "DOORS" => some s.statDoors
  | "SUPPLY" => some s.statSupply
  | "COND" => some s.statCond
  | "PLAN" => some s.statPlan
  | "STATIONS" => some s.statStations
  | "BEACONS" => some s.statBeacons
  | "PART" => some s.statPart
  | "LINK" => some s.statLink
  | _ => none

end Sys2Proof.Machine
end

