-- ==== Sys2Proof/Machine/Wire.lean ====
section
/-!
DEFINITION. Records on the host link: writing and reading a field (R179), the check (R178), the judgement of a complete
record (R178), the text of a request and of a reply (R183), the receive FIFO (R175) and the assembler (R176, R177).
-/

namespace Sys2Proof.Machine

/-! ### Characters (R174) -/

/-- The characters of a text. -/
def chars (w : String) : List Ch := w.toList.map fun c => BitVec.ofNat 8 c.toNat

/-- A text of characters. -/
def textOf (cs : List Ch) : String := String.ofList (cs.map fun c => Char.ofNat c.toNat)

/-- A digit. -/
def isDigit (c : Ch) : Bool := decide (48 ≤ c.toNat) && decide (c.toNat ≤ 57)

/-- An uppercase letter. -/
def isUpper (c : Ch) : Bool := decide (65 ≤ c.toNat) && decide (c.toNat ≤ 90)

/-- A digit or an uppercase letter A to F (R178). -/
def isHex (c : Ch) : Bool := isDigit c || (decide (65 ≤ c.toNat) && decide (c.toNat ≤ 70))

/-- The value of a hexadecimal digit. -/
def hexVal (c : Ch) : Nat := if isDigit c then c.toNat - 48 else c.toNat - 55

/-- A number below 16 as a digit or uppercase letter. -/
def hexCh (n : Nat) : Ch := BitVec.ofNat 8 (if n < 10 then 48 + n else 55 + n)

/-- A byte as two hexadecimal digits. -/
def hex2 (b : BitVec 8) : List Ch := [hexCh (b.toNat / 16), hexCh (b.toNat % 16)]

/-- A control character other than CR and LF is no text (R177). -/
def isControl (c : Ch) : Bool := decide (c.toNat < 32) || decide (c.toNat = 127)

/-- The sum of characters, mod 256 (R178). -/
def sumOf (cs : List Ch) : BitVec 8 := cs.foldl (· + ·) 0

/-! ### Fields (R179) -/

/-- The decimal digits of a number, without leading zeros, before `acc`; `fuel` digits at most. -/
def digitsOnto : Nat → Nat → List Ch → List Ch
  | 0, _, acc => acc
  | fuel + 1, n, acc =>
    let acc' := BitVec.ofNat 8 (48 + n % 10) :: acc
    if n / 10 = 0 then acc' else digitsOnto fuel (n / 10) acc'

/-- A natural number in decimal. -/
def digits (n : Nat) : List Ch := digitsOnto 20 n []

/-- A number in decimal, with `-` when negative (R183). -/
def numText (n : Int) : List Ch := if n < 0 then 0x2D#8 :: digits n.natAbs else digits n.natAbs

/-- A field as it is written (R179, R183). -/
def fieldText : Field → List Ch
  | .num n => numText n
  | .word w => chars w
  | .wnum w n => chars w ++ 0x3D#8 :: numText n
  | .bad text => text

/-- Fields as they are written, each after a comma. -/
def fieldsText (fs : List Field) : List Ch := fs.flatMap fun f => 0x2C#8 :: fieldText f

/-- The value of decimal digits. -/
def digitsVal (cs : List Ch) : Nat := cs.foldl (fun n c => 10 * n + (c.toNat - 48)) 0

/-- One to six digits (R179). -/
def readNat (cs : List Ch) : Option Nat :=
  if decide (1 ≤ cs.length) && decide (cs.length ≤ 6) && cs.all isDigit then some (digitsVal cs) else none

/-- A number (R179). -/
def readNum (cs : List Ch) : Option Int :=
  match cs with
  | [] => none
  | c :: rest => if c = 0x2D#8 then (readNat rest).map fun n => -(n : Int) else (readNat cs).map fun n => (n : Int)

/-- Whether a text is a word: 1 to 12 uppercase letters or digits, the first a letter (R179). -/
def isWord (cs : List Ch) : Bool :=
  match cs with
  | [] => false
  | c :: rest => isUpper c && rest.all (fun c => isUpper c || isDigit c) && decide (rest.length ≤ 11)

/-- The text before the first `=` and the text after it. -/
def splitEq : List Ch → Option (List Ch × List Ch)
  | [] => none
  | c :: rest => if c = 0x3D#8 then some ([], rest) else (splitEq rest).map fun x => (c :: x.1, x.2)

/-- The text between two commas, read as one of the three forms (R179). -/
def readField (cs : List Ch) : Field :=
  match readNum cs with
  | some n => .num n
  | none =>
    if isWord cs then .word (textOf cs)
    else
      match splitEq cs with
      | some (a, b) =>
        match readNum b with
        | some n => if isWord a then .wnum (textOf a) n else .bad cs
        | none => .bad cs
      | none => .bad cs

/-- A text split at its commas. -/
def splitCommas : List Ch → List (List Ch)
  | [] => [[]]
  | c :: rest =>
    if c = 0x2C#8 then [] :: splitCommas rest
    else
      match splitCommas rest with
      | [] => [[c]]
      | x :: xs => (c :: x) :: xs

/-- The fields of a record: the text after its name (R179). -/
def readFields : List Ch → List Field
  | [] => []
  | _ :: rest => (splitCommas rest).map readField

/-! ### Judgement of a complete record (R178) -/

/-- What the steps of R178 decide. A request whose fields do not fit the grammar of R179 carries them as `bad`, and
its own rule answers `SYNTAX`. -/
inductive Judged where
  | silent
  | csum (tag : Tag)
  | badName (tag : Tag)
  | unknown (tag : Tag) (name : List Ch)
  | request (r : Request)
deriving DecidableEq, Repr

/-- The tag that two hexadecimal digits write. -/
def tagOf (a b : Ch) : Tag := BitVec.ofNat 8 (16 * hexVal a + hexVal b)

/-- The tag of a record, if well formed: its first two characters after the `@` (R178). -/
def readTag : List Ch → Option Tag
  | a :: b :: _ => if isHex a && isHex b then some (tagOf a b) else none
  | _ => none

/-- Steps 3 and 4 and the fields, of what stands between the tag and the check. -/
def judgeName (tag : Tag) : List Ch → Judged
  | a :: b :: c :: d :: rest =>
    if [a, b, c, d].all isUpper && (rest.isEmpty || rest.head? == some 0x2C#8) then
      match reading allReqs reqWord (textOf [a, b, c, d]) with
      | some n => .request ⟨tag, n, readFields rest⟩
      | none => .unknown tag [a, b, c, d]
    else .badName tag
  | _ => .badName tag

/-- The check part of a record (R178): the last three characters are `*` and two hexadecimal digits, and their
value is the sum of the characters before them. -/
def checks (main check : List Ch) : Bool :=
  match check with
  | [star, a, b] => star == 0x2A#8 && isHex a && isHex b && tagOf a b == sumOf main
  | _ => false

/-- A complete record judged (R178). `text` begins with its `@`. -/
def judgeText (text : List Ch) : Judged :=
  let body := text.drop 1
  let main := body.take (body.length - 3)
  if checks main (body.drop (body.length - 3)) then
    match readTag main with
    | some t => judgeName t (main.drop 2)
    | none => .silent
  else
    match readTag body with
    | some t => .csum t
    | none => .silent

/-- A text between its start character and its check (Formats on the wire). -/
def framed (start : Ch) (main : List Ch) : List Ch := start :: (main ++ 0x2A#8 :: hex2 (sumOf main))

/-- The record of a request, from its `@` to its check digits. -/
def recordText (r : Request) : List Ch := framed 0x40#8 (hex2 r.tag ++ chars (reqWord r.name) ++ fieldsText r.fields)

/-- A reply, CR and LF included (R183). -/
def replyText (tag : Tag) (name : List Ch) (result : String) (fs : List Field) : List Ch :=
  framed 0x3D#8 (hex2 tag ++ name ++ 0x2C#8 :: (chars result ++ fieldsText fs)) ++ [0x0D#8, 0x0A#8]

/-! ### The receive FIFO and the assembler (R175 to R177) -/

/-- A count of R184 raised by 1. -/
def count16 (n : Nat) : Nat := satSucc 65535 n

/-- The newest character of the FIFO gets a loss mark. -/
def markLast : List RxChar → List RxChar
  | [] => []
  | [x] => [{ x with loss := true }]
  | x :: rest => x :: markLast rest

/-- Whether the newest character of the FIFO carries a loss mark. -/
def lastLost (xs : List RxChar) : Bool :=
  match xs.getLast? with
  | some x => x.loss
  | none => false

/-- A character joins the FIFO, or is lost (R174, R175). -/
def Link.receive (l : Link) (c : Ch) (framing : Bool) : Link :=
  let n := l.counts
  let l1 := { l with counts := { n with framing := if framing then count16 n.framing else n.framing } }
  if l.fifo.length < Config.fifoCap then { l1 with fifo := l.fifo ++ [⟨c, framing, false⟩] }
  else if lastLost l.fifo then l1
  else { l1 with fifo := markLast l.fifo, counts := { l1.counts with overrun := count16 n.overrun } }

/-- A damaged record is discarded and counted (R176, R177). -/
def Link.damage (l : Link) (asm : Assembler) : Link :=
  { l with asm := asm, counts := { l.counts with damage := count16 l.counts.damage } }

/-- One character in ASSEMBLING (R176, R177). -/
def Link.store (l : Link) (text : List Ch) (damaged : Bool) (x : RxChar) : Link :=
  let hurt := damaged || x.framing
  if x.c = 0x0A#8 then { l with asm := .assembling text hurt }
  else if x.c = 0x0D#8 then
    if hurt then l.damage .hunting else { l with asm := .hunting, complete := some text }
  else if x.c = 0x40#8 ∧ x.framing = false then l.damage (.assembling [0x40#8] false)
  else if hurt || isControl x.c || decide (Config.recordCap ≤ text.length) then { l with asm := .assembling text true }
  else { l with asm := .assembling (text ++ [x.c]) false }

/-- A loss mark, after its character (R175). -/
def Link.loss (l : Link) : Link :=
  match l.asm with
  | .hunting => l
  | .assembling text _ => { l with asm := .assembling text true }

/-- The assembler takes one character (R175, R176). -/
def Link.assemble (l : Link) (x : RxChar) : Link :=
  let l1 :=
    match l.asm with
    | .hunting => if x.c = 0x40#8 ∧ x.framing = false then { l with asm := .assembling [0x40#8] false } else l
    | .assembling text damaged => l.store text damaged x
  if x.loss then l1.loss else l1

/-- The FIFO and the record in assembly are dropped (R180, R181). -/
def Link.clear (l : Link) : Link := { l with fifo := [], asm := .hunting, complete := none }

/-- The room of the transmit queue. -/
def Link.room (l : Link) : Nat := Config.txCap - l.tx.length

/-- A reply is placed: what there is room for enters the transmit queue, the rest is fed later (R183). -/
def Link.place (l : Link) (text : List Ch) : Link :=
  { l with tx := l.tx ++ text.take l.room, feed := text.drop l.room }

/-- The transmitter sends the head character, and the rest of a reply is fed into the room (R183). -/
def Link.sent (l : Link) : Link := { l with tx := l.tx.drop 1 }.place l.feed

end Sys2Proof.Machine
end

