-- ==== Sys2Proof/Machine/Requests.lean ====
section
/-!
DEFINITION. The requests of the host link (R16 to R30, R124, R159, R160, R170 to R173, R185 to R188, R192 to R197): the
effect of each and its reply. `t` is the tag and `fs` the fields.
-/

namespace Sys2Proof.Machine

/-- A reply is placed in the transmit queue (R183). -/
def State.answer (s : State) (t : Tag) (n : ReqName) (result : String) (fs : List Field) : State :=
  { s with link := s.link.place (replyText t (chars (reqWord n)) result fs) }

/-! ### Motion requests -/

/-- The admission that a `MOVE` asks for (R19). -/
def MoveForm.ask (f : MoveForm) (pred : Option Handle) : Ask :=
  { kind := f.kind, side := f.side, target := f.target, creep := f.creep, origin := .link, key := none, pred := pred,
    seq := none }

/-- Whether the predecessor named lies in its range (R16, R19). -/
def MoveForm.inRange (f : MoveForm) : Bool :=
  match f.after with
  | some h => Machine.inRange (1, 255) h
  | none => true

/-- A `MOVE` that has passed its checks (R19). -/
def State.takeMove (s : State) (t : Tag) (a : Ask) : State :=
  ((s.enrol a).conclude).answer t .move "OK"
    ([.num s.plan.newHandle] ++ wordIf (s.make a).flags.clamped "CLAMPED")

/-- `MOVE` (R16 to R19). -/
def State.reqMove (s : State) (t : Tag) (fs : List Field) : State :=
  match readMove fs with
  | none => s.answer t .move "SYNTAX" []
  | some f =>
    if f.inRange then
      match s.refusal with
      | some w => s.answer t .move w []
      | none =>
        match s.movePred f.after with
        | .inl w => s.answer t .move w []
        | .inr p =>
          if s.plan.records.length < Config.tableCap then s.takeMove t (f.ask p) else s.answer t .move "FULL" []
    else s.answer t .move "RANGE" []

/-- Whether a sequence needs the tilt (R20). -/
def SeqName.needsTilt : SeqName → Bool
  | .deploy | .stowAll | .secure => true
  | .toBed => false

/-- A `SEQN` that has passed its checks (R4, R20). -/
def State.takeSeqn (s : State) (t : Tag) (xs : List (Kind × Option Side × Option Int)) : State :=
  let n := s.plan.newSeq
  let s1 := s.admitAll n none xs
  let s2 := if xs = [] then s1 else { s1 with plan := { s1.plan with nextSeq := succ255 n } }
  s2.conclude.answer t .seqn "OK"
    (.num xs.length :: (s1.plan.records.drop s.plan.records.length).map fun r => .num r.handle)

/-- `SEQN` (R16, R20). -/
def State.reqSeqn (s : State) (t : Tag) (fs : List Field) : State :=
  match readSeqn fs with
  | none => s.answer t .seqn "SYNTAX" []
  | some q =>
    match s.refusal with
    | some w => s.answer t .seqn w []
    | none =>
      if q.needsTilt && (s.chanValue 1).isNone then s.answer t .seqn "SENSOR" []
      else if s.plan.records.length + (s.expand q).length ≤ Config.tableCap then s.takeSeqn t (s.expand q)
      else s.answer t .seqn "FULL" []

/-- A reply `OK` with how many records fewer there are than before. -/
def State.answerEnded (s : State) (t : Tag) (n : ReqName) (before after : State) : State :=
  s.answer t n "OK" [.num (before.plan.records.length - after.plan.records.length : Nat)]

/-- `CANC` (R21). DEDUCED, log entry 15. -/
def State.reqCanc (s : State) (t : Tag) (fs : List Field) : State :=
  match fs with
  | [.num h] =>
    if 0 < h ∧ (s.find h.toNat).isSome then
      let s1 := s.endTree h.toNat .cancelled (some .request)
      s1.conclude.answerEnded t .canc s s1
    else s.answer t .canc "NOHANDLE" []
  | [.word "ALL"] =>
    let s1 := s.endEach s.handles .cancelled (some .request)
    s1.conclude.answerEnded t .canc s s1
  | _ => s.answer t .canc "SYNTAX" []

/-- `HALT` (R29). -/
def State.reqHalt (s : State) (t : Tag) (fs : List Field) : State :=
  match fs with
  | [] =>
    let s1 := s.raiseHalt .request
    s1.conclude.answerEnded t .halt s s1
  | _ :: _ => s.answer t .halt "SYNTAX" []

/-- `RESM` (R30). The present causes are named in the order STATION, ESTOP, WELDED, with STATION once however many
stations hold it: DESIGN CHOICE, log entry 40. -/
def State.reqResm (s : State) (t : Tag) (fs : List Field) : State :=
  match fs with
  | [] =>
    if s.halt.set then
      if s.halt.present then
        s.answer t .resm "REFUSED"
          [wordIf (s.halt.stations.toList.any id) "STATION", wordIf s.halt.estop "ESTOP",
            wordIf s.halt.welded "WELDED"].flatten
      else s.clearHalt.conclude.answer t .resm "OK" []
    else s.answer t .resm "NOTHALTED" []
  | _ :: _ => s.answer t .resm "SYNTAX" []

/-- A record of the table, or else of the recent-outcomes list (R22). -/
def State.lookUp (s : State) (h : Handle) : Option Record :=
  match s.find h with
  | some r => some r
  | none => s.plan.recent.find? fun r => r.handle == h

/-- `QREC` (R22). DEDUCED, log entry 15. -/
def State.reqQrec (s : State) (t : Tag) (fs : List Field) : State :=
  match fs with
  | [.num h] =>
    match if 0 < h then s.lookUp h.toNat else none with
    | some r => s.answer t .qrec "OK" (recordFields r)
    | none => s.answer t .qrec "NOHANDLE" []
  | _ => s.answer t .qrec "SYNTAX" []

/-- `PLAN` (R23). -/
def State.reqPlan (s : State) (t : Tag) (fs : List Field) : State :=
  match fs with
  | [] => s.answer t .plan "OK" (.num s.plan.records.length :: s.plan.records.map fun r => .num r.handle)
  | _ :: _ => s.answer t .plan "SYNTAX" []

/-! ### Calibration (R124, R125) -/

/-- `CALP` (R124). -/
def State.reqCalp (s : State) (t : Tag) (fs : List Field) : State :=
  match readCalp fs with
  | none => s.answer t .calp "SYNTAX" []
  | some (n, hi, v) =>
    match chanOf n with
    | none => s.answer t .calp "RANGE" []
    | some c =>
      if inRange (chanRange c) v then
        if s.plan.records.isEmpty then
          if s.chanOk c then { s with link := { s.link with calp := some ⟨t, c, hi, v⟩ } }
          else s.answer t .calp "SENSOR" []
        else s.answer t .calp "BUSY" []
      else s.answer t .calp "RANGE" []

/-- A calibration pair replaced in the working settings. -/
def State.setCal (s : State) (n : Fin 9) (k : Cal) : State :=
  { s with settings := { s.settings with cal := modAt s.settings.cal n fun _ => k } }

/-- A waiting `CALP` is completed by the scan that has just been taken (R125). -/
def State.finishCalp (s : State) (w : CalpWait) : State :=
  let s0 := { s with link := { s.link with calp := none } }
  let c := s.conv.chans[w.chan]
  let code := meanOf c.hist
  let k := s.settings.cal[w.chan].setEnd w.hi code w.value true
  if c.status = .ok ∧ c.fresh = true then
    if s.plan.records.isEmpty then
      if k.cHi - k.cLo < 1000 then s0.answer w.tag .calp "RANGE" [.num code]
      else
        (s0.setCal w.chan k).answer w.tag .calp "OK"
          [.num w.chan.val, .word (if w.hi then "HI" else "LO"), .num code, .num (k.cHi - k.cLo)]
    else s0.answer w.tag .calp "BUSY" []
  else s0.answer w.tag .calp "SENSOR" []

/-- The waiting `CALP`, if there is one, is completed (R125). -/
def State.completeCalp (s : State) : State :=
  match s.link.calp with
  | some w => s.finishCalp w
  | none => s

/-! ### Beacons (R159, R160) -/

/-- Host patterns set (R159). -/
def State.setHost (s : State) (ls : List Lamp) (p : Pattern) : State :=
  ls.foldl (fun t l => t.updLamp l fun c => { c with host := p }) s

/-- The resolved patterns of channels. -/
def State.patterns (s : State) (ls : List Lamp) : List Field :=
  ls.map fun l => .word s.beac.lamps[lampIdx l].pattern.word

/-- `BEAC` (R159, R160). -/
def State.reqBeac (s : State) (t : Tag) (fs : List Field) : State :=
  match readBeac fs with
  | none => s.answer t .beac "SYNTAX" []
  | some (ls, some p) =>
    let s1 := (s.setHost ls p).conclude
    s1.answer t .beac "OK" (s1.patterns ls)
  | some (ls, none) => (s.clearFaults ls).conclude.answer t .beac "OK" [.num (s.faultCount ls)]

/-! ### Duty counters (R170 to R173) -/

/-- What `CNTR READ` reports (R171). -/
def State.counterFields (s : State) (i : Fin 8) : List Field :=
  let c := s.cnt.recs[i]
  [[.num i.val, .word c.source.word, .word (modeWord c.duration), .word (weightWord c.load), .word c.origin.word,
      .word c.side.word],
    countFields "THM" "THL" c.threshold, [.wnum "DERATE" (yes c.derate)], countFields "VALM" "VALL" c.value,
    [.wnum "RES" c.residue, .wnum "REACHED" (yes c.reached), .wnum "FROZEN" (yes s.cnt.frozen)]].flatten

/-- A counter replaced. -/
def State.setCounter (s : State) (i : Fin 8) (c : Counter) : State :=
  { s with cnt := { s.cnt with recs := modAt s.cnt.recs i fun _ => c } }

/-- `CNTR CLEAR` on a counter (R172). -/
def State.clearCounter (s : State) (i : Fin 8) : State :=
  (s.setCounter i { s.cnt.recs[i] with value := 0, residue := 0, reached := false }).decideDerating

/-- `CNTR SETUP` on a counter (R173). It ends no record, so the notice of its crossing is queued at once. -/
def State.setUpCounter (s : State) (i : Fin 8) (f : SetupForm) : State :=
  let c := s.cnt.recs[i]
  let d := c.setUp f
  let s1 := s.setCounter i d
  (if d.reached && !c.reached then s1.notify (.service i d.source d.value) else s1).decideDerating

/-- `CNTR SETUP` (R173). -/
def State.reqSetup (s : State) (t : Tag) (fs : List Field) : State :=
  match readSetup fs with
  | none => s.answer t .cntr "SYNTAX" []
  | some f =>
    match counterOf f.index with
    | none => s.answer t .cntr "RANGE" []
    | some i =>
      if f.inRange then
        if s.plan.records.isEmpty then
          (s.setUpCounter i f).answer t .cntr "OK"
            ([.num i.val, .wnum "REACHED" (yes (s.cnt.recs[i].setUp f).reached)] ++
              wordIf (decide (f.threshold ≠ f.asked)) "CLAMPED")
        else s.answer t .cntr "BUSY" []
      else s.answer t .cntr "RANGE" []

/-- The frozen flag set or cleared (R170). -/
def State.setFrozen (s : State) (b : Bool) : State := { s with cnt := { s.cnt with frozen := b } }

/-- `CNTR READ` and `CNTR CLEAR` of an index (R171, R172). -/
def State.reqCounter (s : State) (t : Tag) (clear : Bool) (n : Int) : State :=
  match counterOf n with
  | none => s.answer t .cntr "RANGE" []
  | some i =>
    if clear then (s.clearCounter i).answer t .cntr "OK" [.num i.val]
    else s.answer t .cntr "OK" (s.counterFields i)

/-- `CNTR` (R170 to R173). -/
def State.reqCntr (s : State) (t : Tag) (fs : List Field) : State :=
  match fs with
  | [.word "READ", .num n] => s.reqCounter t false n
  | [.word "CLEAR", .num n] => s.reqCounter t true n
  | .word "SETUP" :: rest => s.reqSetup t rest
  | [.word "FREEZE"] => (s.setFrozen true).answer t .cntr "OK" []
  | [.word "THAW"] => (s.setFrozen false).answer t .cntr "OK" []
  | _ => s.answer t .cntr "SYNTAX" []

/-! ### Notices (R192) -/

/-- The oldest notice removed and the lost count read (R191, R192). -/
def NoticeQueue.take (q : NoticeQueue) : NoticeQueue :=
  { entries := q.entries.drop 1, lost := 0, attn := !(q.entries.drop 1).isEmpty }

/-- The fields of a `NOTE` reply (R192). -/
def NoticeQueue.report (q : NoticeQueue) : List Field :=
  (match q.entries with
    | n :: _ => noticeFields n
    | [] => [.word "NONE"]) ++
    [.wnum "LOST" q.lost, .wnum "LEFT" (q.entries.drop 1).length]

/-- `NOTE` (R192). -/
def State.reqNote (s : State) (t : Tag) (fs : List Field) : State :=
  match fs with
  | [] => { s with notes := s.notes.take }.answer t .note "OK" s.notes.report
  | _ :: _ => s.answer t .note "SYNTAX" []

/-! ### Settings (R193 to R197) -/

/-- `GETV` (R193). -/
def State.reqGetv (s : State) (t : Tag) (fs : List Field) : State :=
  match fs with
  | [.word w] =>
    match reading SettingName.all SettingName.word w with
    | some n => s.answer t .getv "OK" (.word w :: s.settings.contents n)
    | none => s.answer t .getv "SYNTAX" []
  | _ => s.answer t .getv "SYNTAX" []

/-- The working settings after a `SETV`, or the word of its refusal (R194, steps 1 and 2). -/
def Settings.change (w : Settings) (n : SettingName) (fs : List Field) : String ⊕ Settings :=
  match n, fs with
  | .plain p, [.num v] =>
    if inRange p.range v then .inr { w with plain := w.plain.put v p } else .inl "RANGE"
  | .cal c hi, [.num code, .num v, .num m] =>
    let k := w.cal[c].setEnd hi code v (decide (m = 1))
    if inRange (0, 4096) code && inRange (chanRange c) v && inRange (0, 1) m && decide (k.cLo < k.cHi) then
      .inr { w with cal := modAt w.cal c fun _ => k }
    else .inl "RANGE"
  | .stn i, fs =>
    match readEntry fs with
    | none => .inl "SYNTAX"
    | some (a, none) => if a = 0 then .inr { w with stn := modAt w.stn i fun _ => none } else .inl "SYNTAX"
    | some (a, some r) =>
      if inRange (1, 15) a && !addrTaken w.stn i a then
        .inr { w with stn := modAt w.stn i fun _ => some ⟨a.toNat, r⟩ }
      else .inl "RANGE"
  | _, _ => .inl "SYNTAX"

/-- The working settings replaced; a station whose entry has changed is marked (R127, R194). DEDUCED, log entry 16. -/
def State.setSettings (s : State) (n : SettingName) (w : Settings) : State :=
  let s1 := { s with settings := w }
  match n with
  | .stn i =>
    if s.settings.stn[i] = w.stn[i] then s1
    else { s1 with bus := { s1.bus with stations := modAt s1.bus.stations i fun x => { x with changed := true } } }
  | .plain _ | .cal _ _ => s1

/-- `SETV` (R194, R195). -/
def State.reqSetv (s : State) (t : Tag) (fs : List Field) : State :=
  match fs with
  | .word name :: rest =>
    match reading SettingName.all SettingName.word name with
    | none => s.answer t .setv "SYNTAX" []
    | some n =>
      match s.settings.change n rest with
      | .inl w => s.answer t .setv w []
      | .inr w =>
        if s.plan.records.isEmpty && s.store.save.isNone then
          (s.setSettings n w).conclude.answer t .setv "OK" (.word name :: w.contents n)
        else s.answer t .setv "BUSY" []
  | _ => s.answer t .setv "SYNTAX" []

/-- `SAVE` (R197). -/
def State.reqSave (s : State) (t : Tag) (fs : List Field) : State :=
  match fs with
  | [] => if s.store.save.isSome then s.answer t .save "BUSY" [] else s.startSave.answer t .save "OK" []
  | _ :: _ => s.answer t .save "SYNTAX" []

/-! ### Supervision (R185 to R187) -/

/-- Supervision is ARMED with its interval to run (R185, R186). -/
def Supervision.arm (v : Supervision) (interval live now : Nat) : Supervision :=
  { v with state := .armed, interval := some interval, live := live, deadline := some (now + interval) }

/-- Supervision replaced. -/
def State.setSup (s : State) (v : Supervision) : State := { s with link := { s.link with sup := v } }

/-- `LINK` (R185). DEDUCED, log entry 15. -/
def State.reqLink (s : State) (t : Tag) (fs : List Field) : State :=
  match fs with
  | [.num n] =>
    if s.link.sup.taken then s.answer t .link "LOCKED" []
    else if inRange (100, 5000) n then
      (s.setSup { s.link.sup.arm n.toNat 0 s.now with taken := true }).answer t .link "OK" [.num n]
    else s.answer t .link "RANGE" []
  | _ => s.answer t .link "SYNTAX" []

/-- Supervision expires (R24, R187). The notice stands before the `ENDED` notices and carries how many records the
expiry ends. DEDUCED, log entry 22. -/
def State.expire (s : State) (byCount : Bool) : State :=
  let l := s.link
  let s1 :=
    { s with
      link :=
        { l with
          sup := { l.sup with state := .expired, deadline := none }
          counts := { l.counts with expiry := count16 l.counts.expiry } } }
  let ended := s1.plan.records.length - s1.linkLostEnds.plan.records.length
  (s1.notify (.linkLost byCount l.sup.live ended)).linkLostEnds

/-- `LIVE` with a count in its range (R186). -/
def State.takeLive (s : State) (t : Tag) (n : Nat) : State :=
  let v := s.link.sup
  let interval := v.interval.getD 0
  match v.state with
  | .off => s.answer t .live "NOTARMED" []
  | .armed =>
    if n = (v.live + 1) % 100 then (s.setSup (v.arm interval n s.now)).answer t .live "OK" [.num n]
    else (s.expire true).conclude.answer t .live "EXPIRED" [.num ((v.live + 1) % 100 : Nat)]
  | .expired =>
    if n = 0 then (s.setSup (v.arm interval 0 s.now)).answer t .live "OK" [.num 0]
    else s.answer t .live "EXPIRED" []

/-- `LIVE` (R186). -/
def State.reqLive (s : State) (t : Tag) (fs : List Field) : State :=
  match fs with
  | [.num n] => if inRange (0, 99) n then s.takeLive t n.toNat else s.answer t .live "RANGE" []
  | _ => s.answer t .live "SYNTAX" []

/-! ### `STAT` (R188) -/

/-- `STAT`. -/
def State.reqStat (s : State) (t : Tag) (fs : List Field) : State :=
  match fs with
  | [.word w] =>
    match s.statGroup w with
    | some xs => s.answer t .stat "OK" (.word w :: xs)
    | none => s.answer t .stat "SYNTAX" []
  | _ => s.answer t .stat "SYNTAX" []

/-! ### Taking a request (R182) -/

/-- The request is taken by its rule, in one event. -/
def State.serve (s : State) (r : Request) : State :=
  match r.name with
  | .move => s.reqMove r.tag r.fields
  | .seqn => s.reqSeqn r.tag r.fields
  | .canc => s.reqCanc r.tag r.fields
  | .halt => s.reqHalt r.tag r.fields
  | .resm => s.reqResm r.tag r.fields
  | .qrec => s.reqQrec r.tag r.fields
  | .plan => s.reqPlan r.tag r.fields
  | .calp => s.reqCalp r.tag r.fields
  | .beac => s.reqBeac r.tag r.fields
  | .cntr => s.reqCntr r.tag r.fields
  | .note => s.reqNote r.tag r.fields
  | .getv => s.reqGetv r.tag r.fields
  | .setv => s.reqSetv r.tag r.fields
  | .save => s.reqSave r.tag r.fields
  | .link => s.reqLink r.tag r.fields
  | .live => s.reqLive r.tag r.fields
  | .stat => s.reqStat r.tag r.fields

/-- A count of R184 raised while a record is judged. -/
def State.raiseTag (s : State) : State :=
  { s with link := { s.link with counts := { s.link.counts with tag := count16 s.link.counts.tag } } }

/-- A `CSUM` reply and its count (R178, R184). -/
def State.badCheck (s : State) (t : Tag) : State :=
  let l := s.link
  let l1 := { l with counts := { l.counts with checksum := count16 l.counts.checksum } }
  { s with link := l1.place (replyText t (chars "XXXX") "CSUM" []) }

/-- A complete record is judged and taken (R178, R182). -/
def State.process (s : State) (text : List Ch) : State :=
  match judgeText text with
  | .silent => s.raiseTag
  | .csum t => s.badCheck t
  | .badName t => { s with link := s.link.place (replyText t (chars "XXXX") "SYNTAX" []) }
  | .unknown t name => { s with link := s.link.place (replyText t name "UNKNOWN" []) }
  | .request r => s.serve r

/-! ### The wait and the drain (R182) -/

/-- Whether processing waits (R182). -/
def State.waits (s : State) : Bool :=
  s.startup.reading || s.link.calp.isSome || !s.link.feed.isEmpty || decide (s.link.room < Config.txRoom)

/-- While processing does not wait, the assembler takes characters and complete records are taken (R176, R182). Each
turn takes a character or a record. -/
def State.drainFor : Nat → State → State
  | 0, s => s
  | fuel + 1, s =>
    if s.waits then s
    else
      match s.link.complete with
      | some text => State.drainFor fuel ({ s with link := { s.link with complete := none } }.process text)
      | none =>
        match s.link.fifo with
        | [] => s
        | x :: rest => State.drainFor fuel { s with link := { s.link with fifo := rest }.assemble x }

/-- What waits on the link is taken as far as it may be. DEDUCED, log entry 32. -/
def State.drain (s : State) : State := s.drainFor (2 * s.link.fifo.length + 2)

/-- Characters arrive while processing waits (R175, R182). -/
def State.receiveAll (s : State) (cs : List Ch) : State :=
  { s with link := cs.foldl (fun l c => l.receive c false) s.link }

/-- A record that was in assembly is discarded by the `@` that begins another (R176). -/
def Link.supplant (l : Link) : Link :=
  match l.asm with
  | .hunting => l
  | .assembling _ _ => l.damage .hunting

/-- A whole request arrives (R176 to R178, R182). While processing waits its characters join the FIFO; a record of
more than 96 characters is damaged; otherwise it is complete, passes its steps and is taken.
DESIGN CHOICE, log entry 14. -/
def State.deliver (s : State) (r : Request) : State :=
  let text := recordText r
  if s.waits then s.receiveAll (text ++ [0x0D#8])
  else
    let l := s.link.supplant
    if Config.recordCap < text.length then { s with link := l.damage .hunting }
    else { s with link := l }.serve r

/-- A whole record arrives that is yet to be judged (R178). -/
def State.deliverText (s : State) (text : List Ch) : State :=
  if s.waits then s.receiveAll (text ++ [0x0D#8])
  else
    let l := s.link.supplant
    if Config.recordCap < text.length then { s with link := l.damage .hunting }
    else { s with link := l }.process text

end Sys2Proof.Machine
end

