-- ==== Sys2Proof/Machine/Startup.lean ====
section
/-!
DEFINITION. Start-up (R199, R200): the two resets and the end of the image read.
-/

namespace Sys2Proof.Machine

/-- What a command answers. Every command of the table has a next state. -/
abbrev Answer := Host.Outcome State Fault Refusal

/-- A debounced input at a reset: its pin keeps its level, sampled from the reset (R31, R199). -/
def Debounced.restart (d : Debounced) : Debounced := { Debounced.reset with raw := d.raw }

/-- The switches of a side at a reset. -/
def DoorSwitches.restart (d : DoorSwitches) : DoorSwitches :=
  ⟨d.closed.restart, d.latched.restart, d.opened.restart⟩

/-- The inputs at a reset. -/
def Inputs.restart (v : Inputs) : Inputs :=
  { park := v.park.restart, ign := v.ign.restart, engine := v.engine.restart, master := v.master.restart,
    oilhot := v.oilhot.restart, near := v.near.restart, off := v.off.restart, estopRaw := v.estopRaw,
    estopCounted := false, estopQuiet := none, pumpFb := v.pumpFb }

/-- A beacon channel at a reset: the read-back of its driver keeps its level, and the mismatch time is 0 (R154 to R156). -/
def LampCh.restart (c : LampCh) : LampCh := { LampCh.reset with readBack := c.readBack }

/-- Step 1 of start-up (R199): every block takes its reset values. What is outside the part stays: the levels at its
pins, the stored image and the commands that wait. DEDUCED, log entry 6. -/
def State.restart (s : State) (kind : ResetKind) (strap : Bool) : State :=
  { State.reset with
    fresh := s.fresh, pending := s.pending, inputs := s.inputs.restart
    beac := { State.reset.beac with lamps := mapAt s.beac.lamps fun _ c => c.restart }
    link := { State.reset.link with strap := strap }
    store := { image := s.store.image, save := none, due := false }
    startup := { reading := true, kind := kind, defaults := false } }

/-- The image loaded, or the defaults with their notice (R199). -/
def State.loadImage (s : State) : State :=
  if s.store.image.good then
    { s with
      settings := s.store.image.settings, cnt := { s.cnt with recs := s.store.image.counters }
      startup := { s.startup with defaults := false } }
  else
    { s with
      settings := .default, cnt := { s.cnt with recs := Counters.defaultRecs }
      startup := { s.startup with defaults := true } }.notify (.defaults s.startup.kind)

/-- Scanning and polling begin, and processing may proceed (R110, R129, R199). -/
def State.beginWork (s : State) : State :=
  { s with
    conv := { s.conv with scanning := true, nextAt := s.now + Config.scanMs }
    bus :=
      { s.bus with
        polling := true, nextAt := s.now, stations := Vector.ofFn fun i => Station.new s.settings.stn[i] }
    startup := { s.startup with reading := false } }

/-- The end of the image read (R199, R200). DEDUCED, log entry 29. What has waited on the link through the read is taken
here, before the first poll cycle begins: DESIGN CHOICE, log entry 51. -/
def State.finishRead (s : State) : State :=
  let s1 := s.loadImage.decideDerating.beginWork
  let s2 := if s1.inputs.estopRaw then s1.estopOn else s1
  s2.conclude.drain

/-- `POWER_ON_RESET` (R199). -/
def execPowerOnReset (strap : Bool) (s : State) : Answer := .next (s.restart .powerOn strap)

/-- `RESET_PIN` (R199). -/
def execResetPin (strap : Bool) (s : State) : Answer := .next (s.restart .pin strap)

/-- `IMAGE_READ_END` (R199, R200). -/
def execImageReadEnd (s : State) : Answer :=
  .next (if s.startup.reading then (s.passTo Config.imageReadMs).finishRead else s)

end Sys2Proof.Machine
end

