-- ==== Sys2Proof/Machine/BeaconEvents.lean ====
section
/-!
DEFINITION. The commands of the beacon controller (R147, R150, R151, R155, R156).
-/

namespace Sys2Proof.Machine

/-- The pattern clock stands at the slot of this moment: the whole tenths of a second since reset, mod 20 (R147). -/
def State.nextSlot (s : State) : State :=
  { s with
    beac :=
      { s.beac with slot := s.now / Config.slotMs % 20, nextAt := nextDue s.beac.nextAt Config.slotMs s.now } }

/-- `PATTERN_SLOT` (R147, R148). -/
def execPatternSlot (s : State) : Answer := .next (s.passTo s.beac.nextAt).nextSlot.resolveAll

/-- The fault that a diagnostic shows (R155). -/
def diagFault : Diag → Option LampFault
  | .normal => none
  | .openLoad => some .openLoad
  | .short => some .short

/-- A due check reads the diagnostic (R155). -/
def State.check (s : State) (l : Lamp) (d : Diag) : State :=
  let s1 := s.updLamp l fun c => { c with checkAt := none }
  match diagFault d with
  | some f => s1.latchFault l f
  | none => s1

/-- `LAMP_CHECK` (R155). -/
def execLampCheck (lamp : Lamp) (d : Diag) (s : State) : Answer :=
  .next
    (match s.beac.lamps[lampIdx lamp].checkAt with
    | some t => ((s.passTo t).check lamp d).conclude
    | none => s)

/-- `READBACK_MISMATCH` (R156): the mismatch of a channel reaches 20 ms. With no mismatch there is nothing to act on. -/
def execReadbackMismatch (lamp : Lamp) (s : State) : Answer :=
  .next
    (let c := s.beac.lamps[lampIdx lamp]
    if c.readBack = c.level then s
    else ((s.passTo (c.compareFrom + Config.mismatchMs)).latchFault lamp .stuck).conclude)

/-- `REAR_TRAIL_EXPIRY` (R150). -/
def execRearTrailExpiry (s : State) : Answer :=
  .next
    (match s.beac.rearTrail with
    | some t =>
      let s1 := s.passTo t
      { s1 with beac := { s1.beac with rearTrail := none } }.conclude
    | none => s)

/-- When the trail of a side expires. -/
def Beacons.sideTrail (b : Beacons) : Side → Option Nat
  | .near => b.nearTrail
  | .off => b.offTrail

/-- The trail of a side is over (R151). -/
def Beacons.dropTrail (b : Beacons) : Side → Beacons
  | .near => { b with nearTrail := none }
  | .off => { b with offTrail := none }

/-- `SIDE_TRAIL_EXPIRY` (R151). -/
def execSideTrailExpiry (side : Side) (s : State) : Answer :=
  .next
    (match s.beac.sideTrail side with
    | some t =>
      let s1 := s.passTo t
      { s1 with beac := s1.beac.dropTrail side }.conclude
    | none => s)

end Sys2Proof.Machine
end

