-- ==== Sys2Proof/Machine/BusEvents.lean ====
section
/-!
DEFINITION. The commands of the station bus (R127, R129, R132, R133, R144).
-/

namespace Sys2Proof.Machine

/-- A poll cycle begins (R127, R129). -/
def State.startCycle (s : State) : State :=
  let s1 :=
    { s with
      bus := { s.bus with nextAt := nextDue s.bus.nextAt Config.pollMs s.now, cycleAborts := 0 } }
  s1.applyEntries.advance 0

/-- `POLL_CYCLE_START` (R127, R129). -/
def execPollCycleStart (s : State) : Answer :=
  .next (if s.bus.polling && s.bus.current.isNone then (s.passTo s.bus.nextAt).startCycle else s)

/-- `POLL_ABORT` (R132). -/
def execPollAbort (s : State) : Answer :=
  .next
    (s.endPoll fun s i e =>
      { s with bus := { s.bus with cycleAborts := s.bus.cycleAborts + 1 } }.judgeMiss i e .conflict)

/-- `REPLY_RECEIVED` (R133). -/
def execReplyReceived (c1 c2 c3 c4 : Ch) (framing : Bool) (s : State) : Answer :=
  .next
    (s.endPoll fun s i e =>
      match judgeReply e.addr c1 c2 c3 c4 framing with
      | some m => s.judgeMiss i e m
      | none => s.judgeGood i e c2 c3)

/-- `REPLY_WINDOW_CLOSE` (R133): `started` says that a first character began. -/
def execReplyWindowClose (started : Bool) (s : State) : Answer :=
  .next (s.endPoll fun s i e => s.judgeMiss i e (if started then .incomplete else .silent))

/-- A RESET request (R30, R144). -/
def State.resetRequest (s : State) : State := if s.halt.set && !s.halt.present then s.clearHalt else s

/-- `RESET_TIMER_EXPIRY` (R30, R144). -/
def execResetTimerExpiry (i : Fin 6) (s : State) : Answer :=
  .next
    (match s.bus.stations[i].resetAt with
    | some t =>
      let s1 := s.passTo t
      (s1.setStation i { s1.bus.stations[i] with resetAt := none }).resetRequest.conclude
    | none => s)

end Sys2Proof.Machine
end

