-- ==== Sys2Proof/Machine/DoorEvents.lean ====
section
/-!
DEFINITION. The commands of the door channels (R98 to R105).
-/

namespace Sys2Proof.Machine

/-- The record that drives a door fails at a time, with the door derived from the switches at that moment (R99 to R101,
R104). -/
def State.failDoor (s : State) (side : Side) (at_ : Nat) (why : EndReason) : State :=
  ((s.passTo at_).settleDoor side .failed (some why)).conclude

/-- `UNLATCH_WINDOW_EXPIRY` (R98). An opening of LATCHED in the same instant is counted after it, undriven. -/
def execUnlatchWindowExpiry (side : Side) (s : State) : Answer :=
  .next
    (if (s.door side).phase = some .unlatch then
      ((s.passTo ((s.door side).phaseAt + Config.unlatchMs)).endDoor side .failed (some .latch)).conclude
    else s)

/-- `DOORTIME_EXPIRY` (R99, R100). -/
def execDoortimeExpiry (side : Side) (s : State) : Answer :=
  .next
    (if (s.door side).watched then
      s.failDoor side ((s.door side).phaseAt + s.settings.plain.doorTime.toNat) .timeout
    else s)

/-- `PULLIN_WINDOW_EXPIRY` (R101). -/
def execPullinWindowExpiry (side : Side) (s : State) : Answer :=
  .next
    (if (s.door side).phase = some .pullin then
      s.failDoor side ((s.door side).phaseAt + Config.pullinMs) .latch
    else s)

/-- `OBSTRUCTION` (R103 to R105). -/
def execObstruction (side : Side) (s : State) : Answer :=
  .next
    (match (s.door side).obsSince with
    | some t =>
      if (s.door side).watched then ((s.passTo (t + Config.obstructMs)).obstruct side true).conclude else s
    | none => s)

/-- `REVERSE_END` (R104). That a switch due in the same instant is counted first is DEDUCED, log entry 34. -/
def execReverseEnd (side : Side) (s : State) : Answer :=
  .next
    (if (s.door side).phase = some .reverse then
      s.failDoor side ((s.door side).phaseAt + Config.reverseMs) .obstruct
    else s)

end Sys2Proof.Machine
end

