-- ==== Sys2Proof/Machine/InputEvents.lean ====
section
/-!
DEFINITION. The commands of the inputs, of the scan and of the stored settings (R31 to R34, R64, R110, R125, R166,
R196).
-/

namespace Sys2Proof.Machine

/-- `INPUT_COUNTED_CHANGE` (R31, R33): the inputs of a list that have a new level to count are counted in one event.
DESIGN CHOICE, log entry 23. -/
def execInputCountedChange (ins : List DInput) (s : State) : Answer :=
  .next
    (let due := s.inputs.due ins
    if due = [] then s else ((s.passTo (s.inputs.dueAt due)).countInputs due).conclude)

/-- `ESTOP_ACTIVE` (R32, R200). -/
def execEstopActive (s : State) : Answer := .next s.estopOn.conclude

/-- `ESTOP_RELEASE_COUNTED` (R32). -/
def execEstopReleaseCounted (s : State) : Answer :=
  .next
    (match s.inputs.estopQuiet with
    | some t => ((s.passTo (t + Config.estopReleaseMs)).estopReleased).conclude
    | none => s)

/-- `SPEED_COMPUTATION` (R34). -/
def execSpeedComputation (s : State) : Answer := .next (s.passTo s.eval.nextAt).computeSpeed.conclude

/-- `ROAD_SPEED_EDGE` (R34). -/
def execRoadSpeedEdge (s : State) : Answer := .next s.edge

/-- `INPUT_RAW_CHANGE` (R31, R32, R56 to R59, R156). -/
def execInputRawChange (input : RawInput) (level : Bool) (s : State) : Answer :=
  .next (s.sampleRaw input level).conclude

/-- A scan result taken at its time: the converter and its readers, a `CALP` that waits for it, and the close of
the event (R110, R125). -/
def State.takeScan (s : State) (codes : Scan) : State :=
  (((s.passTo s.conv.nextAt).scan codes).completeCalp).conclude.drain

/-- `SCAN_RESULT` (R110). -/
def execScanResult (codes : Scan) (s : State) : Answer :=
  .next (if s.conv.scanning then s.takeScan codes else s)

/-- `CALP_COMPLETION` (R125): the scan result that a `CALP` waits for. DEDUCED, log entry 25. -/
def execCalpCompletion (codes : Scan) (s : State) : Answer :=
  .next (if s.conv.scanning && s.link.calp.isSome then s.takeScan codes else s)

/-- `SUPPLY_STATE_CHANGE` (R64, R65). -/
def execSupplyStateChange (s : State) : Answer :=
  .next
    (match firstExit s.supply.exits with
    | some (t, new) => ((s.passTo t).enterSupply new).conclude
    | none => s)

/-- `DURATION_COUNT` (R166): active time passes until the counter's residue comes to 100. Where another passing of time
has already made the count that the row reports, the row is the report of the next one and up to 100 ms more pass:
DESIGN CHOICE, log entry 38. -/
def execDurationCount (i : Fin 8) (s : State) : Answer :=
  .next
    (if !s.cnt.frozen && s.accrues s.cnt.recs[i] then s.passTime (100 - s.cnt.recs[i].residue) else s)

/-- `SAVE_END` (R196, R198). -/
def execSaveEnd (s : State) : Answer :=
  .next
    (match s.store.save with
    | some x => (s.passTo x.endsAt).endSave x
    | none => s)

end Sys2Proof.Machine
end

