-- ==== Sys2Proof/Machine/LinkEvents.lean ====
section
/-!
DEFINITION. The commands of the host link's lines and timer (R174 to R176, R178, R180 to R183, R187).
-/

namespace Sys2Proof.Machine

/-- The halt character (R180). -/
def State.haltChar (s : State) : State :=
  let s1 := s.raiseHalt .linkChar
  let l := s1.link.clear
  { s1 with link := { l with counts := { l.counts with halt := count16 l.counts.halt } } }.conclude

/-- `CHARACTER_RECEIVED` (R174 to R177). An unmarked `!` is the halt character (R180). -/
def execCharacterReceived (c : Ch) (framing : Bool) (s : State) : Answer :=
  .next
    (if c = 0x21#8 ∧ framing = false then s.haltChar
    else { s with link := s.link.receive c framing }.drain)

/-- `HALT_CHARACTER` (R180). -/
def execHaltCharacter (s : State) : Answer := .next s.haltChar

/-- `BREAK` (R181). -/
def execLineBreak (s : State) : Answer :=
  .next { s with link := { s.link.clear with counts := { s.link.counts with brk := count16 s.link.counts.brk } } }

/-- `REJECTED_RECORD` (R178): a complete record, from its `@`. -/
def execRejectedRecord (text : List Ch) (s : State) : Answer := .next (s.deliverText text)

/-- `TRANSMIT_CHARACTER_SENT` (R182, R183). -/
def execTransmitCharacterSent (s : State) : Answer :=
  .next (if s.link.tx.isEmpty then s else { s with link := s.link.sent }.drain)

/-- `SUPERVISION_TIMER_EXPIRY` (R187). -/
def execSupervisionTimerExpiry (s : State) : Answer :=
  .next
    (match s.link.sup.state, s.link.sup.deadline with
    | .armed, some t => ((s.passTo t).expire false).conclude
    | _, _ => s)

end Sys2Proof.Machine
end

