-- ==== Sys2Proof/Machine/MotionEvents.lean ====
section
/-!
DEFINITION. The commands of the records' timers and of the axis controller (R10, R12, R46, R80, R84 to R86, R89). A
command is the passing of its timer: it acts only while that timer runs, and time has then come to the timer's end. A
report that finds no record in the state it names is ignored (R14).
-/

namespace Sys2Proof.Machine

/-- A record ends at a time, with its successors, and the event closes. -/
def State.endAt (s : State) (at_ : Nat) (h : Handle) (o : RecOutcome) (why : Option EndReason) : State :=
  ((s.passTo at_).endTree h o why).conclude

/-- `WAIT_LIMIT_EXPIRY` (R12). The wait exceeds `WAITMAX` from the first millisecond past it. DEDUCED, log entry 3. -/
def execWaitLimitExpiry (h : Handle) (s : State) : Answer :=
  .next
    (match s.find h with
    | some r =>
      match r.waitFrom with
      | some t =>
        if r.state.queued then
          s.endAt (t + s.settings.plain.waitMax.toNat * 1000 + 1) h .cancelled (some .stale)
        else s
      | none => s
    | none => s)

/-- `LEAD_TIME_EXPIRY` (R10). -/
def execLeadTimeExpiry (h : Handle) (s : State) : Answer :=
  .next
    (match s.find h with
    | some r =>
      match r.state, r.leadEnd with
      | .lead, some t => ((s.passTo t).proceed r).conclude
      | _, _ => s
    | none => s)

/-- `HOLD_TIMER_EXPIRY` (R46). -/
def execHoldTimerExpiry (h : Handle) (s : State) : Answer :=
  .next
    (match s.find h with
    | some r =>
      match r.state, r.holdFrom with
      | .holding, some t => s.endAt (t + s.settings.plain.holdMax.toNat) h .failed (some .holdExp)
      | _, _ => s
    | none => s)

/-- `SETTLE_TIMER_EXPIRY` (R80 to R82). -/
def execSettleTimerExpiry (s : State) : Answer :=
  .next
    (match s.packRecord, s.axis.run with
    | some r, some run =>
      match r.state, run.settleEnd with
      | .settling, some t => ((s.passTo t).settled r run).conclude
      | _, _ => s
    | _, _ => s)

/-- `STALL` (R84). -/
def execStall (s : State) : Answer :=
  .next
    (match s.packRecord, s.axis.run with
    | some r, some run =>
      if r.state = .running then s.endAt (run.markAt + Config.stallMs) r.handle .failed (some .stall) else s
    | _, _ => s)

/-- When the run time of a run exceeds its limit (R85). DEDUCED, log entry 3. -/
def Run.limitAt (run : Run) (limit : Nat) : Nat := run.runFrom + (limit - run.runAcc) + 1

/-- `RUN_LIMIT_TIMEOUT` (R85). -/
def execRunLimitTimeout (s : State) : Answer :=
  .next
    (match s.packRecord, s.axis.run with
    | some r, some run =>
      if r.state = .running then
        s.endAt (run.limitAt (s.settings.plain.runLimit run.lift)) r.handle .failed (some .timeout)
      else s
    | _, _ => s)

/-- The ground judgement (R86). -/
def State.grounded (s : State) (r : Record) (run : Run) : State :=
  if run.target = 0 ∧ s.reported 0 ≤ s.settings.plain.gndBand then
    (s.upd r.handle fun r => { r with flags := { r.flags with ground := true } }).endTree r.handle .done none
  else s.endTree r.handle .failed (some .obstruct)

/-- `GROUND_TIME_EXPIRY` (R86). -/
def execGroundTimeExpiry (s : State) : Answer :=
  .next
    (match s.packRecord, s.axis.run with
    | some r, some run =>
      match r.state, run.groundSince with
      | .running, some t => ((s.passTo (t + Config.groundMs)).grounded r run).conclude
      | _, _ => s
    | _, _ => s)

/-- `OVERLOAD` (R89). -/
def execOverload (s : State) : Answer :=
  .next
    (match s.packRecord, s.axis.run with
    | some r, some run =>
      match r.state, run.overSince with
      | .running, some t => s.endAt (t + Config.overloadMs) r.handle .failed (some .overload)
      | _, _ => s
    | _, _ => s)

end Sys2Proof.Machine
end

