-- ==== Sys2Proof/Machine/PumpEvents.lean ====
section
/-!
DEFINITION. The commands of the pump contactor, of pump rest and of the pump current (R57 to R61).
-/

namespace Sys2Proof.Machine

/-- The holder of the pack fails at a time (R57, R58, R61). -/
def State.failPack (s : State) (at_ : Nat) (why : EndReason) : State :=
  match s.arb.pack with
  | some x => ((s.passTo at_).endTree x.handle .failed (some why)).conclude
  | none => s

/-- `CONTACTOR_MADE` (R57). -/
def execContactorMade (s : State) : Answer :=
  .next (if s.arb.contactor = .making then s.contactorMade else s)

/-- `CONTACTOR_MAKE_TIMEOUT` (R57). -/
def execContactorMakeTimeout (s : State) : Answer :=
  .next
    (if s.arb.contactor = .making then s.failPack (s.arb.contactorAt + Config.contactorMs) .contactor else s)

/-- `CONTACTOR_DROPOUT` (R58). -/
def execContactorDropout (s : State) : Answer :=
  .next
    (match s.arb.contactor, s.arb.fbOpenSince with
    | .made, some t => s.failPack (t + Config.contactorMs) .contactor
    | _, _ => s)

/-- `WELDED_CONTACTOR` (R59, R200): the first closed sample of a closure, once the first 150 ms of the contactor's
being OPEN have passed. -/
def execWeldedContactor (s : State) : Answer :=
  .next
    (if s.arb.contactor = .opened ∧ s.arb.weldArmed = true ∧ s.startup.reading = false then
      ((s.passTo (s.arb.contactorAt + Config.contactorMs)).welded).conclude
    else s)

/-- `PUMP_REST_PASSED` (R60). -/
def execPumpRestPassed (s : State) : Answer :=
  .next
    (match s.arb.restUntil with
    | some t =>
      let s1 := s.passTo t
      { s1 with arb := { s1.arb with restUntil := none } }.conclude
    | none => s)

/-- `PUMP_OVERCURRENT` (R61). -/
def execPumpOvercurrent (s : State) : Answer :=
  .next
    (match s.arb.overSince with
    | some t => if s.arb.contactor = .opened then s else s.failPack (t + Config.overcurrentMs) .pumpOc
    | none => s)

end Sys2Proof.Machine
end

