-- ==== Sys2Proof/Machine/RequestRows.lean ====
section
/-!
DEFINITION. The commands that are requests on the host link: each is the arrival of its record (R182).
-/

namespace Sys2Proof.Machine

/-- `MOVE` (R19). -/
def execMove (t : Tag) (fs : List Field) (s : State) : Answer := .next (s.deliver ⟨t, .move, fs⟩)

/-- `SEQN` (R20). -/
def execSeqn (t : Tag) (fs : List Field) (s : State) : Answer := .next (s.deliver ⟨t, .seqn, fs⟩)

/-- `CANC` (R21). -/
def execCanc (t : Tag) (fs : List Field) (s : State) : Answer := .next (s.deliver ⟨t, .canc, fs⟩)

/-- `CANC_ALL` (R21). -/
def execCancAll (t : Tag) (fs : List Field) (s : State) : Answer :=
  .next (s.deliver ⟨t, .canc, .word "ALL" :: fs⟩)

/-- `HALT` (R29). -/
def execHalt (t : Tag) (fs : List Field) (s : State) : Answer := .next (s.deliver ⟨t, .halt, fs⟩)

/-- `RESM` (R30). -/
def execResm (t : Tag) (fs : List Field) (s : State) : Answer := .next (s.deliver ⟨t, .resm, fs⟩)

/-- `QREC` (R22). -/
def execQrec (t : Tag) (fs : List Field) (s : State) : Answer := .next (s.deliver ⟨t, .qrec, fs⟩)

/-- `PLAN` (R23). -/
def execPlan (t : Tag) (fs : List Field) (s : State) : Answer := .next (s.deliver ⟨t, .plan, fs⟩)

/-- `CALP` (R124). -/
def execCalp (t : Tag) (fs : List Field) (s : State) : Answer := .next (s.deliver ⟨t, .calp, fs⟩)

/-- `BEAC` (R159). -/
def execBeac (t : Tag) (fs : List Field) (s : State) : Answer := .next (s.deliver ⟨t, .beac, fs⟩)

/-- `BEAC_CLEAR` (R160). -/
def execBeacClear (t : Tag) (lamp : Field) (fs : List Field) (s : State) : Answer :=
  .next (s.deliver ⟨t, .beac, lamp :: .word "CLEAR" :: fs⟩)

/-- `CNTR_READ` (R171). -/
def execCntrRead (t : Tag) (fs : List Field) (s : State) : Answer :=
  .next (s.deliver ⟨t, .cntr, .word "READ" :: fs⟩)

/-- `CNTR_CLEAR` (R172). -/
def execCntrClear (t : Tag) (fs : List Field) (s : State) : Answer :=
  .next (s.deliver ⟨t, .cntr, .word "CLEAR" :: fs⟩)

/-- `CNTR_SETUP` (R173). -/
def execCntrSetup (t : Tag) (fs : List Field) (s : State) : Answer :=
  .next (s.deliver ⟨t, .cntr, .word "SETUP" :: fs⟩)

/-- `CNTR_FREEZE` (R170). -/
def execCntrFreeze (t : Tag) (fs : List Field) (s : State) : Answer :=
  .next (s.deliver ⟨t, .cntr, .word "FREEZE" :: fs⟩)

/-- `CNTR_THAW` (R170). -/
def execCntrThaw (t : Tag) (fs : List Field) (s : State) : Answer :=
  .next (s.deliver ⟨t, .cntr, .word "THAW" :: fs⟩)

/-- `NOTE` (R192). -/
def execNote (t : Tag) (fs : List Field) (s : State) : Answer := .next (s.deliver ⟨t, .note, fs⟩)

/-- `GETV` (R193). -/
def execGetv (t : Tag) (fs : List Field) (s : State) : Answer := .next (s.deliver ⟨t, .getv, fs⟩)

/-- `SETV` (R194). -/
def execSetv (t : Tag) (fs : List Field) (s : State) : Answer := .next (s.deliver ⟨t, .setv, fs⟩)

/-- `SAVE` (R197). -/
def execSave (t : Tag) (fs : List Field) (s : State) : Answer := .next (s.deliver ⟨t, .save, fs⟩)

/-- `LINK` (R185). -/
def execLink (t : Tag) (fs : List Field) (s : State) : Answer := .next (s.deliver ⟨t, .link, fs⟩)

/-- `LIVE` (R186). -/
def execLive (t : Tag) (fs : List Field) (s : State) : Answer := .next (s.deliver ⟨t, .live, fs⟩)

/-- `STAT_AXES` (R92). -/
def execStatAxes (t : Tag) (fs : List Field) (s : State) : Answer :=
  .next (s.deliver ⟨t, .stat, .word "AXES" :: fs⟩)

/-- `STAT_DOORS` (R109). -/
def execStatDoors (t : Tag) (fs : List Field) (s : State) : Answer :=
  .next (s.deliver ⟨t, .stat, .word "DOORS" :: fs⟩)

/-- `STAT_SUPPLY` (R67). -/
def execStatSupply (t : Tag) (fs : List Field) (s : State) : Answer :=
  .next (s.deliver ⟨t, .stat, .word "SUPPLY" :: fs⟩)

/-- `STAT_COND` (R35). -/
def execStatCond (t : Tag) (fs : List Field) (s : State) : Answer :=
  .next (s.deliver ⟨t, .stat, .word "COND" :: fs⟩)

/-- `STAT_PLAN` (R23). -/
def execStatPlan (t : Tag) (fs : List Field) (s : State) : Answer :=
  .next (s.deliver ⟨t, .stat, .word "PLAN" :: fs⟩)

/-- `STAT_STATIONS` (R146). -/
def execStatStations (t : Tag) (fs : List Field) (s : State) : Answer :=
  .next (s.deliver ⟨t, .stat, .word "STATIONS" :: fs⟩)

/-- `STAT_BEACONS` (R161). -/
def execStatBeacons (t : Tag) (fs : List Field) (s : State) : Answer :=
  .next (s.deliver ⟨t, .stat, .word "BEACONS" :: fs⟩)

/-- `STAT_PART` (R189). -/
def execStatPart (t : Tag) (fs : List Field) (s : State) : Answer :=
  .next (s.deliver ⟨t, .stat, .word "PART" :: fs⟩)

/-- `STAT_LINK` (R189). -/
def execStatLink (t : Tag) (fs : List Field) (s : State) : Answer :=
  .next (s.deliver ⟨t, .stat, .word "LINK" :: fs⟩)

end Sys2Proof.Machine
end

