-- ==== Sys2Proof/Machine/Dispatch.lean ====
section
/-!
DEFINITION. What each command does: one arm for each row of the table of operations and events.
-/

namespace Sys2Proof.Machine

/-- The meaning of a command, on everything but the queue. -/
def exec (i : Instr) (s : State) : Host.Outcome State Fault Refusal :=
  match i with
  | .powerOnReset strap => Sys2Proof.Machine.execPowerOnReset strap s
  | .resetPin strap => Sys2Proof.Machine.execResetPin strap s
  | .imageReadEnd => Sys2Proof.Machine.execImageReadEnd s
  | .characterReceived c framing => Sys2Proof.Machine.execCharacterReceived c framing s
  | .haltCharacter => Sys2Proof.Machine.execHaltCharacter s
  | .lineBreak => Sys2Proof.Machine.execLineBreak s
  | .rejectedRecord text => Sys2Proof.Machine.execRejectedRecord text s
  | .transmitCharacterSent => Sys2Proof.Machine.execTransmitCharacterSent s
  | .move t fs => Sys2Proof.Machine.execMove t fs s
  | .seqn t fs => Sys2Proof.Machine.execSeqn t fs s
  | .canc t fs => Sys2Proof.Machine.execCanc t fs s
  | .cancAll t fs => Sys2Proof.Machine.execCancAll t fs s
  | .halt t fs => Sys2Proof.Machine.execHalt t fs s
  | .resm t fs => Sys2Proof.Machine.execResm t fs s
  | .qrec t fs => Sys2Proof.Machine.execQrec t fs s
  | .plan t fs => Sys2Proof.Machine.execPlan t fs s
  | .calp t fs => Sys2Proof.Machine.execCalp t fs s
  | .calpCompletion codes => Sys2Proof.Machine.execCalpCompletion codes s
  | .beac t fs => Sys2Proof.Machine.execBeac t fs s
  | .beacClear t lamp fs => Sys2Proof.Machine.execBeacClear t lamp fs s
  | .cntrRead t fs => Sys2Proof.Machine.execCntrRead t fs s
  | .cntrClear t fs => Sys2Proof.Machine.execCntrClear t fs s
  | .cntrSetup t fs => Sys2Proof.Machine.execCntrSetup t fs s
  | .cntrFreeze t fs => Sys2Proof.Machine.execCntrFreeze t fs s
  | .cntrThaw t fs => Sys2Proof.Machine.execCntrThaw t fs s
  | .note t fs => Sys2Proof.Machine.execNote t fs s
  | .getv t fs => Sys2Proof.Machine.execGetv t fs s
  | .setv t fs => Sys2Proof.Machine.execSetv t fs s
  | .save t fs => Sys2Proof.Machine.execSave t fs s
  | .link t fs => Sys2Proof.Machine.execLink t fs s
  | .live t fs => Sys2Proof.Machine.execLive t fs s
  | .statAxes t fs => Sys2Proof.Machine.execStatAxes t fs s
  | .statDoors t fs => Sys2Proof.Machine.execStatDoors t fs s
  | .statSupply t fs => Sys2Proof.Machine.execStatSupply t fs s
  | .statCond t fs => Sys2Proof.Machine.execStatCond t fs s
  | .statPlan t fs => Sys2Proof.Machine.execStatPlan t fs s
  | .statStations t fs => Sys2Proof.Machine.execStatStations t fs s
  | .statBeacons t fs => Sys2Proof.Machine.execStatBeacons t fs s
  | .statPart t fs => Sys2Proof.Machine.execStatPart t fs s
  | .statLink t fs => Sys2Proof.Machine.execStatLink t fs s
  | .supervisionTimerExpiry => Sys2Proof.Machine.execSupervisionTimerExpiry s
  | .waitLimitExpiry h => Sys2Proof.Machine.execWaitLimitExpiry h s
  | .leadTimeExpiry h => Sys2Proof.Machine.execLeadTimeExpiry h s
  | .holdTimerExpiry h => Sys2Proof.Machine.execHoldTimerExpiry h s
  | .inputCountedChange ins => Sys2Proof.Machine.execInputCountedChange ins s
  | .estopActive => Sys2Proof.Machine.execEstopActive s
  | .estopReleaseCounted => Sys2Proof.Machine.execEstopReleaseCounted s
  | .speedComputation => Sys2Proof.Machine.execSpeedComputation s
  | .contactorMade => Sys2Proof.Machine.execContactorMade s
  | .contactorMakeTimeout => Sys2Proof.Machine.execContactorMakeTimeout s
  | .contactorDropout => Sys2Proof.Machine.execContactorDropout s
  | .weldedContactor => Sys2Proof.Machine.execWeldedContactor s
  | .pumpRestPassed => Sys2Proof.Machine.execPumpRestPassed s
  | .pumpOvercurrent => Sys2Proof.Machine.execPumpOvercurrent s
  | .supplyStateChange => Sys2Proof.Machine.execSupplyStateChange s
  | .scanResult codes => Sys2Proof.Machine.execScanResult codes s
  | .settleTimerExpiry => Sys2Proof.Machine.execSettleTimerExpiry s
  | .stall => Sys2Proof.Machine.execStall s
  | .runLimitTimeout => Sys2Proof.Machine.execRunLimitTimeout s
  | .groundTimeExpiry => Sys2Proof.Machine.execGroundTimeExpiry s
  | .overload => Sys2Proof.Machine.execOverload s
  | .unlatchWindowExpiry side => Sys2Proof.Machine.execUnlatchWindowExpiry side s
  | .doortimeExpiry side => Sys2Proof.Machine.execDoortimeExpiry side s
  | .pullinWindowExpiry side => Sys2Proof.Machine.execPullinWindowExpiry side s
  | .obstruction side => Sys2Proof.Machine.execObstruction side s
  | .reverseEnd side => Sys2Proof.Machine.execReverseEnd side s
  | .pollCycleStart => Sys2Proof.Machine.execPollCycleStart s
  | .pollAbort => Sys2Proof.Machine.execPollAbort s
  | .replyReceived c1 c2 c3 c4 framing => Sys2Proof.Machine.execReplyReceived c1 c2 c3 c4 framing s
  | .replyWindowClose started => Sys2Proof.Machine.execReplyWindowClose started s
  | .resetTimerExpiry k => Sys2Proof.Machine.execResetTimerExpiry k s
  | .patternSlot => Sys2Proof.Machine.execPatternSlot s
  | .lampCheck lamp d => Sys2Proof.Machine.execLampCheck lamp d s
  | .readbackMismatch lamp => Sys2Proof.Machine.execReadbackMismatch lamp s
  | .rearTrailExpiry => Sys2Proof.Machine.execRearTrailExpiry s
  | .sideTrailExpiry side => Sys2Proof.Machine.execSideTrailExpiry side s
  | .durationCount k => Sys2Proof.Machine.execDurationCount k s
  | .saveEnd => Sys2Proof.Machine.execSaveEnd s
  | .roadSpeedEdge => Sys2Proof.Machine.execRoadSpeedEdge s
  | .inputRawChange input level => Sys2Proof.Machine.execInputRawChange input level s

end Sys2Proof.Machine
end

