-- ==== Sys2Proof/WellFormed.lean ====
section
/-!
DEFINITION. Well-formed commands: operands that a sender can give. A request's fields are ones the grammar of R179
can write, and its record is no longer than R177 lets it be; a handle is one of R4; a record for judgement is
one that the assembler can hold and that is no request.
-/

namespace Sys2Proof

open Machine (chars textOf isWord isControl readField recordText fieldText judgeText)

/-- Whether a character may stand in a record after its `@` (R176, R177, R180). -/
def recordChar (c : Ch) : Bool := !isControl c && c != 0x40#8 && c != 0x21#8

/-- Whether a text is one word of the grammar (R179). -/
def wordFits (w : String) : Bool := isWord (chars w) && textOf (chars w) == w

/-- Whether a number has at most six digits (R179). -/
def numFits (n : Int) : Bool := decide (-999999 ≤ n) && decide (n ≤ 999999)

/-- Whether a field is one that can stand between two commas (R179). -/
def Field.fits : Field → Bool
  | .num n => numFits n
  | .word w => wordFits w
  | .wnum w n => wordFits w && numFits n
  | .bad text => text.all (fun c => recordChar c && c != 0x2C#8) && decide (readField text = .bad text)

/-- Whether a request can be written as a record (R177, R179). -/
def Request.fits (r : Request) : Bool := r.fields.all Field.fits && decide ((recordText r).length ≤ Config.recordCap)

/-- The request that a command is, if it is one. -/
def Instr.request : Instr → Option Request
  | .move t fs => some ⟨t, .move, fs⟩
  | .seqn t fs => some ⟨t, .seqn, fs⟩
  | .canc t fs => some ⟨t, .canc, fs⟩
  | .cancAll t fs => some ⟨t, .canc, .word "ALL" :: fs⟩
  | .halt t fs => some ⟨t, .halt, fs⟩
  | .resm t fs => some ⟨t, .resm, fs⟩
  | .qrec t fs => some ⟨t, .qrec, fs⟩
  | .plan t fs => some ⟨t, .plan, fs⟩
  | .calp t fs => some ⟨t, .calp, fs⟩
  | .beac t fs => some ⟨t, .beac, fs⟩
  | .beacClear t lamp fs => some ⟨t, .beac, lamp :: .word "CLEAR" :: fs⟩
  | .cntrRead t fs => some ⟨t, .cntr, .word "READ" :: fs⟩
  | .cntrClear t fs => some ⟨t, .cntr, .word "CLEAR" :: fs⟩
  | .cntrSetup t fs => some ⟨t, .cntr, .word "SETUP" :: fs⟩
  | .cntrFreeze t fs => some ⟨t, .cntr, .word "FREEZE" :: fs⟩
  | .cntrThaw t fs => some ⟨t, .cntr, .word "THAW" :: fs⟩
  | .note t fs => some ⟨t, .note, fs⟩
  | .getv t fs => some ⟨t, .getv, fs⟩
  | .setv t fs => some ⟨t, .setv, fs⟩
  | .save t fs => some ⟨t, .save, fs⟩
  | .link t fs => some ⟨t, .link, fs⟩
  | .live t fs => some ⟨t, .live, fs⟩
  | .statAxes t fs => some ⟨t, .stat, .word "AXES" :: fs⟩
  | .statDoors t fs => some ⟨t, .stat, .word "DOORS" :: fs⟩
  | .statSupply t fs => some ⟨t, .stat, .word "SUPPLY" :: fs⟩
  | .statCond t fs => some ⟨t, .stat, .word "COND" :: fs⟩
  | .statPlan t fs => some ⟨t, .stat, .word "PLAN" :: fs⟩
  | .statStations t fs => some ⟨t, .stat, .word "STATIONS" :: fs⟩
  | .statBeacons t fs => some ⟨t, .stat, .word "BEACONS" :: fs⟩
  | .statPart t fs => some ⟨t, .stat, .word "PART" :: fs⟩
  | .statLink t fs => some ⟨t, .stat, .word "LINK" :: fs⟩
  | .powerOnReset _ | .resetPin _ | .imageReadEnd | .characterReceived _ _ | .haltCharacter | .lineBreak
  | .rejectedRecord _ | .transmitCharacterSent | .calpCompletion _ | .supervisionTimerExpiry | .waitLimitExpiry _
  | .leadTimeExpiry _ | .holdTimerExpiry _ | .inputCountedChange _ | .estopActive | .estopReleaseCounted
  | .speedComputation | .contactorMade | .contactorMakeTimeout | .contactorDropout | .weldedContactor
  | .pumpRestPassed | .pumpOvercurrent | .supplyStateChange | .scanResult _ | .settleTimerExpiry | .stall
  | .runLimitTimeout | .groundTimeExpiry | .overload | .unlatchWindowExpiry _ | .doortimeExpiry _
  | .pullinWindowExpiry _ | .obstruction _ | .reverseEnd _ | .pollCycleStart | .pollAbort | .replyReceived _ _ _ _ _
  | .replyWindowClose _ | .resetTimerExpiry _ | .patternSlot | .lampCheck _ _ | .readbackMismatch _ | .rearTrailExpiry
  | .sideTrailExpiry _ | .durationCount _ | .saveEnd | .roadSpeedEdge | .inputRawChange _ _ => none

/-- Whether a handle is one of R4. -/
def handleFits (h : Handle) : Bool := decide (1 ≤ h) && decide (h ≤ 255)

/-- Whether a text is a complete record that is no request (R176 to R178). -/
def rejectFits (text : List Ch) : Bool :=
  text.head? == some 0x40#8 && (text.drop 1).all recordChar && decide (text.length ≤ Config.recordCap) &&
    (match judgeText text with
      | .request _ => false
      | .silent | .csum _ | .badName _ | .unknown _ _ => true)

/-- Whether the second field of a `BEAC` is the word `CLEAR`. -/
def clears : List Field → Bool
  | _ :: .word w :: _ => w == "CLEAR"
  | _ => false

/-- Whether a command is well formed. -/
def Instr.wf (i : Instr) : Bool :=
  (match i.request with
    | some r => r.fits
    | none => true) &&
  match i with
  | .canc _ fs => fs.head? != some (.word "ALL")
  | .beac _ fs => !clears fs
  | .characterReceived c framing => c != 0x21#8 || framing
  | .rejectedRecord text => rejectFits text
  | .waitLimitExpiry h | .leadTimeExpiry h | .holdTimerExpiry h => handleFits h
  | .inputCountedChange ins => !ins.isEmpty && decide ins.Nodup
  | .powerOnReset _ | .resetPin _ | .imageReadEnd | .haltCharacter | .lineBreak | .transmitCharacterSent | .move _ _
  | .seqn _ _ | .cancAll _ _ | .halt _ _ | .resm _ _ | .qrec _ _ | .plan _ _ | .calp _ _ | .calpCompletion _
  | .beacClear _ _ _ | .cntrRead _ _ | .cntrClear _ _ | .cntrSetup _ _ | .cntrFreeze _ _ | .cntrThaw _ _ | .note _ _
  | .getv _ _ | .setv _ _ | .save _ _ | .link _ _ | .live _ _ | .statAxes _ _ | .statDoors _ _ | .statSupply _ _
  | .statCond _ _ | .statPlan _ _ | .statStations _ _ | .statBeacons _ _ | .statPart _ _ | .statLink _ _
  | .supervisionTimerExpiry | .estopActive | .estopReleaseCounted | .speedComputation | .contactorMade
  | .contactorMakeTimeout | .contactorDropout | .weldedContactor | .pumpRestPassed | .pumpOvercurrent
  | .supplyStateChange | .scanResult _ | .settleTimerExpiry | .stall | .runLimitTimeout | .groundTimeExpiry | .overload
  | .unlatchWindowExpiry _ | .doortimeExpiry _ | .pullinWindowExpiry _ | .obstruction _ | .reverseEnd _
  | .pollCycleStart | .pollAbort | .replyReceived _ _ _ _ _ | .replyWindowClose _ | .resetTimerExpiry _ | .patternSlot
  | .lampCheck _ _ | .readbackMismatch _ | .rearTrailExpiry | .sideTrailExpiry _ | .durationCount _ | .saveEnd
  | .roadSpeedEdge | .inputRawChange _ _ => true

end Sys2Proof
end

