-- ==== Sys2Proof/Safety.lean ====
section
/-!
DEFINITION. What counts as a safe state and how the statements speak of an event: the bounds of the queues and of the plan
table, the handles, the resources with the outputs that go with them, what an event leaves unchanged, the notices it
queues and the reply it gives.
-/

namespace Sys2Proof.Machine

/-! ### Bounds -/

/-- The notice queue as R190 and R191 have it: at most 24 notices, a lost count of at most 255, and ATTN asserted
exactly while it holds a notice. -/
def NoticeQueue.wf (q : NoticeQueue) : Bool :=
  decide (q.entries.length ≤ 24) && decide (q.lost ≤ 255) && (q.attn == !q.entries.isEmpty)

/-- The bounds of the link (R175, R183, R184): at most 128 characters in the FIFO, at most 256 in the transmit queue, no
count above 65535. -/
def Link.wf (l : Link) : Bool :=
  decide (l.fifo.length ≤ 128) && decide (l.tx.length ≤ 256) &&
    [l.counts.framing, l.counts.overrun, l.counts.damage, l.counts.checksum, l.counts.tag, l.counts.brk, l.counts.halt,
      l.counts.expiry].all fun n => decide (n ≤ 65535)

/-- The plan table and the recent-outcomes list within their sizes (R3, R15). -/
def Plan.bounded (p : Plan) : Bool := decide (p.records.length ≤ 12) && decide (p.recent.length ≤ 8)

/-- The counters within their ranges (R162, R166, R167), derating active exactly while one of them has both its
reached flag and its derate flag at 1 (R169), and no `SERVICE` notice left to queue (R168). -/
def Counters.wf (c : Counters) : Bool :=
  (c.recs.toList.all Counter.valid) && (c.derating == c.recs.toList.any Counter.derates) &&
    c.service.toList.all Option.isNone

/-- The pattern clock on its grid: the next slot begins at a whole number of slots after the reset, and the present slot
is the one before it, mod 20 (R147). -/
def Beacons.wf (b : Beacons) : Bool :=
  decide (b.nextAt % 100 = 0) && decide (0 < b.nextAt) && decide (b.slot = (b.nextAt / 100 - 1) % 20)

/-- The halt latch set means an empty plan table (R28). -/
def State.haltEmpty (s : State) : Bool := !s.halt.set || s.plan.records.isEmpty

/-- The bounds of every queue and table, the grid of the pattern clock, and what the halt latch means for the plan table:
what every step keeps. -/
def State.inv (s : State) : Bool :=
  s.notes.wf && s.link.wf && s.plan.bounded && s.cnt.wf && s.beac.wf && s.haltEmpty

/-- The handles in use are distinct and lie in 1..255, as do the handle counter and the sequence counter (R3, R4,
R15). -/
def Plan.handlesGood (p : Plan) : Bool :=
  decide p.used.Nodup && (p.used.all fun h => decide (1 ≤ h) && decide (h ≤ 255)) &&
    decide (1 ≤ p.nextHandle) && decide (p.nextHandle ≤ 255) && decide (1 ≤ p.nextSeq) && decide (p.nextSeq ≤ 255)

/-! ### Resources and outputs -/

/-- A record has a side exactly when it is a door record (R2), a station record has no predecessor (R25, R26), and while
a record is granted it holds its resource (R48); a door record is granted in `RUNNING` alone (R5). -/
def State.recordSound (s : State) (r : Record) : Bool :=
  (r.kind.isLift == r.side.isNone) && (r.origin == .link || r.pred.isNone) &&
    (!r.state.granted ||
      match r.side with
      | none => s.holdsPack r.handle
      | some side => s.holdsDoor side r.handle && r.state == .running)

/-- The pack and its outputs (R48, R56, R68, R77). A free pack drives nothing. A held one is held by a granted
tail-lift record; valves and relay are those of the run's class, and the contactor is commanded on exactly for a
pump-driven run, while that record is in `RUNNING`; all are off while it is not. -/
def State.packSound (s : State) : Bool :=
  match s.arb.pack, s.axis.run with
  | none, none => s.axis.valves == .off && s.arb.contactor == .opened
  | some x, some run =>
    match s.find x.handle with
    | some r =>
      r.side.isNone && r.state.granted &&
        if r.state = .running then
          run.cls.isSome && s.axis.valves == valvesFor run.lift run.dir run.cls &&
            run.pump == (s.arb.contactor != .opened)
        else run.cls.isNone && s.axis.valves == .off && s.arb.contactor == .opened
    | none => false
  | none, some _ | some _, none => false

/-- A door channel and its outputs (R48, R93, R95): free with no phase and all off, or held by a running record of
its side with the outputs of its phase. -/
def State.doorSound (s : State) (side : Side) : Bool :=
  let d := s.door side
  match s.arb.channel side, d.phase with
  | none, none => !d.motorOpen && !d.motorClose && !d.latch
  | some x, some p =>
    (match s.find x.handle with
      | some r => r.side == some side && r.state == .running
      | none => false) &&
      d.motorOpen == (p == .opening || p == .reverse) && d.motorClose == (p == .closing || p == .pullin) &&
      d.latch == (p == .unlatch) && d.state == .moving
  | none, some _ | some _, none => false

/-- Records, resources and outputs agree. -/
def State.sound (s : State) : Bool :=
  s.plan.records.all s.recordSound && s.packSound && s.doorSound .near && s.doorSound .off

/-- All pump, valve, door motor and latch outputs commanded off (R28). -/
def State.outputsOff (s : State) : Bool :=
  s.axis.valves == Valves.off && s.arb.contactor == .opened &&
    [s.near, s.off].all fun d => !d.motorOpen && !d.motorClose && !d.latch

/-! ### What an event leaves and what it queues -/

/-- Notices queued one after the other (R190). -/
def NoticeQueue.pushAll (q : NoticeQueue) (ns : List Notice) : NoticeQueue := ns.foldl NoticeQueue.push q

/-- `t` follows from `s` with this notice queued among others. -/
def State.queued (s t : State) (n : Notice) : Prop :=
  ∃ before after, t.notes = ((s.notes.pushAll before).push n).pushAll after

/-- `t` follows from `s` by events of the records, the drives and the beacons alone: the plan table, the arbiter, the
axis controller, the doors, the beacons, the counters and the drive-away flag may differ, notices have only been
queued, time has only gone on, and everything else is as it was. -/
structure State.Follows (s t : State) : Prop where
  pending : t.pending = s.pending
  settings : t.settings = s.settings
  halt : t.halt = s.halt
  inputs : t.inputs = s.inputs
  supply : t.supply = s.supply
  conv : t.conv = s.conv
  bus : t.bus = s.bus
  link : t.link = s.link
  store : t.store = s.store
  startup : t.startup = s.startup
  edges : t.eval.edges = s.eval.edges
  speed : t.eval.speed = s.eval.speed
  speedAt : t.eval.nextAt = s.eval.nextAt
  notes : ∃ ns, t.notes = s.notes.pushAll ns
  now : s.now ≤ t.now

/-- The inputs differ in the counted levels of the switches of these sides alone. -/
def Inputs.recounted (v w : Inputs) (sides : List Side) : Prop :=
  w = { v with near := w.near, off := w.off } ∧
    ∀ (side : Side) (sw : Switch),
      ((w.switches side).get sw).raw = ((v.switches side).get sw).raw ∧
        ((w.switches side).get sw).since = ((v.switches side).get sw).since ∧
        (side ∉ sides → (w.switches side).get sw = (v.switches side).get sw)

/-- `t` follows from `s`, but that door switches of these sides may have been counted in the event (R99 to R101, R105). -/
def State.FollowsDoors (s t : State) (sides : List Side) : Prop :=
  { s with inputs := t.inputs }.Follows t ∧ s.inputs.recounted t.inputs sides

/-! ### Endings -/

/-- The final position of a record that ends now (R13): the reported axis value, or the state of its door, which is the
derived one when the record gives its door up. -/
def State.endPos (s : State) (r : Record) : Pos :=
  match r.side with
  | none => .value (s.reported r.kind.axisChan)
  | some side => .door (if s.holdsDoor side r.handle then s.derived side else (s.door side).state)

/-- From `s`, a record has ended in `x`: it is in the table neither then nor after the close of the event, its `ENDED`
notice is queued, and the event has changed nothing that such an ending leaves. -/
structure State.Ends (s x : State) (r : Record) (o : RecOutcome) (why : Option EndReason) : Prop where
  gone : r.handle ∉ x.handles
  stays : r.handle ∉ x.conclude.handles
  noted : s.queued x.conclude (.ended r.handle r.kind o why (s.endPos r))
  follows : s.Follows x.conclude

/-- The power pack is free, and what it drives is commanded off (R13, R48). -/
def State.packFree (x : State) : Prop :=
  x.arb.pack = none ∧ x.axis.run = none ∧ x.axis.valves = .off ∧ x.arb.contactor = .opened

/-- A door channel is free, its outputs are commanded off and the door state is the derived one (R107). -/
def State.doorFree (x : State) (side : Side) : Prop :=
  x.arb.channel side = none ∧ (x.door side).phase = none ∧ (x.door side).motorOpen = false ∧
    (x.door side).motorClose = false ∧ (x.door side).latch = false ∧ (x.door side).state = x.derived side

/-! ### Requests -/

/-- A request can be taken at once: processing does not wait, no record is in assembly, and the record is no longer
than R177 lets it be. -/
def State.ready (s : State) (r : Request) : Prop :=
  s.waits = false ∧ s.link.asm = .hunting ∧ (recordText r).length ≤ Config.recordCap

/-- `t` is `s` with a reply placed behind what the transmit queue held, and with nothing else changed: what there is
room for stands in the queue, and the rest waits to be fed (R183). -/
def State.answers (s t : State) (tag : Tag) (name : List Ch) (result : String) (fs : List Field) : Prop :=
  t = { s with link := { s.link with tx := t.link.tx, feed := t.link.feed } } ∧
    t.link.tx ++ t.link.feed = s.link.tx ++ replyText tag name result fs ∧
    (t.link.feed = [] ∨ t.link.tx.length = 256)

/-- The reply of a request that the model knows by name. -/
abbrev State.replies (s t : State) (tag : Tag) (name : ReqName) (result : String) (fs : List Field) : Prop :=
  s.answers t tag (chars (reqWord name)) result fs

/-- A step that is safe: it answers a next state within its bounds. -/
def safeStep (s : State) : Bool :=
  match step s with
  | .next t => t.inv
  | .fault _ => false
  | .refused _ => false

end Sys2Proof.Machine
end

