-- ==== Sys2Proof/Certificates/Slice0/Obligations.lean ====
section
/-!
DEFINITION. The statements about the TD-62, for the provers. In a statement about an event `x` is the state that the
event's own effect leaves, before the close of the event (`State.conclude`: the report of the conditions, the
arbiter's look, the drive-away flag, the beacons and the `SERVICE` notices); the next state is `x.conclude`.

Where a clause gives the time of an event's row as the later of `s.now` and the moment its timer passes (`x.now = max s.now
…`, `u.now = max s.now …`), and in the clock clause of `CountersCount`, it states the model's choice of log entry 2: the row
of a timer moves the clock to the moment the timer passes, and never back. This holds of `SaveEnds`, `SupervisionExpires`,
`WaitAndHoldLimitsEnd`, `LeadEnds`, `SettleJudges`, `DriveFaultsEnd`, `ContactorEvents`, `SupplyStateChanges`, `PinsHalt`,
`SpeedAndDriveAway`, `DoorTimersAndObstruction`, `ScanConverts`, `PollCyclesRun`, `StopAndResetKeys`, `PatternAndTrails`,
`LampFaultsLatch`, `ImageReadEnds` and `CountersCount`, and of the scan that `CalpTakenAndCompleted` names.
-/

open Sys2Proof Sys2Proof.Machine

/-! ### The machine as a whole -/

/-- The command at the front of the queue is run on the state with the queue's rest. On an empty queue the block lets 1 ms
pass (the model's choice, log entry 1). -/
def Obligations.StepTakesFrontCommand : Prop :=
  (∀ (s : State) (c : Instr) (rest : List Instr),
    step { s with pending := c :: rest } = exec c { s with pending := rest }) ∧
  ∀ s : State, s.pending = [] → ∃ u, step s = .next u ∧ s.Follows u ∧ u.now = s.now + 1

/-- The state right after reset meets every invariant stated below. -/
def Obligations.ResetMeetsInvariants : Prop :=
  State.reset.inv = true ∧ State.reset.plan.handlesGood = true ∧ State.reset.sound = true

/-- Every step keeps the bounds of the queues and tables (R3, R15, R175, R183, R184, R190, R191), the counters' ranges with
derating as their flags have it and no `SERVICE` notice left over (R162, R167 to R169), the pattern clock on its grid from
the reset (R147), and an empty plan table while the halt latch is set (R28). -/
def Obligations.StepKeepsBounds : Prop :=
  ∀ s t : State, s.inv = true → step s = .next t → t.inv = true

/-- Every step keeps the handles of the plan table and of the recent-outcomes list distinct and in 1..255 (R3, R4, R15). -/
def Obligations.StepKeepsHandles : Prop :=
  ∀ s t : State, s.inv = true → s.plan.handlesGood = true → step s = .next t → t.plan.handlesGood = true

/-- Every step keeps records, resources and outputs in agreement: a granted record holds its resource, and outputs are
driven exactly by a holder in `RUNNING` (R5, R48, R56, R77, R95). -/
def Obligations.StepKeepsDrives : Prop :=
  ∀ s t : State, s.inv = true → s.plan.handlesGood = true → s.sound = true → step s = .next t → t.sound = true

/-- While the halt latch is set no pump, valve, door motor or latch output is commanded on (R28). -/
def Obligations.HaltedMeansStill : Prop :=
  ∀ s : State, s.inv = true → s.sound = true → s.halt.set = true → s.outputsOff = true

/-- No step changes a working setting but an `IMAGE_READ_END`, a reset, and an event in which a `SETV` or a `CALP` may be
taken: their requests, the scan that completes a `CALP`, and the events in which the link takes what waits (R193). -/
def Obligations.FewEventsChangeSettings : Prop :=
  ∀ (s t : State) (c : Instr), exec c s = .next t →
    (match c with
      | .powerOnReset _ | .resetPin _ | .imageReadEnd | .setv _ _ | .calpCompletion _ | .scanResult _
      | .transmitCharacterSent | .characterReceived _ _ | .rejectedRecord _ => True
      | _ => t.settings = s.settings)

/-- The arbiter's looks never raise the committed draw above the limit in force (R50). In a look the power pack goes to its
first candidate alone, the oldest station record before the oldest link record, after the tests for a free pack, for `RESERVE`
and for `BUDGET` in that order; a record already there ends `DONE`, with no movement and no trail (R149), and another leads or,
while the rear trail runs, goes on to pump rest or to its run (R9, R52, R53, R71 to R73). A door channel goes to its oldest candidate, after the tests for a free
channel and for `BUDGET` (R54); what its grant does is said in `DoorFollowsAndBegins`. -/
def Obligations.LookKeepsBudget : Prop :=
  (∀ s : State, s.look.limit = s.limit ∧ (s.look.committed : Int) ≤ max (s.committed : Int) s.limit) ∧
  (∀ s : State, s.plan.handlesGood = true →
    let waiting := s.plan.records.filter fun r => r.kind.isLift && r.state == .waiting
    let first := (waiting.find? fun r => r.origin != .link).or waiting.head?
    (first = none → s.lookPack = s) ∧
    ∀ r, first = some r →
      let pump := s.provisional r
      let draw := (if pump then s.settings.plain.pumpDraw else s.settings.plain.valvDraw).toNat
      let pos := s.reported r.kind.axisChan
      let waits (w : WaitReason) : Prop :=
        s.lookPack =
          { s with
            plan :=
              { s.plan with
                records :=
                  s.plan.records.map fun y =>
                    if y ∈ waiting then { y with wait := some (if y.handle = r.handle then w else .pack) } else y } }
      (s.arb.pack.isSome → waits .pack) ∧
      (s.arb.pack = none → pump = true → s.supply.state ≠ .normal → waits .reserve) ∧
      (s.arb.pack = none → (pump = false ∨ s.supply.state = .normal) → s.limit < (s.committed + draw : Nat) →
        waits .budget) ∧
      ∀ target, s.arb.pack = none → (pump = false ∨ s.supply.state = .normal) → ((s.committed + draw : Nat) : Int) ≤ s.limit →
        s.aim r = some target →
        let p := s.settings.plain
        let there : Prop :=
          match r.kind with
          | .lift => target - p.liftTol ≤ pos ∧ pos ≤ target + p.liftTol
          | .tilt | .level => target - p.tiltTol ≤ pos ∧ pos ≤ target + p.tiltTol
          | .stow => p.stowAng - p.tiltTol ≤ pos
          | .unstow => pos ≤ p.tiltTol
          | .doorOpen | .doorShut => False
        (there → s.sound = true → s.Ends s.lookPack r .done none ∧ s.lookPack.packFree ∧ s.lookPack.beac = s.beac) ∧
        (¬there →
          ∃ y run, s.lookPack.find r.handle = some y ∧ s.lookPack.axis.run = some run ∧
            s.lookPack.arb.pack = some ⟨r.handle, draw⟩ ∧ s.lookPack.beac.rearTrail = none ∧
            (r.side = none → y.start = some (.value pos)) ∧ y.pump = some pump ∧
            run.target = target ∧ run.dir = (if pump then .up else .down) ∧ run.pump = pump ∧ run.lift = (r.kind == .lift) ∧
            (r.kind = .level → y.target = some target) ∧
            (s.beac.rearTrail = none → y.state = .lead ∧ y.wait = none ∧ y.leadEnd = some (s.now + p.leadMs.toNat)) ∧
            (s.beac.rearTrail.isSome → pump = true → s.resting = true → y.state = .lead ∧ y.wait = some .rest) ∧
            (s.beac.rearTrail.isSome → (pump = false ∨ s.resting = false) → y.state = .running ∧ y.wait = none ∧
              ∃ m : State, m = { s with plan := m.plan, arb := m.arb, axis := m.axis } ∧
                s.lookPack = m.enterRunning r.handle))) ∧
  ∀ (s : State) (side : Side), s.plan.handlesGood = true →
    let waiting := s.plan.records.filter fun r => r.side == some side && r.state == .waiting
    let all := s.plan.records.filter fun r => r.kind.isLift && r.state == .waiting
    let draw := s.settings.plain.doorDraw.toNat
    (s.budgetHeld = true ↔
      ∃ r, (all.find? fun r => r.origin != .link).or all.head? = some r ∧ r.wait = some .budget) ∧
    (waiting = [] → s.lookDoor side = s) ∧
    ∀ r rest, waiting = r :: rest →
      let waits (w : Option WaitReason) : State :=
        { s with
          plan :=
            { s.plan with
              records :=
                s.plan.records.map fun y =>
                  if y ∈ waiting then
                    { y with wait := if y.handle = r.handle then w.or y.wait else some .channel }
                  else y } }
      ((s.arb.channel side).isSome → s.lookDoor side = waits (some .channel)) ∧
      (s.arb.channel side = none → (s.limit < (s.committed + draw : Nat) ∨ s.budgetHeld = true) →
        s.lookDoor side = waits (some .budget)) ∧
      (s.arb.channel side = none → ((s.committed + draw : Nat) : Int) ≤ s.limit → s.budgetHeld = false →
        s.lookDoor side = (waits none).grantDoor side r)

/-! ### Records on the host link -/

/-- A request written as a record is judged to be that request, with every field (R178, R179). -/
def Obligations.RequestRecordsReadBack : Prop :=
  ∀ r : Request, r.fits = true → judgeText (recordText r) = .request r

/-- While processing waits a received character joins the FIFO, or, where the FIFO is full, is lost and marked; nothing
else happens (R174, R175, R182, R184). A whole request that arrives then joins it as its characters and its CR: that a request
row is the arrival of the whole record is the model's choice, log entry 14. -/
def Obligations.WaitingLinkFillsFifo : Prop :=
  (∀ (s : State) (c : Ch) (f : Bool), s.waits = true → ¬(c = 0x21#8 ∧ f = false) →
     ∃ u, exec (.characterReceived c f) s = .next u ∧
       u = { s with link := { s.link with fifo := u.link.fifo, counts := u.link.counts } } ∧
       u.link.counts =
         { s.link.counts with
           framing := if f then min 65535 (s.link.counts.framing + 1) else s.link.counts.framing
           overrun :=
             if s.link.fifo.length < 128 ∨ (∃ x, s.link.fifo.getLast? = some x ∧ x.loss = true) then s.link.counts.overrun
             else min 65535 (s.link.counts.overrun + 1) } ∧
       (s.link.fifo.length < 128 → u.link.fifo = s.link.fifo ++ [⟨c, f, false⟩]) ∧
       (128 ≤ s.link.fifo.length → u.link.fifo.length = s.link.fifo.length ∧
         u.link.fifo.dropLast = s.link.fifo.dropLast ∧
         ∃ x y, s.link.fifo.getLast? = some x ∧ u.link.fifo.getLast? = some y ∧ y = { x with loss := true })) ∧
  ∀ (s : State) (i : Instr) (r : Request), i.request = some r → s.waits = true →
    s.link.fifo.length + (recordText r).length + 1 ≤ 128 →
    exec i s =
      .next
        { s with
          link := { s.link with fifo := s.link.fifo ++ (recordText r ++ [0x0D#8]).map fun c => ⟨c, false, false⟩ } }

/-- A character other than CR and the halt character, taken by an assembler that does not wait: an `@` begins a record
and damages the one before it, LF is dropped, a control character, a framing error or a length of 96 damages, and any
other character is stored (R176, R177). -/
def Obligations.CharacterAssembled : Prop :=
  ∀ (s : State) (c : Ch) (f : Bool), s.waits = false → s.link.fifo = [] → s.link.complete = none → c ≠ 0x0D#8 →
    ¬(c = 0x21#8 ∧ f = false) →
    ∃ u, exec (.characterReceived c f) s = .next u ∧
      u = { s with link := { s.link with asm := u.link.asm, counts := u.link.counts } } ∧
      u.link.counts =
        { s.link.counts with
          framing := if f then min 65535 (s.link.counts.framing + 1) else s.link.counts.framing
          damage :=
            if s.link.asm ≠ .hunting ∧ c = 0x40#8 ∧ f = false then min 65535 (s.link.counts.damage + 1)
            else s.link.counts.damage } ∧
      (c = 0x40#8 ∧ f = false → u.link.asm = .assembling [0x40#8] false) ∧
      (¬(c = 0x40#8 ∧ f = false) → s.link.asm = .hunting → u.link.asm = .hunting) ∧
      ∀ text damaged, s.link.asm = .assembling text damaged → ¬(c = 0x40#8 ∧ f = false) →
        u.link.asm =
          if c = 0x0A#8 then .assembling text (damaged || f)
          else if damaged = true ∨ f = true ∨ c.toNat < 32 ∨ c.toNat = 127 ∨ 96 ≤ text.length then .assembling text true
          else .assembling (text ++ [c]) false

/-- The CR that ends an undamaged record of a request has the effect of the request's own row; the CR that ends a damaged
one raises the damage count and nothing else (R176, R178, R182). -/
def Obligations.RecordEndServesRequest : Prop :=
  (∀ (s : State) (i : Instr) (r : Request), i.request = some r → r.fits = true → s.waits = false → s.link.fifo = [] →
    s.link.complete = none → s.link.asm = .assembling (recordText r) false →
    exec (.characterReceived 0x0D#8 false) s = exec i { s with link := { s.link with asm := .hunting } }) ∧
  ∀ (s : State) (text : List Ch), s.waits = false → s.link.fifo = [] → s.link.complete = none →
    s.link.asm = .assembling text true →
    exec (.characterReceived 0x0D#8 false) s =
      .next
        { s with
          link :=
            { s.link with
              asm := .hunting
              counts := { s.link.counts with damage := min 65535 (s.link.counts.damage + 1) } } }

/-- The halt character raises a halt event with cause `LINKCHAR`, empties the FIFO and the assembler, and leaves the transmit
queue, a waiting `CALP` and supervision alone; it is the same event by either row (R180). A break empties the FIFO and the
assembler and raises the break count, and does nothing else (R181). -/
def Obligations.HaltCharacterAndBreak : Prop :=
  ((∀ s : State, exec (.characterReceived 0x21#8 false) s = exec .haltCharacter s) ∧
   ∀ s : State,
     ∃ x, exec .haltCharacter s = .next x.conclude ∧ x.halt.set = true ∧
       x.link =
         { s.link with
           fifo := [], asm := .hunting, complete := none
           counts := { s.link.counts with halt := min 65535 (s.link.counts.halt + 1) } } ∧
       (s.halt.set = true → x = { s with link := x.link }) ∧
       (s.halt.set = false →
         x.plan.records = [] ∧ x.conclude.plan.records = [] ∧ x.halt.first = some .linkChar ∧ s.queued x (.halted .linkChar))) ∧
  ∀ s : State,
    exec .lineBreak s =
      .next
        { s with
          link :=
            { s.link with
              fifo := [], asm := .hunting, complete := none
              counts := { s.link.counts with brk := min 65535 (s.link.counts.brk + 1) } } }

/-- A rejected record: what R178 answers to a text at each of its steps, and what it counts. `body` is the text after the
`@`. With no two hexadecimal digits in front there is no reply, at step 1 or 2 alike; without a check of three characters
that gives the sum of what stands before it the reply is `CSUM`; without a name of four capital letters up to a comma or
the check it is `SYNTAX`; with a name that is none of the seventeen, `UNKNOWN`; and at step 5 a field that fits none of
the forms of R179 gives `SYNTAX` with the request's own name, whichever row brings the request. -/
def Obligations.RejectedRecordAnswered : Prop :=
  (∀ (s : State) (body : List Ch), s.waits = false → s.link.asm = .hunting → body.length + 1 ≤ 96 →
    let capital (c : Ch) : Prop := 0x41 ≤ c.toNat ∧ c.toNat ≤ 0x5A
    let digit (c : Ch) : Prop := 0x30 ≤ c.toNat ∧ c.toNat ≤ 0x39
    let hex (c : Ch) : Prop := digit c ∨ (0x41 ≤ c.toNat ∧ c.toNat ≤ 0x46)
    let value (a b : Ch) : Nat :=
      let v (c : Ch) : Nat := if c.toNat ≤ 0x39 then c.toNat - 0x30 else c.toNat - 0x37
      16 * v a + v b
    let number (n : List Ch) : Prop :=
      ∃ ds, (n = ds ∨ n = 0x2D#8 :: ds) ∧ 1 ≤ ds.length ∧ ds.length ≤ 6 ∧ ∀ c ∈ ds, digit c
    let word (w : List Ch) : Prop :=
      w.length ≤ 12 ∧ (∃ c rest, w = c :: rest ∧ capital c) ∧ ∀ c ∈ w, capital c ∨ digit c
    let field (f : List Ch) : Prop := number f ∨ word f ∨ ∃ w n, f = w ++ 0x3D#8 :: n ∧ word w ∧ number n
    let checked (main : List Ch) : Prop :=
      ∃ a b, body = main ++ [0x2A#8, a, b] ∧ hex a ∧ hex b ∧ value a b = (main.map (·.toNat)).sum % 256
    let names : List String :=
      ["MOVE", "SEQN", "CANC", "HALT", "RESM", "QREC", "PLAN", "CALP", "BEAC", "CNTR", "NOTE", "GETV", "SETV", "SAVE", "LINK",
        "LIVE", "STAT"]
    let bare := { s with link := { s.link with counts := { s.link.counts with tag := min 65535 (s.link.counts.tag + 1) } } }
    let bad :=
      { s with
        link := { s.link with counts := { s.link.counts with checksum := min 65535 (s.link.counts.checksum + 1) } } }
    let gives (from_ : State) (t : Tag) (name : List Ch) (result : String) : Prop :=
      ∃ u, exec (.rejectedRecord (0x40#8 :: body)) s = .next u ∧ from_.answers u t name result []
    ((∀ x y rest, body = x :: y :: rest → ¬(hex x ∧ hex y)) → exec (.rejectedRecord (0x40#8 :: body)) s = .next bare) ∧
    ∀ x y rest, body = x :: y :: rest → hex x → hex y →
      let t : Tag := BitVec.ofNat 8 (value x y)
      ((∀ main, ¬checked main) → gives bad t (chars "XXXX") "CSUM") ∧
      ∀ main, checked main →
        let named (name tail : List Ch) : Prop :=
          main = x :: y :: (name ++ tail) ∧ name.length = 4 ∧ (∀ c ∈ name, capital c) ∧
            (tail = [] ∨ tail.head? = some 0x2C#8)
        ((∀ name tail, ¬named name tail) → gives s t (chars "XXXX") "SYNTAX") ∧
        ∀ name tail, named name tail →
          ((∀ w ∈ names, chars w ≠ name) → gives s t name "UNKNOWN") ∧
          ∀ w ∈ names, chars w = name → ∀ before f after, tail = before ++ 0x2C#8 :: (f ++ after) → 0x2C#8 ∉ f →
            (after = [] ∨ after.head? = some 0x2C#8) → ¬field f → gives s t name "SYNTAX") ∧
  ∀ (s : State) (i : Instr) (r : Request) (text : List Ch), i.request = some r → s.ready r → .bad text ∈ r.fields →
    ∃ u, exec i s = .next u ∧ s.replies u r.tag r.name "SYNTAX" []

/-- The transmitter sends the head of the transmit queue, and the rest of a reply moves up into the room (R183). While more
than 16 characters are left, so that fewer than 240 are free, or another wait of R182 lasts, nothing that waits is taken. Once
240 are free a character that waits is taken as if it arrived then, and a whole record of a request is served as by the
request's own row; and in every case nothing is left waiting that could be taken (R182). That a request row is the arrival
of the whole record is the model's choice, log entry 14. An empty queue sends nothing. -/
def Obligations.TransmitterSendsHead : Prop :=
  (∀ (s : State) (c : Ch) (rest : List Ch), s.inv = true → s.link.fifo = [] → s.link.complete = none →
    s.link.tx = c :: rest →
    ∃ u, exec .transmitCharacterSent s = .next u ∧
      u = { s with link := { s.link with tx := u.link.tx, feed := u.link.feed } } ∧
      u.link.tx ++ u.link.feed = rest ++ s.link.feed ∧ (u.link.feed = [] ∨ u.link.tx.length = 256)) ∧
  (∀ (s : State) (c : Ch) (rest : List Ch), s.inv = true → s.link.tx = c :: rest →
    let left := rest ++ s.link.feed
    let freed : State := { s with link := { s.link with tx := left, feed := [], fifo := [] } }
    let waits := 16 < left.length ∨ s.startup.reading = true ∨ s.link.calp.isSome
    (waits →
      ∃ u, exec .transmitCharacterSent s = .next u ∧
        u = { s with link := { s.link with tx := u.link.tx, feed := u.link.feed } } ∧
        u.link.tx ++ u.link.feed = left ∧ (u.link.feed = [] ∨ u.link.tx.length = 256)) ∧
    (¬waits → s.link.complete = none → ∀ x, s.link.fifo = [⟨x, false, false⟩] → x ≠ 0x21#8 →
      exec .transmitCharacterSent s = exec (.characterReceived x false) freed) ∧
    (¬waits → s.link.complete = none → ∀ (i : Instr) (r : Request), i.request = some r → r.fits = true →
      s.link.fifo = (recordText r ++ [0x0D#8]).map (fun x => ⟨x, false, false⟩) →
      exec .transmitCharacterSent s = exec i freed) ∧
    ∃ u, exec .transmitCharacterSent s = .next u ∧
      ((u.link.fifo = [] ∧ u.link.complete = none) ∨ u.startup.reading = true ∨ u.link.calp.isSome ∨ u.link.feed ≠ [] ∨
        16 < u.link.tx.length)) ∧
  ∀ s : State, s.link.tx = [] → exec .transmitCharacterSent s = .next s

/-! ### Motion requests -/

/-- The forms of a `MOVE`, each kind with its own second field and the optional fields in either order (R19), and the
records that each `SEQN` expands into (R20). -/
def Obligations.MotionFormsRead : Prop :=
  ((∀ (opts : List Field) (a : Option Int) (creep : Bool),
     (opts, a, creep) ∈
         [([], none, false), ([.word "CREEP"], none, true)] ∨
       (∃ h, a = some h ∧ (opts, creep) ∈
         [([.wnum "AFTER" h], false), ([.wnum "AFTER" h, .word "CREEP"], true), ([.word "CREEP", .wnum "AFTER" h], true)]) →
     (∀ n, readMove (.word "LIFT" :: .num n :: opts) = some ⟨.lift, none, some n, a, creep⟩) ∧
     (∀ n, readMove (.word "TILT" :: .num n :: opts) = some ⟨.tilt, none, some n, a, creep⟩) ∧
     readMove (.word "LEVEL" :: opts) = some ⟨.level, none, none, a, creep⟩ ∧
     readMove (.word "STOW" :: opts) = some ⟨.stow, none, none, a, creep⟩ ∧
     readMove (.word "UNSTOW" :: opts) = some ⟨.unstow, none, none, a, creep⟩ ∧
     ∀ k w side, (k, w) ∈ [(Kind.doorOpen, "DOOROPEN"), (.doorShut, "DOORSHUT")] →
       readMove (.word w :: .word (sideWord side) :: opts) =
         if creep then none else some ⟨k, some side, none, a, false⟩) ∧
   ∀ fs f, readMove fs = some f → (f.target.isSome ↔ f.kind = .lift ∨ f.kind = .tilt) ∧
     (f.side.isSome ↔ f.kind = .doorOpen ∨ f.kind = .doorShut) ∧ (f.side.isSome → f.creep = false)) ∧
  ∀ s : State,
    let bed := s.settings.plain.bedHt
    (s.stowed = true ↔ ∃ v, s.chanValue 1 = some v ∧ 800 ≤ v) ∧
    s.expand .deploy =
      (if s.stowed then [(.unstow, none, none)] else []) ++ [(.lift, none, some 0), (.level, none, none)] ∧
    s.expand .toBed = [(.lift, none, some bed), (.tilt, none, some 0)] ∧
    s.expand .stowAll =
      (if s.stowed then [] else [(.lift, none, some bed), (.tilt, none, some 0), (.stow, none, none)]) ∧
    s.expand .secure = [(.doorShut, some .near, none), (.doorShut, some .off, none)] ++ s.expand .stowAll ∧
    readSeqn [.word "DEPLOY"] = some .deploy ∧ readSeqn [.word "TOBED"] = some .toBed ∧
    readSeqn [.word "STOWALL"] = some .stowAll ∧ readSeqn [.word "SECURE"] = some .secure

/-- A target outside its range is set to the nearer end and flags the record `CLAMPED`; a target inside it is kept. The
same holds of whoever asks: the host by `MOVE` or `SEQN`, or a station (R18). -/
def Obligations.AdmissionClamps : Prop :=
  Plain.default.liftTop = 1350 ∧ PlainName.range .liftTop = (500, 1600) ∧
  ∀ (s : State) (a : Ask) (n : Int), a.target = some n →
    (a.kind = .lift → 0 ≤ s.settings.plain.liftTop →
      (s.make a).target =
        some (if n < 0 then 0 else if s.settings.plain.liftTop < n then s.settings.plain.liftTop else n) ∧
      ((s.make a).flags.clamped = true ↔ n < 0 ∨ s.settings.plain.liftTop < n)) ∧
    (a.kind = .tilt →
      (s.make a).target = some (if n < -100 then -100 else if 150 < n then 150 else n) ∧
      ((s.make a).flags.clamped = true ↔ n < -100 ∨ 150 < n)) ∧
    ∃ r ∈ (s.enrol a).plan.records, r.handle = s.plan.newHandle ∧ r.target = (s.make a).target ∧
      r.flags = (s.make a).flags

/-- A new handle is the first, from the handle counter on and cyclically in 1..255, that is not in use; the counter goes
past it (R4). -/
def Obligations.HandlesAllocated : Prop :=
  ∀ s : State, s.inv = true → s.plan.handlesGood = true →
    s.plan.newHandle ∉ s.plan.used ∧ 1 ≤ s.plan.newHandle ∧ s.plan.newHandle ≤ 255 ∧
      (∀ d : Nat, d < 255 → s.plan.newHandle = (s.plan.nextHandle - 1 + d) % 255 + 1 →
        ∀ e < d, (s.plan.nextHandle - 1 + e) % 255 + 1 ∈ s.plan.used) ∧
      ∀ a, (s.enrol a).plan.nextHandle = if s.plan.newHandle = 255 then 1 else s.plan.newHandle + 1

/-- A `MOVE` that passes its checks admits one link record at the table's end: `PENDING` behind a predecessor in the table,
`BLOCKED` on its first false required condition, `WAITING` else; the peak follows, and the reply carries the handle (R2,
R3, R5, R19). -/
def Obligations.MoveAdmits : Prop :=
  ∀ (s : State) (t : Tag) (fs : List Field) (f : MoveForm) (p : Option Handle), s.ready ⟨t, .move, fs⟩ →
    readMove fs = some f → f.inRange = true → s.refusal = none → s.movePred f.after = .inr p →
    s.plan.records.length < 12 →
    ∃ (u x : State) (r : Record), exec (.move t fs) s = .next u ∧
      x.conclude.replies u t .move "OK"
        (.num s.plan.newHandle :: if r.flags.clamped then [.word "CLAMPED"] else []) ∧
      x = { s with plan := x.plan } ∧ x.plan.records = s.plan.records ++ [r] ∧
      x.plan.recent = s.plan.recent ∧ x.plan.nextSeq = s.plan.nextSeq ∧
      x.plan.peak = max s.plan.peak (s.plan.records.length + 1) ∧
      r.handle = s.plan.newHandle ∧ r.kind = f.kind ∧ r.side = f.side ∧ r.origin = .link ∧ r.pred = p ∧ r.seq = none ∧
      r.target = f.target.map (s.clampTarget f.kind) ∧ (r.flags.clamped = true ↔ r.target ≠ f.target) ∧
      r.creep = f.creep ∧ r.holds = 0 ∧ r.nudges = 0 ∧ r.pump = none ∧ r.ended = none ∧
      (p.isSome → r.state = .pending ∧ r.wait = none) ∧
      (p = none → s.firstFalse r (s.required r) = none → r.state = .waiting ∧ r.waitFrom = some s.now) ∧
      ∀ c, p = none → s.firstFalse r (s.required r) = some c →
        r.state = .blocked ∧ r.wait = some (.cond c) ∧ r.waitFrom = some s.now

/-- A `MOVE` or a `SEQN` that fails a check admits nothing, and the first check that fails gives the reply, in the order of
R16, with the `SENSOR` check of `SEQN` after the fourth (R16, R17, R19, R20). -/
def Obligations.MotionRefused : Prop :=
  (∀ (s : State) (t : Tag) (fs : List Field), s.ready ⟨t, .move, fs⟩ →
     let gets (w : String) : Prop := ∃ u, exec (.move t fs) s = .next u ∧ s.replies u t .move w []
     (readMove fs = none → gets "SYNTAX") ∧
     ∀ f, readMove fs = some f →
       ((∃ h, f.after = some h ∧ ¬(1 ≤ h ∧ h ≤ 255)) → gets "RANGE") ∧
       ((∀ h, f.after = some h → 1 ≤ h ∧ h ≤ 255) →
         (s.halt.set = true → gets "HALTED") ∧
         (s.halt.set = false →
           (s.link.sup.state = .expired → gets "EXPIRED") ∧
           (s.link.sup.state ≠ .expired →
             (s.settings.plain.supReq = 1 ∧ s.link.sup.taken = false → gets "NOTARMED") ∧
             (¬(s.settings.plain.supReq = 1 ∧ s.link.sup.taken = false) →
               (∀ h, f.after = some h → s.find h.toNat = none → (∀ r ∈ s.plan.recent, r.handle ≠ h.toNat) →
                 gets "NOHANDLE") ∧
               (∀ h r e, f.after = some h → s.find h.toNat = none →
                 (s.plan.recent.find? fun r => r.handle == h.toNat) = some r → r.ended = some e → e.outcome ≠ .done →
                 gets "PREDFAILED") ∧
               ((f.after = none ∨ (∃ h, f.after = some h ∧ (s.find h.toNat).isSome) ∨
                   ∃ h r e, f.after = some h ∧ s.find h.toNat = none ∧
                     (s.plan.recent.find? fun r => r.handle == h.toNat) = some r ∧ r.ended = some e ∧
                     e.outcome = .done) →
                 12 ≤ s.plan.records.length → gets "FULL")))))) ∧
  ∀ (s : State) (t : Tag) (fs : List Field), s.ready ⟨t, .seqn, fs⟩ →
    let gets (w : String) : Prop := ∃ u, exec (.seqn t fs) s = .next u ∧ s.replies u t .seqn w []
    (readSeqn fs = none → gets "SYNTAX") ∧
    ∀ q, readSeqn fs = some q →
      (s.halt.set = true → gets "HALTED") ∧
      (s.halt.set = false → s.link.sup.state = .expired → gets "EXPIRED") ∧
      (s.halt.set = false → s.link.sup.state ≠ .expired → s.settings.plain.supReq = 1 → s.link.sup.taken = false →
        gets "NOTARMED") ∧
      (s.refusal = none → q ≠ .toBed → s.chanValue 1 = none → gets "SENSOR") ∧
      (s.refusal = none → (q = .toBed ∨ (s.chanValue 1).isSome) → 12 < s.plan.records.length + (s.expand q).length →
        gets "FULL")

/-- A `SEQN` that passes its checks admits all its records in order, each tail-lift record behind the one before it, all
with one sequence number, and answers with their handles (R4, R20). -/
def Obligations.SeqnAdmits : Prop :=
  ∀ (s : State) (t : Tag) (fs : List Field) (q : SeqName), s.inv = true → s.plan.handlesGood = true →
    s.ready ⟨t, .seqn, fs⟩ → readSeqn fs = some q → s.refusal = none →
    (q = .toBed ∨ (s.chanValue 1).isSome) → s.plan.records.length + (s.expand q).length ≤ 12 →
    ∃ (u x : State) (rs : List Record), exec (.seqn t fs) s = .next u ∧
      x.conclude.replies u t .seqn "OK" (.num rs.length :: rs.map fun r => .num r.handle) ∧
      x = { s with plan := x.plan } ∧ x.plan.records = s.plan.records ++ rs ∧ x.plan.recent = s.plan.recent ∧
      rs.map (fun r => (r.kind, r.side)) = (s.expand q).map (fun k => (k.1, k.2.1)) ∧
      rs.map (·.target) = (s.expand q).map (fun k => k.2.2.map (s.clampTarget k.1)) ∧
      (∀ r ∈ rs, r.seq = some s.plan.newSeq ∧ r.origin = .link ∧ r.creep = false) ∧
      (rs.filter fun r => r.kind.isLift).map (·.pred) =
        (none :: (rs.filter fun r => r.kind.isLift).map fun r => some r.handle).take
          (rs.filter fun r => r.kind.isLift).length ∧
      (∀ r ∈ rs, r.kind.isLift = false → r.pred = none) ∧
      (rs ≠ [] → x.plan.nextSeq = if s.plan.newSeq = 255 then 1 else s.plan.newSeq + 1) ∧
      (rs = [] → x = s) ∧ x.plan.handlesGood = true

/-- `CANC` of a handle in the table ends that record `CANCELLED` for `REQUEST` whatever its state, frees the power pack if the
record held it, and answers how many records ended; another handle is `NOHANDLE`, and so is a number outside 1..255, which
is the model's reading, log entry 15 (DEDUCED). Its successors end with it for `PRED`, and theirs in turn; no other record
does (R7). `CANC,ALL` ends every record, none with `PRED`; a further field is `SYNTAX`
(R13, R15, R21). -/
def Obligations.CancEnds : Prop :=
  ((∀ (s : State) (t : Tag) (h : Nat) (r : Record), s.ready ⟨t, .canc, [.num h]⟩ → s.find h = some r → 0 < h →
     ∃ u x : State, exec (.canc t [.num h]) s = .next u ∧
       x.conclude.replies u t .canc "OK" [.num (s.plan.records.length - x.plan.records.length : Nat)] ∧
       s.Ends x r .cancelled (some .request) ∧ (s.sound = true → s.holdsPack h = true → x.packFree) ∧
       (s.inv = true → s.successors h = [] → ∃ r', r'.ended = some ⟨.cancelled, some .request, s.endPos r⟩ ∧ r'.handle = h ∧
         r'.kind = r.kind ∧ x.plan.records = s.plan.records.filter (fun y => y.handle ≠ h) ∧
         x.plan.recent = (r' :: s.plan.recent).take 8) ∧
       (s.inv = true → s.plan.handlesGood = true →
         (∀ y ∈ s.plan.records, ∀ k, y.pred = some k → k ∈ s.handles → k ∉ x.handles → y.handle ∉ x.handles) ∧
         ∀ y ∈ s.plan.records, y.handle ≠ h → y.handle ∉ x.handles →
           (∃ k, y.pred = some k ∧ k ∈ s.handles ∧ k ∉ x.handles) ∧
             ∃ p, s.queued x (.ended y.handle y.kind .cancelled (some .pred) p))) ∧
   ∀ (s : State) (t : Tag) (h : Int), s.ready ⟨t, .canc, [.num h]⟩ → (h ≤ 0 ∨ s.find h.toNat = none) →
     ∃ u, exec (.canc t [.num h]) s = .next u ∧ s.replies u t .canc "NOHANDLE" []) ∧
  (∀ (s : State) (t : Tag), s.ready ⟨t, .canc, [.word "ALL"]⟩ →
    ∃ u x : State, exec (.cancAll t []) s = .next u ∧ x.plan.records = [] ∧ s.Follows x ∧
      x.conclude.replies u t .canc "OK" [.num s.plan.records.length] ∧
      (s.plan.handlesGood = true →
        ∀ r ∈ s.plan.records, ∃ p, s.queued x (.ended r.handle r.kind .cancelled (some .request) p)) ∧
      (s.inv = true → s.plan.handlesGood = true → s.sound = true → x.outputsOff = true)) ∧
  ∀ (s : State) (t : Tag) (f : Field) (fs : List Field), s.ready ⟨t, .canc, .word "ALL" :: f :: fs⟩ →
    ∃ u, exec (.cancAll t (f :: fs)) s = .next u ∧ s.replies u t .canc "SYNTAX" []

/-- `HALT` raises a halt event with cause `REQUEST`, whatever the state of supervision, and answers how many records it
ended: none where the latch was already set (R29). -/
def Obligations.HaltRequestHalts : Prop :=
  ∀ (s : State) (t : Tag), s.ready ⟨t, .halt, []⟩ →
    ∃ u : State, exec (.halt t []) s = .next u ∧ (s.raiseHalt .request).conclude.replies u t .halt "OK"
      [.num (if s.halt.set then 0 else s.plan.records.length)] ∧ u.halt.set = true ∧
      ∀ f fs, s.ready ⟨t, .halt, f :: fs⟩ →
        ∃ v, exec (.halt t (f :: fs)) s = .next v ∧ s.replies v t .halt "SYNTAX" []

/-- A halt event with the latch clear sets it with its cause as the first one, queues `HALTED`, ends every record
`CANCELLED` for `HALT` and leaves every output off. With the latch set, a lasting cause that is not yet present joins
the present causes with its own notice, and nothing else happens (R28). -/
def Obligations.HaltEventStopsEverything : Prop :=
  ∀ (s : State) (c : Cause),
    (s.halt.set = false →
      (s.raiseHalt c).plan.records = [] ∧ (s.raiseHalt c).halt.set = true ∧ (s.raiseHalt c).halt.first = some c ∧
      (c.lasting = true → (s.raiseHalt c).halt.has c = true) ∧ s.queued (s.raiseHalt c) (.halted c) ∧
      (s.plan.handlesGood = true →
        ∀ r ∈ s.plan.records, ∃ p, s.queued (s.raiseHalt c) (.ended r.handle r.kind .cancelled (some .halted) p)) ∧
      (s.inv = true → s.plan.handlesGood = true → s.sound = true → (s.raiseHalt c).outputsOff = true)) ∧
    (s.halt.set = true → c.lasting = true → s.halt.has c = false →
      (s.raiseHalt c).halt.has c = true ∧ (s.raiseHalt c).halt.first = s.halt.first ∧ (s.raiseHalt c).halt.set = true ∧
      (∀ d, d ≠ c → (s.raiseHalt c).halt.has d = s.halt.has d) ∧
      s.raiseHalt c = { s with halt := (s.raiseHalt c).halt, notes := s.notes.push (.halted c) }) ∧
    (s.halt.set = true → (c.lasting = false ∨ s.halt.has c = true) → s.raiseHalt c = s)

/-- `RESM` clears the latch when no cause is present, names the causes that are, and answers `NOTHALTED` when the latch
is clear (R30). That the causes stand in the order STATION, ESTOP, WELDED, and STATION once however many stations hold it, is
the model's choice, log entry 40 (DESIGN CHOICE). -/
def Obligations.ResmAnswers : Prop :=
  ∀ (s : State) (t : Tag), s.ready ⟨t, .resm, []⟩ →
    (s.halt.set = false → ∃ u, exec (.resm t []) s = .next u ∧ s.replies u t .resm "NOTHALTED" []) ∧
    (s.halt.set = true → (s.halt.estop = true ∨ s.halt.welded = true ∨ ∃ i : Fin 6, s.halt.stations[i] = true) →
      ∃ (u : State) (station : Bool), exec (.resm t []) s = .next u ∧
        (station = true ↔ ∃ i : Fin 6, s.halt.stations[i] = true) ∧
        s.replies u t .resm "REFUSED"
          ((if station then [.word "STATION"] else []) ++ (if s.halt.estop then [.word "ESTOP"] else []) ++
            if s.halt.welded then [.word "WELDED"] else [])) ∧
    (s.halt.set = true → s.halt.estop = false → s.halt.welded = false → (∀ i : Fin 6, s.halt.stations[i] = false) →
      ∃ u x : State, exec (.resm t []) s = .next u ∧ x.conclude.replies u t .resm "OK" [] ∧
        x = { s with halt := x.halt } ∧ x.halt.set = false ∧ x.halt.first = none ∧ x.halt.present = false)

/-- `QREC` answers from the table, else from the recent-outcomes list, else `NOHANDLE`, also of a number above 255, which is
the model's reading, log entry 15 (DEDUCED); its fields are those of the table of R22. `PLAN` answers the count and the
handles in admission order; `GETV` answers a setting's name and contents (R22, R23, R193). A request that takes no field
answers `SYNTAX` to one. The words are those of the manual. -/
def Obligations.QueriesAnswer : Prop :=
  (∀ (s : State) (t : Tag) (h : Nat), s.ready ⟨t, .qrec, [.num h]⟩ → 0 < h →
    ∃ u, exec (.qrec t [.num h]) s = .next u ∧
      (∀ r, s.find h = some r → s.replies u t .qrec "OK" (recordFields r)) ∧
      (∀ r, s.find h = none → (s.plan.recent.find? fun y => y.handle == h) = some r →
        s.replies u t .qrec "OK" (recordFields r)) ∧
      (s.find h = none → (∀ r ∈ s.plan.recent, r.handle ≠ h) → s.replies u t .qrec "NOHANDLE" [])) ∧
  (∀ (s : State) (t : Tag), s.ready ⟨t, .plan, []⟩ →
    ∃ u, exec (.plan t []) s = .next u ∧
      s.replies u t .plan "OK" (.num s.plan.records.length :: s.plan.records.map fun r => .num r.handle)) ∧
  (∀ (s : State) (t : Tag) (n : ReqName) (c : List Field → Instr) (f : Field) (fs : List Field),
    (n, c) ∈ [(ReqName.plan, Instr.plan t), (.resm, .resm t), (.note, .note t), (.save, .save t)] →
    s.ready ⟨t, n, f :: fs⟩ → ∃ u, exec (c (f :: fs)) s = .next u ∧ s.replies u t n "SYNTAX" []) ∧
  (∀ r : Record,
    recordFields r =
      [.num r.handle, .word r.kind.word,
        .word (match r.ended with | some e => e.outcome.word | none => r.state.word),
        .word (match r.ended, r.wait with
          | some e, _ => (match e.reason with | some why => why.word | none => "NONE")
          | none, some w => w.word
          | none, none => "NONE")] ++
        (match r.side with | some .near => [.word "NEAR"] | some .off => [.word "OFF"] | none => []) ++
        [.wnum "ORG" (match r.origin with | .link => 0 | .station i => (i.val : Int) + 1)] ++
        (match r.target with | some n => [.wnum "TGT" n] | none => []) ++
        (match r.pred with | some h => [.wnum "PRE" h] | none => []) ++
        (match r.seq with | some n => [.wnum "SEQ" n] | none => []) ++
        (if r.creep then [.word "CREEP"] else []) ++ (if r.flags.clamped then [.word "CLAMPED"] else []) ++
        (if r.flags.limited then [.word "LIMITED"] else []) ++ (if r.flags.overshot then [.word "OVERSHOT"] else []) ++
        (if r.flags.ground then [.word "GROUND"] else []) ++ (if r.flags.derated then [.word "DERATED"] else []) ++
        [.wnum "HOLDS" r.holds, .wnum "NUDG" r.nudges] ++
        (match r.ended, r.start with
          | some e, _ => (match e.pos with | .value n => [.wnum "POS" n] | .door d => [.word d.word])
          | none, some (.value n) => [.wnum "POS" n]
          | none, some (.door d) => [.word d.word]
          | none, none => [])) ∧
  ([Kind.lift, .tilt, .level, .stow, .unstow, .doorOpen, .doorShut].map Kind.word =
      ["LIFT", "TILT", "LEVEL", "STOW", "UNSTOW", "DOOROPEN", "DOORSHUT"] ∧
    [RecState.pending, .blocked, .waiting, .lead, .running, .holding, .settling].map RecState.word =
      ["PENDING", "BLOCKED", "WAITING", "LEAD", "RUNNING", "HOLDING", "SETTLING"] ∧
    [RecOutcome.done, .stopped, .failed, .cancelled].map RecOutcome.word = ["DONE", "STOPPED", "FAILED", "CANCELLED"] ∧
    [Cond.parked, .master, .calib, .liftSns, .tiltSns, .presSns, .inclSns, .notStowed, .atBed, .bodyLvl, .rollOk,
        .beaconOk, .supply, .oilOk, .hold].map Cond.word =
      ["PARKED", "MASTER", "CALIB", "LIFTSNS", "TILTSNS", "PRESSNS", "INCLSNS", "NOTSTOWED", "ATBED", "BODYLVL", "ROLLOK",
        "BEACONOK", "SUPPLY", "OILOK", "HOLD"] ∧
    (∀ c : Cond, (WaitReason.cond c).word = c.word ∧ (EndReason.cond c).word = c.word) ∧
    [WaitReason.budget, .reserve, .pack, .channel, .rest].map WaitReason.word =
      ["BUDGET", "RESERVE", "PACK", "CHANNEL", "REST"] ∧
    [EndReason.stall, .timeout, .short, .overload, .obstruct, .contactor, .pumpOc, .holdExp, .linkLost, .latch, .switches,
        .request, .halted, .pred, .override, .supersede, .stale, .station].map EndReason.word =
      ["STALL", "TIMEOUT", "SHORT", "OVERLOAD", "OBSTRUCT", "CONTACTOR", "PUMPOC", "HOLDEXP", "LINKLOST", "LATCH",
        "SWITCHES", "REQUEST", "HALT", "PRED", "OVERRIDE", "SUPERSEDE", "STALE", "STATION"] ∧
    [DoorState.unknown, .shut, .closed, .opened, .ajar, .fault, .moving].map DoorState.word =
      ["UNKNOWN", "SHUT", "CLOSED", "OPEN", "PARTIAL", "FAULT", "MOVING"]) ∧
  (∀ w : Settings,
    (∀ p, w.contents (.plain p) = [.num (w.plain.get p)]) ∧
    (∀ n hi, w.contents (.cal n hi) =
      [.num (if hi then (w.cal[n]).cHi else (w.cal[n]).cLo), .num (if hi then (w.cal[n]).vHi else (w.cal[n]).vLo),
        .num (if (w.cal[n]).mark then 1 else 0)]) ∧
    ∀ i : Fin 6,
      let tail (a : Auth) : List Field :=
        (([Kind.lift, .tilt, .level, .stow, .unstow].filter a.has).map fun k => .word k.word)
      w.contents (.stn i) =
        match w.stn[i] with
        | none => [.num 0]
        | some ⟨n, .pendant a⟩ => [.num n, .word "PENDANT", .word "NONE"] ++ tail a
        | some ⟨n, .platform a⟩ => [.num n, .word "PLATFORM", .word "NONE"] ++ tail a
        | some ⟨n, .keypad .near⟩ => [.num n, .word "KEYPAD", .word "NEAR"]
        | some ⟨n, .keypad .off⟩ => [.num n, .word "KEYPAD", .word "OFF"]
        | some ⟨n, .cab⟩ => [.num n, .word "CAB", .word "NONE"]) ∧
  ∀ (s : State) (t : Tag) (n : SettingName), s.ready ⟨t, .getv, [.word n.word]⟩ →
    ∃ u, exec (.getv t [.word n.word]) s = .next u ∧ s.replies u t .getv "OK" (.word n.word :: s.settings.contents n)

/-- Each group of `STAT` answers its word and its fields, and a further field is `SYNTAX` (R23, R35, R67, R92, R109, R146,
R161, R188, R189). The fields of every group are those of Formats on the wire, in the words of the manual. With no present
cause `PLAN` has no cause word, and STATION stands once: the model's choice, log entry 40; SI names the stations whose cause
is present: the model's choice, log entry 47 (DESIGN CHOICE). That `STATIONS` answers from the entry in force, the one polling
uses, and not from a setting that `SETV` has changed since the last cycle, and what stands for an item that has no value or
no run, are the model's reading: log entry 17 (DEDUCED). -/
def Obligations.StatAnswers : Prop :=
  ∀ (s : State) (t : Tag) (w : String) (c : List Field → Instr) (xs : List Field),
    (w, c, xs) ∈
      [("AXES", .statAxes t, s.statAxes), ("DOORS", .statDoors t, s.statDoors), ("SUPPLY", .statSupply t, s.statSupply),
        ("COND", .statCond t, s.statCond), ("PLAN", .statPlan t, s.statPlan),
        ("STATIONS", .statStations t, s.statStations), ("BEACONS", .statBeacons t, s.statBeacons),
        ("PART", .statPart t, s.statPart), ("LINK", .statLink t, s.statLink)] →
    (s.ready ⟨t, .stat, [.word w]⟩ → ∃ u, exec (c []) s = .next u ∧ s.replies u t .stat "OK" (.word w :: xs)) ∧
    (∀ f fs, s.ready ⟨t, .stat, .word w :: f :: fs⟩ →
      ∃ u, exec (c (f :: fs)) s = .next u ∧ s.replies u t .stat "SYNTAX" []) ∧
    let bit (b : Bool) : Int := if b then 1 else 0
    let left (d : Option Nat) : Int := match d with | some t0 => (t0 - s.now : Nat) | none => 0
    let level (b : Option Bool) : Int := match b with | some b => bit b | none => -1
    let holder (x : Option Holding) : Int := match x with | some x => x.handle | none => 0
    let draw (x : Option Holding) : Int := match x with | some x => x.draw | none => 0
    s.statPlan =
      [.wnum "N" s.plan.records.length, .wnum "PK" s.plan.peak, .wnum "HALT" (bit s.halt.set),
        .word (match s.halt.first with
          | none => "NONE"
          | some .linkChar => "LINKCHAR"
          | some .request => "REQUEST"
          | some (.station _) => "STATION"
          | some .estop => "ESTOP"
          | some .welded => "WELDED")] ++
        (if ∃ i : Fin 6, s.halt.stations[i] = true then [.word "STATION"] else []) ++
        (if s.halt.estop then [.word "ESTOP"] else []) ++ (if s.halt.welded then [.word "WELDED"] else []) ++
        [.wnum "SI" (stationDigits s.halt.stations), .wnum "PKH" (holder s.arb.pack), .wnum "NH" (holder s.arb.near),
          .wnum "FH" (holder s.arb.off)] ∧
    stationDigits #v[true, false, true, false, false, true] = 136 ∧ stationDigits (Vector.replicate 6 false) = 0 ∧
    s.statSupply =
      [.word s.supply.state.word, .wnum "V" ((s.conv.chans[(5 : Fin 9)]).value.getD (-1)),
        .word (s.conv.chans[(5 : Fin 9)]).status.word, .wnum "IP" (s.reported 6),
        .word (s.conv.chans[(6 : Fin 9)]).status.word,
        .wnum "LIM" (if s.inputs.engine.counted = some true then s.settings.plain.limEng else s.settings.plain.limBat),
        .wnum "COM" (8 + draw s.arb.pack + draw s.arb.near + draw s.arb.off), .word s.arb.contactor.word,
        .wnum "REST" (left s.arb.restUntil), .wnum "ENG" (bit (s.inputs.engine.counted == some true)),
        .wnum "PKH" (holder s.arb.pack), .wnum "PKD" (draw s.arb.pack), .wnum "NH" (holder s.arb.near),
        .wnum "NDR" (draw s.arb.near), .wnum "FH" (holder s.arb.off), .wnum "FDR" (draw s.arb.off)] ∧
    (let fields (side : Side) (n : Fin 9) (h pt ot cl la op i : String) : List Field :=
       let d := s.door side
       let sw := s.inputs.switches side
       [.word d.state.word, .word (match d.phase with | some p => p.word | none => "NONE"),
         .wnum h (holder (s.arb.channel side)), .wnum pt (if d.phase.isSome then (s.now - d.phaseAt : Nat) else 0),
         .wnum ot (match d.obsSince with | some t0 => if d.phase.isSome then (s.now - t0 : Nat) else 0 | none => 0),
         .wnum cl (level sw.closed.counted), .wnum la (level sw.latched.counted), .wnum op (level sw.opened.counted),
         .wnum i (s.reported n), .word (s.conv.chans[n]).status.word]
     s.statDoors =
       fields .near 7 "HN" "PTN" "OTN" "CLN" "LAN" "OPN" "IN" ++ fields .off 8 "HF" "PTF" "OTF" "CLF" "LAF" "OPF" "IF") ∧
    s.statPart =
      [.word s.startup.kind.word, .wnum "DEF" (bit s.startup.defaults), .wnum "SAVE" (bit s.store.save.isSome),
        .word (if s.conv.refGood then "GOOD" else "BAD"),
        .wnum "C9" (match s.conv.ch9 with | some c => (c : Int) | none => -1), .wnum "RFC" s.conv.refFails] ∧
    (let l := s.link
     s.statLink =
       [.word l.sup.state.word, .wnum "IV" (match l.sup.interval with | some n => (n : Int) | none => 0),
         .wnum "LC" l.sup.live, .wnum "LR" (left l.sup.deadline), .wnum "BAUD" (if l.strap then 115200 else 38400),
         .wnum "FQ" l.fifo.length, .wnum "TQ" l.tx.length, .wnum "FRM" l.counts.framing, .wnum "OVR" l.counts.overrun,
         .wnum "DMG" l.counts.damage, .wnum "CS" l.counts.checksum, .wnum "TAG" l.counts.tag, .wnum "BRK" l.counts.brk,
         .wnum "HC" l.counts.halt, .wnum "EXP" l.counts.expiry]) ∧
    (let reads (n : Fin 9) : Int := (s.conv.chans[n]).value.getD (-9999)
     let status (n : Fin 9) : Field := .word (s.conv.chans[n]).status.word
     let incline (f : Option Int) : Int := match f with | some f => max (-300) (min 300 (roundDiv f 32)) | none => -9999
     s.statAxes =
       [.wnum "HT" (reads 0), status 0, .wnum "TL" (reads 1), status 1, .wnum "PI" (incline s.conv.pitchF),
         .wnum "RO" (incline s.conv.rollF), .wnum "PR" (reads 4), status 4, .wnum "LD" s.axis.presentLoad,
         .wnum "LL" s.axis.lastLoad, .wnum "PK" (holder s.arb.pack),
         .word (match s.packRecord with | some r => r.kind.word | none => "NONE")] ++
         (match s.packRecord, s.axis.run with
           | some r, some run =>
             if r.state = .lead then
               [.wnum "TG" 0, .word "NONE", .word "NONE", .word "NONE", .wnum "RT" 0, .wnum "NU" 0, .wnum "ND" 0,
                 .wnum "SR" 0, .wnum "OA" 0]
             else
               [.wnum "TG" run.target, .word run.dir.word,
                 .word (match run.runKind with | some k => k.word | none => "NONE"),
                 .word (match run.cls with | some c => c.word | none => "NONE"),
                 .wnum "RT" (if run.runKind.isSome then (run.runAcc + (s.now - run.runFrom) : Nat) else run.runAcc),
                 .wnum "NU" r.nudges, .wnum "ND" (bit run.nudgeDue), .wnum "SR" (left run.settleEnd),
                 .wnum "OA" (bit run.armed)]
           | _, _ =>
             [.wnum "TG" 0, .word "NONE", .word "NONE", .word "NONE", .wnum "RT" 0, .wnum "NU" 0, .wnum "ND" 0,
               .wnum "SR" 0, .wnum "OA" 0]) ++ [.wnum "DR" (bit s.cnt.derating)]) ∧
    s.statCond =
      [.wnum "PARK" (level s.inputs.park.counted), .wnum "IGN" (level s.inputs.ign.counted),
        .wnum "ENG" (level s.inputs.engine.counted), .wnum "MAST" (level s.inputs.master.counted),
        .wnum "OIL" (level s.inputs.oilhot.counted), .wnum "ESTOP" (bit s.inputs.estopCounted),
        .wnum "SPD" (match s.eval.speed with | some v => (v : Int) | none => -1), .wnum "DA" (bit s.eval.driveAway),
        .wnum "C1" (bit (s.cond .parked)), .wnum "C2" (bit (s.cond .master)), .wnum "C3" (bit (s.cond .calib)),
        .wnum "C4" (bit (s.cond .liftSns)), .wnum "C5" (bit (s.cond .tiltSns)), .wnum "C6" (bit (s.cond .presSns)),
        .wnum "C7" (bit (s.cond .inclSns)), .wnum "C8" (bit (s.cond .notStowed)), .wnum "C9" (bit (s.cond .atBed)),
        .wnum "C10" (bit (s.cond .bodyLvl)), .wnum "C11" (bit (s.cond .rollOk)), .wnum "C12" (bit (s.cond .beaconOk)),
        .wnum "C13" (bit (s.cond .supply)), .wnum "C14" (bit (s.cond .oilOk))] ++
        ((s.plan.records.filter fun r => r.kind.isLift).map fun r =>
          .wnum ("H" ++ toString r.handle) (bit (s.holds r .hold))) ∧
    (∀ (r : Record) (c : Cond), c ≠ .hold → s.holds r c = s.cond c) ∧
    (let sum (ks : List (Fin 6)) : Int := ((ks.map fun k => 2 ^ k.val).sum : Nat)
     let station (i : Fin 6) : List Field :=
       let n := toString (i.val + 1)
       let x := s.bus.stations[i]
       let fields (addr : Nat) (role side : String) : List Field :=
         [.wnum ("A" ++ n) addr, .word role, .word side, .word x.state.word, .wnum ("G" ++ n) x.goodRun,
           .wnum ("M" ++ n) x.missRun, .wnum ("KP" ++ n) (sum ((List.finRange 6).filter fun k => (x.keys[k]).pressed)),
           .wnum ("KB" ++ n) (sum ((List.finRange 6).filter fun k => (x.keys[k]).barred)), .wnum ("SK" ++ n) (bit x.stuck),
           .wnum ("MC" ++ n) x.missCount, .word (match x.lastMiss with | some m => m.word | none => "NONE"),
           .wnum ("AC" ++ n) x.aborts, .wnum ("RC" ++ n) x.conflicts]
       match x.entry with
       | some ⟨a, .pendant _⟩ => fields a "PENDANT" "NONE"
       | some ⟨a, .platform _⟩ => fields a "PLATFORM" "NONE"
       | some ⟨a, .keypad .near⟩ => fields a "KEYPAD" "NEAR"
       | some ⟨a, .keypad .off⟩ => fields a "KEYPAD" "OFF"
       | some ⟨a, .cab⟩ => fields a "CAB" "NONE"
       | none =>
         [.wnum ("A" ++ n) 0, .word "NONE", .word "NONE", .word "NONE", .wnum ("G" ++ n) 0, .wnum ("M" ++ n) 0,
           .wnum ("KP" ++ n) 0, .wnum ("KB" ++ n) 0, .wnum ("SK" ++ n) 0, .wnum ("MC" ++ n) 0, .word "NONE",
           .wnum ("AC" ++ n) 0, .wnum ("RC" ++ n) 0]
     s.statStations =
       [.word (if s.bus.fault then "FAULT" else "NORMAL"), .wnum "BF" s.bus.faultCount, .wnum "CR" s.bus.conflictRun,
         .wnum "CL" s.bus.cleanRun] ++ station 0 ++ station 1 ++ station 2 ++ station 3 ++ station 4 ++ station 5) ∧
    (let lamp (l : Lamp) (c r f : String) : List Field :=
       let x := s.beac.lamps[lampIdx l]
       [.word x.cls.word, .word x.pattern.word, .word x.host.word, .wnum c (bit x.level), .wnum r (bit x.readBack),
         .wnum f (bit x.forced)] ++
         if x.openF = false ∧ x.shortF = false ∧ x.stuckF = false then [.word "NONE"]
         else
           (if x.openF then [.word "OPEN"] else []) ++ (if x.shortF then [.word "SHORT"] else []) ++
             if x.stuckF then [.word "STUCK"] else []
     s.statBeacons =
       [.wnum "SL" s.beac.slot, .wnum "RM" (match s.packRecord with | some r => bit r.state.granted | none => 0),
         .wnum "RT" (left s.beac.rearTrail), .wnum "TN" (left s.beac.nearTrail), .wnum "TF" (left s.beac.offTrail),
         .wnum "BOK" (bit (s.cond .beaconOk))] ++
         lamp .b0 "C0" "R0" "F0" ++ lamp .b1 "C1" "R1" "F1" ++ lamp .b2 "C2" "R2" "F2" ++ lamp .b3 "C3" "R3" "F3" ++
         lamp .snd "CS" "RS" "FS") ∧
    [ChanStatus.init, .ok, .failed].map ChanStatus.word = ["INIT", "OK", "FAILED"] ∧
    [Contactor.opened, .making, .made].map Contactor.word = ["OPEN", "MAKING", "MADE"] ∧
    [Dir.up, .down].map Dir.word = ["UP", "DOWN"] ∧ [RunKind.ordinary, .nudge].map RunKind.word = ["ORDINARY", "NUDGE"] ∧
    [SpeedClass.fast, .creep].map SpeedClass.word = ["FAST", "CREEP"] ∧
    [Phase.unlatch, .opening, .closing, .pullin, .reverse].map Phase.word =
      ["UNLATCH", "OPENING", "CLOSING", "PULLIN", "REVERSE"] ∧
    [MissKind.silent, .incomplete, .wrongAddr, .badCheck, .conflict].map MissKind.word =
      ["SILENT", "INCOMPLETE", "WRONGADDR", "BADCHECK", "CONFLICT"] ∧
    [StnState.absent, .present, .lost].map StnState.word = ["ABSENT", "PRESENT", "LOST"] ∧
    [Pattern.off, .steady, .flash, .fast, .double, .altA, .altB].map Pattern.word =
      ["OFF", "STEADY", "FLASH", "FAST", "DOUBLE", "ALTA", "ALTB"] ∧
    [DemandClass.off, .host, .motion, .alarm].map DemandClass.word = ["OFF", "HOST", "MOTION", "ALARM"] ∧
    [SupState.off, .armed, .expired].map SupState.word = ["OFF", "ARMED", "EXPIRED"] ∧
    [ResetKind.powerOn, .pin].map ResetKind.word = ["POWERON", "PIN"]

/-- A query changes nothing but the transmit queue and the rest of its reply, whatever its fields (R22, R23, R171, R188,
R193). -/
def Obligations.QueriesChangeNothing : Prop :=
  ∀ (s u : State) (i : Instr) (r : Request), i.request = some r → s.ready r →
    (r.name = .qrec ∨ r.name = .plan ∨ r.name = .getv ∨ r.name = .stat ∨
      (r.name = .cntr ∧ r.fields.head? = some (.word "READ"))) →
    exec i s = .next u → ∃ result xs, s.replies u r.tag r.name result xs

/-! ### Calibration, beacons, counters, notices, settings and supervision over the link -/

/-- A `CALP` on a channel that is OK, with no record in the table, waits for its scan with no reply yet (R124). The scan result
completes it: with a fresh code of a channel that is OK and a span of at least 1000 the end is stored and the pair
marked, else nothing is stored and the reply says why: `SENSOR`, `BUSY` with a record in the table, or `RANGE` (R125). That
either scan row does so, and that `CALP_COMPLETION` is a scan of its own, is the model's reading, log entry 25 (DEDUCED). -/
def Obligations.CalpTakenAndCompleted : Prop :=
  (∀ (s : State) (t : Tag) (n v : Int) (hi : Bool),
     let fs : List Field := [.num n, .word (if hi then "HI" else "LO"), .num v]
     s.ready ⟨t, .calp, fs⟩ →
     (∀ c : Fin 9, n = c.val → (chanRange c).1 ≤ v → v ≤ (chanRange c).2 →
       (s.plan.records = [] → (s.conv.chans[c]).status = .ok →
         exec (.calp t fs) s = .next { s with link := { s.link with calp := some ⟨t, c, hi, v⟩ } }) ∧
       (s.plan.records = [] → (s.conv.chans[c]).status ≠ .ok →
         ∃ u, exec (.calp t fs) s = .next u ∧ s.replies u t .calp "SENSOR" []) ∧
       (s.plan.records ≠ [] → ∃ u, exec (.calp t fs) s = .next u ∧ s.replies u t .calp "BUSY" [])) ∧
     (¬(0 ≤ n ∧ n ≤ 8) ∨ (∃ c : Fin 9, n = c.val ∧ ¬((chanRange c).1 ≤ v ∧ v ≤ (chanRange c).2)) →
       ∃ u, exec (.calp t fs) s = .next u ∧ s.replies u t .calp "RANGE" [])) ∧
  (∀ (s : State) (codes : Scan) (w : CalpWait), s.conv.scanning = true → s.link.calp = some w → s.link.fifo = [] →
    s.link.complete = none → s.link.feed = [] →
    let c := (s.conv.scan codes s.settings.cal).chans[w.chan]
    let usable := c.status = .ok ∧ c.fresh = true
    let told (u : State) (result : String) : Prop :=
      u.link = { s.link with calp := none, tx := u.link.tx, feed := u.link.feed } ∧ u.settings = s.settings ∧
        u.link.tx ++ u.link.feed = s.link.tx ++ replyText w.tag (chars "CALP") result []
    ∃ u, exec (.calpCompletion codes) s = .next u ∧ exec (.scanResult codes) s = .next u ∧
      (¬usable → told u "SENSOR") ∧
      (usable → ((s.passTo s.conv.nextAt).scan codes).plan.records ≠ [] → told u "BUSY")) ∧
  ∀ (s : State) (codes : Scan) (w : CalpWait), s.inv = true → s.conv.scanning = true → s.link.calp = some w →
    s.plan.records = [] → s.link.fifo = [] → s.link.complete = none → s.link.feed = [] →
    let c := (s.conv.scan codes s.settings.cal).chans[w.chan]
    let old := s.settings.cal[w.chan]
    let code : Nat := meanOf c.hist
    let new : Cal :=
      if w.hi then { old with cHi := code, vHi := w.value, mark := true }
      else { old with cLo := code, vLo := w.value, mark := true }
    let span := new.cHi - new.cLo
    let usable := c.status = .ok ∧ c.fresh = true
    let told (u : State) (result : String) (fs : List Field) : Prop :=
      u.link = { s.link with calp := none, tx := u.link.tx, feed := u.link.feed } ∧
        u.link.tx ++ u.link.feed = s.link.tx ++ replyText w.tag (chars "CALP") result fs
    ∃ u, exec (.calpCompletion codes) s = .next u ∧ exec (.scanResult codes) s = .next u ∧
      (usable → 1000 ≤ span →
        told u "OK" [.num w.chan.val, .word (if w.hi then "HI" else "LO"), .num code, .num span] ∧
        u.settings = { s.settings with cal := u.settings.cal } ∧ u.settings.cal[w.chan] = new ∧
        ∀ j : Fin 9, j ≠ w.chan → u.settings.cal[j] = s.settings.cal[j]) ∧
      (usable → span < 1000 → told u "RANGE" [.num code] ∧ u.settings = s.settings) ∧
      (¬usable → told u "SENSOR" [] ∧ u.settings = s.settings)

/-- `BEAC` with a pattern sets the host pattern of the channels named and answers their resolved patterns; with `CLEAR` it
empties their sets of latched faults, lifts the forcing, restarts the mismatch time and answers how many faults there
were (R159, R160). A channel named is then commanded to its pattern's level in the present slot, and where that is a
switch-on it starts a check (R155, R160). Fields of another form are `SYNTAX` (R159). -/
def Obligations.BeacSetsAndClears : Prop :=
  (let names (x : Field) : Prop := ∃ w, x = .word w ∧ (w = "ALL" ∨ ∃ l, w = lampWord l)
   ∀ (s : State) (t : Tag),
     (∀ fs : List Field, s.ready ⟨t, .beac, fs⟩ →
       ¬(∃ x w, fs = [x, .word w] ∧ names x ∧ (w = "CLEAR" ∨ ∃ p : Pattern, w = p.word)) →
       ∃ u, exec (.beac t fs) s = .next u ∧ s.replies u t .beac "SYNTAX" []) ∧
     ∀ (x : Field) (fs : List Field), s.ready ⟨t, .beac, x :: .word "CLEAR" :: fs⟩ → ¬(names x ∧ fs = []) →
       ∃ u, exec (.beacClear t x fs) s = .next u ∧ s.replies u t .beac "SYNTAX" []) ∧
  ∀ (s : State) (t : Tag) (ls : List Lamp) (w : String),
    (w = "ALL" ∧ ls = [.b0, .b1, .b2, .b3, .snd]) ∨ (∃ l, w = lampWord l ∧ ls = [l]) →
    (∀ p : Pattern, s.ready ⟨t, .beac, [.word w, .word p.word]⟩ →
      ∃ u x : State, exec (.beac t [.word w, .word p.word]) s = .next u ∧
        x.conclude.replies u t .beac "OK" (ls.map fun l => .word (x.conclude.beac.lamps[lampIdx l]).pattern.word) ∧
        x = { s with beac := { s.beac with lamps := x.beac.lamps } } ∧
        ∀ l, x.beac.lamps[lampIdx l] =
          if l ∈ ls then { s.beac.lamps[lampIdx l] with host := p } else s.beac.lamps[lampIdx l]) ∧
    (s.ready ⟨t, .beac, [.word w, .word "CLEAR"]⟩ →
      ∃ u x : State, exec (.beacClear t (.word w) []) s = .next u ∧
        x.conclude.replies u t .beac "OK" [.num ((ls.map fun l => (s.beac.lamps[lampIdx l]).faults.length).sum : Nat)] ∧
        x = { s with beac := { s.beac with lamps := x.beac.lamps } } ∧
        (∀ l, x.beac.lamps[lampIdx l] =
          if l ∈ ls then
            { s.beac.lamps[lampIdx l] with
              openF := false, shortF := false, stuckF := false, forced := false
              compareFrom := max (s.beac.lamps[lampIdx l]).compareFrom s.now }
          else s.beac.lamps[lampIdx l]) ∧
        ∀ l ∈ ls,
          let c := x.conclude.beac.lamps[lampIdx l]
          c.level = c.pattern.on s.beac.slot ∧ c.forced = false ∧
            ((s.beac.lamps[lampIdx l]).level = false → c.level = true → c.checkAt = some (s.now + 50)))

/-- `CNTR,READ` reports a counter, `CNTR,CLEAR` zeroes its value, residue and reached flag and keeps its setup, and an index
outside 0..7 is `RANGE` (R171, R172). `CNTR,SETUP` with no record in the table replaces a counter's setup, keeps its value,
keeps its residue unless source or mode changed, clamps the threshold and decides the reached flag and derating afresh
(R169, R173). `FREEZE` and `THAW` set and clear the frozen flag (R170). -/
def Obligations.CounterRequestsAnswer : Prop :=
  (∀ (s : State) (t : Tag),
     (∀ i : Fin 8,
       (s.ready ⟨t, .cntr, [.word "READ", .num i.val]⟩ →
         ∃ u, exec (.cntrRead t [.num i.val]) s = .next u ∧
           let c := s.cnt.recs[i]
           s.replies u t .cntr "OK"
             [.num i.val, .word c.source.word, .word (if c.duration then "DURATION" else "EDGE"),
               .word (if c.load then "LOAD" else "ONE"), .word c.origin.word, .word c.side.word,
               .wnum "THM" (c.threshold / 1000000 : Nat), .wnum "THL" (c.threshold % 1000000 : Nat),
               .wnum "DERATE" (if c.derate then 1 else 0), .wnum "VALM" (c.value / 1000000 : Nat),
               .wnum "VALL" (c.value % 1000000 : Nat), .wnum "RES" c.residue, .wnum "REACHED" (if c.reached then 1 else 0),
               .wnum "FROZEN" (if s.cnt.frozen then 1 else 0)]) ∧
       (s.inv = true → s.ready ⟨t, .cntr, [.word "CLEAR", .num i.val]⟩ →
         ∃ u x : State, exec (.cntrClear t [.num i.val]) s = .next u ∧ x.replies u t .cntr "OK" [.num i.val] ∧
           x = { s with cnt := x.cnt } ∧ x.cnt.frozen = s.cnt.frozen ∧
           x.cnt.recs[i] = { s.cnt.recs[i] with value := 0, residue := 0, reached := false } ∧
           (∀ j : Fin 8, j ≠ i → x.cnt.recs[j] = s.cnt.recs[j]) ∧
           (x.cnt.derating = true ↔ ∃ j : Fin 8, j ≠ i ∧ (s.cnt.recs[j]).reached = true ∧ (s.cnt.recs[j]).derate = true))) ∧
     ∀ n : Int, ¬(0 ≤ n ∧ n ≤ 7) →
       (s.ready ⟨t, .cntr, [.word "READ", .num n]⟩ →
         ∃ u, exec (.cntrRead t [.num n]) s = .next u ∧ s.replies u t .cntr "RANGE" []) ∧
       (s.ready ⟨t, .cntr, [.word "CLEAR", .num n]⟩ →
         ∃ u, exec (.cntrClear t [.num n]) s = .next u ∧ s.replies u t .cntr "RANGE" [])) ∧
  (∀ (s : State) (t : Tag) (i : Fin 8) (src : Source) (dur load : Bool) (org : OriginFilter) (side : SideFilter)
      (m n : Int) (der : Bool),
    let fs : List Field :=
      [.num i.val, .word src.word, .word (if dur then "DURATION" else "EDGE"), .word (if load then "LOAD" else "ONE"),
        .word org.word, .word side.word, .wnum "THM" m, .wnum "THL" n, .wnum "DERATE" (if der then 1 else 0)]
    let asked := m.toNat * 1000000 + n.toNat
    let old := s.cnt.recs[i]
    let good := 0 ≤ m ∧ m ≤ 999999 ∧ 0 ≤ n ∧ n ≤ 999999 ∧ (dur = true → src = .pumpRun ∨ src = .engOffPump) ∧
      (load = true → src = .liftCyc)
    s.ready ⟨t, .cntr, .word "SETUP" :: fs⟩ →
    (¬good → ∃ u, exec (.cntrSetup t fs) s = .next u ∧ s.replies u t .cntr "RANGE" []) ∧
    (good → s.plan.records ≠ [] → ∃ u, exec (.cntrSetup t fs) s = .next u ∧ s.replies u t .cntr "BUSY" []) ∧
    (good → s.plan.records = [] →
      ∃ (u x : State) (new : Counter), exec (.cntrSetup t fs) s = .next u ∧
        x.replies u t .cntr "OK"
          ([.num i.val, .wnum "REACHED" (if new.reached then 1 else 0)] ++
            if 4294967295 < asked then [.word "CLAMPED"] else []) ∧
        new = ⟨src, dur, load, org, side, min 4294967295 asked, der, old.value,
          decide (asked ≠ 0 ∧ min 4294967295 asked ≤ old.value),
          if old.source = src ∧ old.duration = dur then old.residue else 0⟩ ∧
        (s.axis.run = none → x = { s with cnt := x.cnt, notes := x.notes }) ∧ x.cnt.recs[i] = new ∧
        (∀ j : Fin 8, j ≠ i → x.cnt.recs[j] = s.cnt.recs[j]) ∧
        (x.cnt.derating = true ↔ ∃ j : Fin 8, (x.cnt.recs[j]).reached = true ∧ (x.cnt.recs[j]).derate = true) ∧
        x.notes =
          if new.reached = true ∧ old.reached = false then s.notes.push (.service i src old.value) else s.notes)) ∧
  (∀ (s : State) (t : Tag) (k : Int) (src : Source) (dur load : Bool) (org : OriginFilter) (side : SideFilter)
      (m n d : Int),
    let fs : List Field :=
      [.num k, .word src.word, .word (if dur then "DURATION" else "EDGE"), .word (if load then "LOAD" else "ONE"),
        .word org.word, .word side.word, .wnum "THM" m, .wnum "THL" n, .wnum "DERATE" d]
    s.ready ⟨t, .cntr, .word "SETUP" :: fs⟩ → (¬(0 ≤ k ∧ k ≤ 7) ∨ ¬(0 ≤ d ∧ d ≤ 1)) →
      ∃ u, exec (.cntrSetup t fs) s = .next u ∧ s.replies u t .cntr "RANGE" []) ∧
  ∀ (s : State) (t : Tag),
    (s.ready ⟨t, .cntr, [.word "FREEZE"]⟩ →
      ∃ u, exec (.cntrFreeze t []) s = .next u ∧
        { s with cnt := { s.cnt with frozen := true } }.replies u t .cntr "OK" []) ∧
    (s.ready ⟨t, .cntr, [.word "THAW"]⟩ →
      ∃ u, exec (.cntrThaw t []) s = .next u ∧
        { s with cnt := { s.cnt with frozen := false } }.replies u t .cntr "OK" [])

/-- An event of a source that passes a counter's filters adds its amount, saturating, and gives one `SERVICE` notice when
the value first reaches the threshold; any other, or one while frozen, changes nothing (R164, R165, R167, R168, R170). The
notices of an event's crossings are queued at its close in index order, after every `ENDED` notice of the event (R168; that
they also stand after its `HELD` and `DRIVEAWAY` notices is the model's choice, log entry 35). A `DURATION` counter of an
active span counts each whole 100 ms and keeps the rest in its residue (R166; what its row does when the count has been made
already is the model's choice, log entry 38). The ending of a record hands over LIFTCYC for a `LIFT` `DONE` with a travel of
500 or more, STOWCYC for a `STOW` `DONE` that ran, DOORCYC for a door record `DONE` that entered a phase, and FAILS, with
OVERLOAD before it for that reason, with the record's origin and side and the last load of the moment (R91, R163); the end of
an upward run of a `LIFT`, by an ending or a hold, stores the load of its last pressure value as that last load (R90). -/
def Obligations.CountersCount : Prop :=
  ((∀ (c : Counter) (src : Source) (o : Option Origin) (side : Option Side) (load : Nat),
     c.valid = true →
     let passes := c.duration = false ∧ c.source = src ∧
       (c.origin = .any ∨ (c.origin = .link ∧ o = some .link) ∨ (c.origin = .station ∧ ∃ j, o = some (.station j))) ∧
       (c.side = .any ∨ (c.side = .near ∧ side = some .near) ∨ (c.side = .off ∧ side = some .off))
     let amount := if c.load = true ∧ c.source = .liftCyc then max 1 ((load + 99) / 100) else 1
     let value := min 4294967295 (c.value + amount)
     let crosses := c.value < value ∧ c.threshold ≠ 0 ∧ c.threshold ≤ value ∧ c.reached = false
     (¬passes → c.take [src] o side load = (c, none)) ∧
     (passes → crosses → c.take [src] o side load = ({ c with value := value, reached := true }, some value)) ∧
     (passes → ¬crosses → c.take [src] o side load = ({ c with value := value }, none))) ∧
   (∀ (s : State) (src : List Source) (o : Option Origin) (side : Option Side) (load : Nat),
     s.cnt.frozen = true → s.count src o side load = s) ∧
   (∀ (s : State) (src : List Source) (o : Option Origin) (side : Option Side) (load : Nat) (i : Fin 8), s.inv = true →
     s.cnt.frozen = false →
     let x := s.count src o side load
     let y := (s.cnt.recs[i]).take src o side load
     x.cnt.recs[i] = y.1 ∧ x.cnt.service[i] = y.2 ∧ x.notes = s.notes ∧
       (x.cnt.derating = true ↔ ∃ j : Fin 8, (x.cnt.recs[j]).reached = true ∧ (x.cnt.recs[j]).derate = true) ∧
       ∀ v, y.2 = some v → s.queued x.conclude (.service i (s.cnt.recs[i]).source v)) ∧
   ∀ s : State,
     let before := s.report.look.driveAway
     s.conclude.cnt.recs = before.cnt.recs ∧ (∀ i : Fin 8, s.conclude.cnt.service[i] = none) ∧
     s.conclude.notes =
       before.notes.pushAll
         ((List.finRange 8).filterMap fun i =>
           (before.cnt.service[i]).map fun v => .service i (before.cnt.recs[i]).source v)) ∧
  (∀ (s : State) (r : Record) (o : RecOutcome) (why : Option EndReason), s.find r.handle = some r →
    ∃ (m : State) (sources : List Source) (travelled : Int) (ran : Bool),
      s.endOne r.handle o why = m.count sources (some r.origin) r.side m.axis.lastLoad ∧ m.cnt = s.cnt ∧
      travelled = (match r.start, s.endPos r with | some (.value a), .value b => b - a | _, _ => 0) ∧
      (∀ side, r.side = some side → (ran = true ↔ s.holdsDoor side r.handle = true ∧ (s.door side).phase.isSome)) ∧
      (r.side = none →
        (ran = true ↔ s.holdsPack r.handle = true ∧ ∃ run, s.axis.run = some run ∧ 0 < run.runs)) ∧
      (o = .done →
        sources =
          match r.kind with
          | .lift => if 500 ≤ travelled then [.liftCyc] else []
          | .stow => if ran then [.stowCyc] else []
          | .doorOpen | .doorShut => if ran then [.doorCyc] else []
          | .tilt | .level | .unstow => []) ∧
      (o = .failed → sources = if why = some .overload then [.overload, .fails] else [.fails]) ∧
      (o = .stopped ∨ o = .cancelled → sources = []) ∧
      let runs := r.side = none ∧ s.holdsPack r.handle = true ∧ r.state = .running
      (∀ run w, runs → s.axis.run = some run → run.lift = true → run.dir = .up → run.runLoad = some w →
        m.axis.lastLoad = w) ∧
      (¬(runs ∧ ∃ run, s.axis.run = some run ∧ run.lift = true ∧ run.dir = .up) → m.axis.lastLoad = s.axis.lastLoad)) ∧
  (∀ (s : State) (h : Handle) (r : Record) (run : Run) (c : Cond), s.find h = some r → r.state = .running →
    s.axis.run = some run →
    (∀ w, run.lift = true → run.dir = .up → run.runLoad = some w → (s.hold h c).axis.lastLoad = w) ∧
    (¬(run.lift = true ∧ run.dir = .up) → (s.hold h c).axis.lastLoad = s.axis.lastLoad)) ∧
  (∀ (c : Counter) (ms : Nat), c.valid = true →
    (c.elapse ms).1.value = min 4294967295 (c.value + (c.residue + ms) / 100) ∧
    (c.elapse ms).1.residue = (c.residue + ms) % 100) ∧
  ∀ (s : State) (i : Fin 8), s.inv = true →
    (s.cnt.frozen = false → s.accrues s.cnt.recs[i] = true →
      ∃ u, exec (.durationCount i) s = .next u ∧ s.Follows u ∧ u.now = s.now + (100 - (s.cnt.recs[i]).residue) ∧
        (u.cnt.recs[i]).value = min 4294967295 ((s.cnt.recs[i]).value + 1) ∧ (u.cnt.recs[i]).residue = 0) ∧
    (s.cnt.frozen = true ∨ s.accrues s.cnt.recs[i] = false → exec (.durationCount i) s = .next s)

/-- `NOTE` takes the oldest notice, reports and zeroes the lost count, and releases ATTN with the last notice (R191, R192). Its fields
are those of the table of R190, in the words of the manual. -/
def Obligations.NoteTakesOldest : Prop :=
  ((∀ h k o why p, noticeFields (.ended h k o why p) =
      [.word "ENDED", .num h, .word k.word, .word o.word, .word (match why with | some w => w.word | none => "NONE"),
        match p with | .value n => .num n | .door d => .word d.word]) ∧
    (∀ h w, noticeFields (.held h w) = [.word "HELD", .num h, .word w.word]) ∧
    (∀ i : Fin 6, noticeFields (.halted (.station i)) = [.word "HALTED", .word "STATION", .num ((i.val : Int) + 1)]) ∧
    [Cause.linkChar, .request, .estop, .welded].map (fun c => noticeFields (.halted c)) =
      ["LINKCHAR", "REQUEST", "ESTOP", "WELDED"].map (fun w => [.word "HALTED", .word w]) ∧
    (∀ (i : Fin 6) a f, noticeFields (.station i a f) =
      [.word "STATION", .num ((i.val : Int) + 1), .num a, .word (if f then "FOUND" else "LOST")]) ∧
    (∀ n : Nat, noticeFields (.busFault n) = [.word "BUSFAULT", .num n] ∧ noticeFields (.busOk n) = [.word "BUSOK", .num n]) ∧
    (∀ l f, noticeFields (.lamp l f) = [.word "LAMP", .word (lampWord l), .word f.word]) ∧
    (∀ a b v, noticeFields (.supply a b v) = [.word "SUPPLY", .word a.word, .word b.word, .num v]) ∧
    (∀ (i : Fin 8) src (v : Nat), noticeFields (.service i src v) =
      [.word "SERVICE", .num (i.val : Nat), .word src.word, .num (v / 1000000 : Nat), .num (v % 1000000 : Nat)]) ∧
    (∀ byCount (l n : Nat), noticeFields (.linkLost byCount l n) =
      [.word "LINKLOST", .word (if byCount then "COUNT" else "TIME"), .num l, .num n]) ∧
    (∀ (v : Nat) a b z, noticeFields (.driveAway v a b z) =
      [.word "DRIVEAWAY", .num v, .word a.word, .word b.word, .num z]) ∧
    (∀ a b, noticeFields (.doorMoved .near a b) = [.word "DOORMOVED", .word "NEAR", .word a.word, .word b.word] ∧
      noticeFields (.doorMoved .off a b) = [.word "DOORMOVED", .word "OFF", .word a.word, .word b.word]) ∧
    noticeFields (.defaults .powerOn) = [.word "DEFAULTS", .word "POWERON"] ∧
    noticeFields (.defaults .pin) = [.word "DEFAULTS", .word "PIN"] ∧
    [Lamp.b0, .b1, .b2, .b3, .snd].map lampWord = ["B0", "B1", "B2", "B3", "SND"] ∧
    [LampFault.openLoad, .short, .stuck].map LampFault.word = ["OPEN", "SHORT", "STUCK"] ∧
    [SupplyState.unknown, .normal, .low, .critical].map SupplyState.word = ["UNKNOWN", "NORMAL", "LOW", "CRITICAL"] ∧
    [Source.liftCyc, .stowCyc, .doorCyc, .pumpRun, .pumpStart, .overload, .holds, .halts, .stnMiss, .fails,
        .engOffPump].map Source.word =
      ["LIFTCYC", "STOWCYC", "DOORCYC", "PUMPRUN", "PUMPSTART", "OVERLOAD", "HOLDS", "HALTS", "STNMISS", "FAILS",
        "ENGOFFPUMP"]) ∧
  ∀ (s : State) (t : Tag), s.ready ⟨t, .note, []⟩ →
    (∀ n rest, s.notes.entries = n :: rest →
      ∃ u, exec (.note t []) s = .next u ∧
        { s with notes := { entries := rest, lost := 0, attn := !rest.isEmpty } }.replies u t .note "OK"
          (noticeFields n ++ ([.wnum "LOST" s.notes.lost, .wnum "LEFT" rest.length] : List Field))) ∧
    (s.notes.entries = [] →
      ∃ u, exec (.note t []) s = .next u ∧
        { s with notes := { entries := [], lost := 0, attn := false } }.replies u t .note "OK"
          [.word "NONE", .wnum "LOST" s.notes.lost, .wnum "LEFT" 0])

/-- The names, ranges and defaults of the settings are those of the tables of R70, R112, R127 and R193. `SETV` of a plain
setting stores a value in its range, with no record in the table and no save in progress, and answers as `GETV` would; a
value outside is `RANGE`, and a record or a save is `BUSY`. A calibration end and a station entry are stored in the same way,
each by its own form; a station entry changed is marked for the next poll cycle (R112, R127, R194). Contents of another form,
and a name that is no setting, are `SYNTAX`; of a station entry so are a role, a side or authority words that R194 does not
allow, and `RANGE` is an address outside 0 to 15 or one that another entry holds (R194). That the words of an authority may
stand in any order is the model's reading, log entry 16 (DEDUCED). -/
def Obligations.SetvStores : Prop :=
  ((∀ x : Plain,
    PlainName.all.map (fun p => (p.word, x.get p, Settings.default.plain.get p, p.range)) =
      [("LEADMS", x.leadMs, 1500, (0, 5000)), ("WAITMAX", x.waitMax, 120, (10, 600)),
        ("LIFTTOP", x.liftTop, 1350, (500, 1600)), ("BEDHT", x.bedHt, 1100, (0, 1600)),
        ("SUPREQ", x.supReq, 0, (0, 1)), ("HOLDMAX", x.holdMax, 20000, (2000, 60000)),
        ("PPK", x.ppk, 8000, (1000, 25000)), ("LIMENG", x.limEng, 240, (50, 400)),
        ("LIMBAT", x.limBat, 170, (50, 400)), ("PUMPDRAW", x.pumpDraw, 150, (0, 400)),
        ("VALVDRAW", x.valvDraw, 3, (0, 50)), ("DOORDRAW", x.doorDraw, 18, (0, 100)),
        ("BATLOW", x.batLow, 2340, (2250, 2400)), ("BATCRIT", x.batCrit, 2160, (1800, 2220)),
        ("LIFTSLOW", x.liftSlow, 80, (20, 300)), ("TILTSLOW", x.tiltSlow, 30, (10, 150)),
        ("LIFTCOUP", x.liftCoUp, 12, (0, 50)), ("LIFTCODN", x.liftCoDn, 6, (0, 50)),
        ("TILTCOAS", x.tiltCoas, 4, (0, 30)), ("LIFTCREP", x.liftCrep, 2, (0, 20)),
        ("TILTCREP", x.tiltCrep, 1, (0, 10)), ("LIFTTOL", x.liftTol, 10, (2, 50)),
        ("TILTTOL", x.tiltTol, 5, (1, 30)), ("LIFTRUN", x.liftRun, 40000, (5000, 60000)),
        ("TILTRUN", x.tiltRun, 25000, (5000, 60000)), ("SETTLE", x.settle, 300, (100, 2000)),
        ("NUDGES", x.nudges, 2, (0, 2)), ("STOWANG", x.stowAng, 900, (800, 950)),
        ("LVLTRIM", x.lvlTrim, 0, (-50, 50)), ("GNDPRES", x.gndPres, 60, (0, 500)),
        ("GNDBAND", x.gndBand, 80, (0, 300)), ("PTARE", x.pTare, 380, (0, 2500)), ("KLOAD", x.kLoad, 9, (1, 200)),
        ("RATEDKG", x.ratedKg, 1000, (100, 3000)), ("DOORTIME", x.doorTime, 12000, (2000, 30000)),
        ("DOOROBS", x.doorObs, 90, (20, 300)), ("TRAILMS", x.trailMs, 3000, (0, 10000)),
        ("SNDMOVE", x.sndMove, 1, (0, 1)), ("BEACREQ", x.beacReq, 1, (0, 1))]) ∧
    (∀ p : PlainName, p ∈ PlainName.all) ∧
    (List.finRange 6).map (fun i => ((SettingName.stn i).word, Settings.default.stn[i])) =
      [("STN1", some ⟨1, .pendant ⟨true, true, true, true, true⟩⟩),
        ("STN2", some ⟨2, .platform ⟨true, false, false, false, false⟩⟩), ("STN3", some ⟨3, .keypad .near⟩),
        ("STN4", some ⟨4, .keypad .off⟩), ("STN5", some ⟨5, .cab⟩), ("STN6", none)] ∧
    (List.finRange 9).map (fun n => ((SettingName.cal n false).word, (SettingName.cal n true).word, chanRange n)) =
      [("CAL0LO", "CAL0HI", (0, 1600)), ("CAL1LO", "CAL1HI", (-150, 950)), ("CAL2LO", "CAL2HI", (-300, 300)),
        ("CAL3LO", "CAL3HI", (-300, 300)), ("CAL4LO", "CAL4HI", (0, 2500)), ("CAL5LO", "CAL5HI", (0, 3300)),
        ("CAL6LO", "CAL6HI", (0, 3000)), ("CAL7LO", "CAL7HI", (0, 300)), ("CAL8LO", "CAL8HI", (0, 300))] ∧
    (let pair (cLo vLo cHi vHi : Int) : Cal := { cLo := cLo, vLo := vLo, cHi := cHi, vHi := vHi, mark := false }
     Settings.default.cal.toList =
      [pair 400 0 3800 1400, pair 300 (-150) 3900 950, pair 248 (-300) 3848 300, pair 248 (-300) 3848 300,
        pair 410 0 3686 2500, pair 0 0 4096 3300, pair 0 0 4096 3000, pair 0 0 4096 300, pair 0 0 4096 300])) ∧
  (∀ (s : State) (t : Tag) (n : SettingName) (fs : List Field), s.ready ⟨t, .setv, .word n.word :: fs⟩ →
    (∀ why, s.settings.change n fs = .inl why →
      ∃ u, exec (.setv t (.word n.word :: fs)) s = .next u ∧ s.replies u t .setv why []) ∧
    (∀ w, s.settings.change n fs = .inr w → (s.plan.records ≠ [] ∨ s.store.save.isSome) →
      ∃ u, exec (.setv t (.word n.word :: fs)) s = .next u ∧ s.replies u t .setv "BUSY" [])) ∧
  (∀ (s : State) (t : Tag) (fs : List Field), s.ready ⟨t, .setv, fs⟩ → (∀ n : SettingName, fs.head? ≠ some (.word n.word)) →
    ∃ u, exec (.setv t fs) s = .next u ∧ s.replies u t .setv "SYNTAX" []) ∧
  (∀ (w : Settings) (fs : List Field),
    ((∀ v, fs ≠ [.num v]) → ∀ p, w.change (.plain p) fs = .inl "SYNTAX") ∧
    ((∀ code v m, fs ≠ [.num code, .num v, .num m]) → ∀ c hi, w.change (.cal c hi) fs = .inl "SYNTAX")) ∧
  (∀ (w : Settings) (i : Fin 6) (fs : List Field),
    let lifts : List Kind := [.lift, .tilt, .level, .stow, .unstow]
    let entry (a : Int) (role : Role) : Prop :=
      a ≠ 0 ∧
        ((∃ (ks : List Kind) (auth : Auth), ks.Nodup ∧ (∀ k ∈ ks, k ∈ lifts) ∧ (∀ k ∈ lifts, auth.has k = true ↔ k ∈ ks) ∧
            ((role = .pendant auth ∧ fs = [.num a, .word "PENDANT", .word "NONE"] ++ ks.map fun k => .word k.word) ∨
              (role = .platform auth ∧ fs = [.num a, .word "PLATFORM", .word "NONE"] ++ ks.map fun k => .word k.word))) ∨
          (role = .keypad .near ∧ fs = [.num a, .word "KEYPAD", .word "NEAR"]) ∨
          (role = .keypad .off ∧ fs = [.num a, .word "KEYPAD", .word "OFF"]) ∨
          (role = .cab ∧ fs = [.num a, .word "CAB", .word "NONE"]))
    let taken (a : Int) : Prop := ∃ j : Fin 6, j ≠ i ∧ ∃ e, w.stn[j] = some e ∧ (e.addr : Int) = a
    (∀ a role, entry a role → 1 ≤ a → a ≤ 15 → ¬taken a →
      w.change (.stn i) fs = .inr { w with stn := modAt w.stn i fun _ => some ⟨a.toNat, role⟩ }) ∧
    (∀ a role, entry a role → a < 1 ∨ 15 < a ∨ taken a → w.change (.stn i) fs = .inl "RANGE") ∧
    (fs ≠ [.num 0] → (∀ a role, ¬entry a role) → w.change (.stn i) fs = .inl "SYNTAX")) ∧
  (∀ (s : State) (t : Tag) (p : PlainName) (v : Int),
    let fs : List Field := [.word p.word, .num v]
    s.ready ⟨t, .setv, fs⟩ →
    (¬(p.range.1 ≤ v ∧ v ≤ p.range.2) → ∃ u, exec (.setv t fs) s = .next u ∧ s.replies u t .setv "RANGE" []) ∧
    (p.range.1 ≤ v → v ≤ p.range.2 → (s.plan.records ≠ [] ∨ s.store.save.isSome) →
      ∃ u, exec (.setv t fs) s = .next u ∧ s.replies u t .setv "BUSY" []) ∧
    (p.range.1 ≤ v → v ≤ p.range.2 → s.plan.records = [] → s.store.save = none →
      ∃ u x : State, exec (.setv t fs) s = .next u ∧ x.conclude.replies u t .setv "OK" fs ∧
        x = { s with settings := { s.settings with plain := x.settings.plain } } ∧ x.settings.plain.get p = v ∧
        (∀ q, q ≠ p → x.settings.plain.get q = s.settings.plain.get q) ∧ u.settings = x.settings)) ∧
  (∀ (s : State) (t : Tag) (n : SettingName) (fs : List Field) (w : Settings), s.ready ⟨t, .setv, .word n.word :: fs⟩ →
    s.settings.change n fs = .inr w → s.plan.records = [] → s.store.save = none →
    ∃ u x : State, exec (.setv t (.word n.word :: fs)) s = .next u ∧ u.settings = w ∧
      x.conclude.replies u t .setv "OK" (.word n.word :: w.contents n) ∧
      x = { s with settings := w, bus := { s.bus with stations := x.bus.stations } } ∧
      (∀ i : Fin 6, n ≠ .stn i → x.bus.stations[i] = s.bus.stations[i]) ∧
      ∀ i : Fin 6, n = .stn i → (x.bus.stations[i]).entry = (s.bus.stations[i]).entry ∧
        ((x.bus.stations[i]).changed = true ↔ (s.bus.stations[i]).changed = true ∨ s.settings.stn[i] ≠ w.stn[i])) ∧
  (∀ (w : Settings) (c : Fin 9) (hi : Bool) (code v m : Int),
    let new := w.cal[c].setEnd hi code v (decide (m = 1))
    w.change (.cal c hi) [.num code, .num v, .num m] =
      if 0 ≤ code ∧ code ≤ 4096 ∧ (chanRange c).1 ≤ v ∧ v ≤ (chanRange c).2 ∧ (m = 0 ∨ m = 1) ∧ new.cLo < new.cHi then
        .inr { w with cal := modAt w.cal c fun _ => new }
      else .inl "RANGE") ∧
  ∀ (w : Settings) (i : Fin 6) (a : Nat) (role : Role), 1 ≤ a → a ≤ 15 →
    (∀ j : Fin 6, j ≠ i → ∀ e, w.stn[j] = some e → e.addr ≠ a) →
    w.change (.stn i) [.num 0] = .inr { w with stn := modAt w.stn i fun _ => none } ∧
    w.change (.stn i) (entryFields (some ⟨a, role⟩)) = .inr { w with stn := modAt w.stn i fun _ => some ⟨a, role⟩ }

/-- `SAVE` is `BUSY` while a save is in progress; else a save starts with a snapshot, and the image is invalid until the save
ends (R196, R197). -/
def Obligations.SaveStarts : Prop :=
  ∀ (s : State) (t : Tag), s.ready ⟨t, .save, []⟩ →
    (s.store.save.isSome → ∃ u, exec (.save t []) s = .next u ∧ s.replies u t .save "BUSY" []) ∧
    (s.store.save = none →
      ∃ u, exec (.save t []) s = .next u ∧
        { s with
          store :=
            { s.store with
              image := { s.store.image with valid := false }
              save := some ⟨s.settings, s.cnt.recs, s.now + 400⟩ } }.replies u t .save "OK" [])

/-- A save ends with its snapshot as a valid image; a due save starts in that event (R196, R198). -/
def Obligations.SaveEnds : Prop :=
  ∀ (s : State) (w : Save), s.store.save = some w →
    ∃ u, exec .saveEnd s = .next u ∧ u.now = max s.now w.endsAt ∧ u.settings = s.settings ∧
      (s.store.due = false → u.store = { image := ⟨true, w.settings, w.counters⟩, save := none, due := false }) ∧
      (s.store.due = true →
        u.store =
          { image := ⟨false, w.settings, w.counters⟩, save := some ⟨u.settings, u.cnt.recs, u.now + 400⟩, due := false })

/-- `LINK` arms supervision once per reset, with its interval; a second one is `LOCKED`, and an interval outside 100..5000 is
`RANGE` (R185; that a taken `LINK` answers `LOCKED` whatever its number is the model's reading, log entry 15, DEDUCED).
`LIVE` with the right count restarts the timer, with 0 re-arms an expired supervision, and with a wrong count expires an
armed one: its notice says `COUNT` and how many records end, every link record ends and every station record stays (R24,
R186, R187). -/
def Obligations.SupervisionAnswers : Prop :=
  (∀ (s : State) (t : Tag) (n : Int), s.ready ⟨t, .link, [.num n]⟩ →
     (s.link.sup.taken = true → ∃ u, exec (.link t [.num n]) s = .next u ∧ s.replies u t .link "LOCKED" []) ∧
     (s.link.sup.taken = false → ¬(100 ≤ n ∧ n ≤ 5000) →
       ∃ u, exec (.link t [.num n]) s = .next u ∧ s.replies u t .link "RANGE" []) ∧
     (s.link.sup.taken = false → 100 ≤ n → n ≤ 5000 →
       ∃ u, exec (.link t [.num n]) s = .next u ∧
         { s with link := { s.link with sup := ⟨.armed, some n.toNat, 0, some (s.now + n.toNat), true⟩ } }.replies
           u t .link "OK" [.num n])) ∧
  ∀ (s : State) (t : Tag) (n : Int), s.ready ⟨t, .live, [.num n]⟩ →
    let v := s.link.sup
    let went (u : State) (live : Nat) : Prop :=
      { s with
        link :=
          { s.link with
            sup := { v with state := .armed, interval := some (v.interval.getD 0), live := live
                            deadline := some (s.now + v.interval.getD 0) } } }.replies u t .live "OK" [.num live]
    (¬(0 ≤ n ∧ n ≤ 99) → ∃ u, exec (.live t [.num n]) s = .next u ∧ s.replies u t .live "RANGE" []) ∧
    (0 ≤ n → n ≤ 99 →
      (v.state = .off → ∃ u, exec (.live t [.num n]) s = .next u ∧ s.replies u t .live "NOTARMED" []) ∧
      (v.state = .armed → n.toNat = (v.live + 1) % 100 → ∃ u, exec (.live t [.num n]) s = .next u ∧ went u n.toNat) ∧
      (v.state = .armed → n.toNat ≠ (v.live + 1) % 100 →
        ∃ u x : State, exec (.live t [.num n]) s = .next u ∧
          x.conclude.replies u t .live "EXPIRED" [.num ((v.live + 1) % 100 : Nat)] ∧ x.link.sup.state = .expired ∧
          x.link.sup.deadline = none ∧ x.link.counts.expiry = min 65535 (s.link.counts.expiry + 1) ∧
          (s.plan.handlesGood = true → s.sound = true →
            s.queued x (.linkLost true v.live (s.plan.records.length - x.plan.records.length)) ∧
            (∀ r ∈ x.plan.records, r.origin ≠ .link) ∧
            (∀ r ∈ s.plan.records, r.origin ≠ .link →
              ∃ y ∈ x.plan.records, y = { r with flags := { r.flags with derated := y.flags.derated } }) ∧
            ∀ r ∈ s.plan.records, r.origin = .link → ∃ p,
              s.queued x
                (.ended r.handle r.kind (if r.state.granted then .failed else .cancelled) (some .linkLost) p))) ∧
      (v.state = .expired → n = 0 → ∃ u, exec (.live t [.num n]) s = .next u ∧ went u 0) ∧
      (v.state = .expired → n ≠ 0 → ∃ u, exec (.live t [.num n]) s = .next u ∧ s.replies u t .live "EXPIRED" []))

/-- The supervision timer passes: supervision is expired, its notice says `TIME`, every link record ends, and every station
record stays in the table as it is (R24, R187); a counter that crosses its threshold in the event may flag one that runs
`DERATED` (R76, R169). -/
def Obligations.SupervisionExpires : Prop :=
  ∀ (s : State) (t0 : Nat), s.plan.handlesGood = true → s.sound = true → s.link.sup.state = .armed →
    s.link.sup.deadline = some t0 →
    ∃ x : State, exec .supervisionTimerExpiry s = .next x.conclude ∧ x.now = max s.now t0 ∧
      x.link =
        { s.link with
          sup := { s.link.sup with state := .expired, deadline := none }
          counts := { s.link.counts with expiry := min 65535 (s.link.counts.expiry + 1) } } ∧
      s.queued x (.linkLost false s.link.sup.live (s.plan.records.length - x.plan.records.length)) ∧
      (∀ r ∈ x.plan.records, r.origin ≠ .link) ∧
      (∀ r ∈ s.plan.records, r.origin ≠ .link →
        ∃ y ∈ x.plan.records, y = { r with flags := { r.flags with derated := y.flags.derated } }) ∧
      ∀ r ∈ s.plan.records, r.origin = .link → ∃ p,
        s.queued x
          (.ended r.handle r.kind (if r.state.granted then .failed else .cancelled) (some .linkLost) p)

/-! ### The timers of the records -/

/-- A record whose wait has passed `WAITMAX`, from 1 ms past it (log entry 3, DEDUCED), ends `CANCELLED` for `STALE` (R12),
and one held for `HOLDMAX` ends `FAILED` for `HOLDEXP` with its resource freed (R46). A report for a record in no such state
is ignored (R14). -/
def Obligations.WaitAndHoldLimitsEnd : Prop :=
  ∀ (s : State) (h : Handle),
    (∀ r t0, s.find h = some r → r.state = .blocked ∨ r.state = .waiting → r.waitFrom = some t0 →
      ∃ x : State, exec (.waitLimitExpiry h) s = .next x.conclude ∧ s.Ends x r .cancelled (some .stale) ∧
        x.now = max s.now (t0 + s.settings.plain.waitMax.toNat * 1000 + 1)) ∧
    (∀ r t0, s.sound = true → s.find h = some r → r.state = .holding → r.holdFrom = some t0 →
      ∃ x : State, exec (.holdTimerExpiry h) s = .next x.conclude ∧ s.Ends x r .failed (some .holdExp) ∧ x.packFree ∧
        x.now = max s.now (t0 + s.settings.plain.holdMax.toNat)) ∧
    (s.find h = none → exec (.waitLimitExpiry h) s = .next s ∧ exec (.holdTimerExpiry h) s = .next s ∧
      exec (.leadTimeExpiry h) s = .next s) ∧
    ∀ r, s.find h = some r →
      (r.state ≠ .blocked → r.state ≠ .waiting → exec (.waitLimitExpiry h) s = .next s) ∧
      (r.state ≠ .holding → exec (.holdTimerExpiry h) s = .next s) ∧
      (r.state ≠ .lead → exec (.leadTimeExpiry h) s = .next s)

/-- At the end of its lead time a record holds for the first false PAUSE-class condition, or waits for pump rest, or runs
(R10); a run begins with the outputs of its axis, direction and class, and the contactor making for a pump-driven one
(R56, R74, R77). However a run begins, its kind, class (R75), coast (R78), stall mark (R84) and timers are chosen then. A
run is CREEP for a nudge, the creep option, a remaining distance within the slow zone, or a pump-driven run with derating
active, which flags the record `DERATED` (R76). That where the run's own `PUMPSTART` event makes derating active a run begun
in CREEP is not flagged is the model's choice, log entry 46 (DESIGN CHOICE), and so is that its overload time does not begin
with the run, log entry 41. The outputs of each axis, direction and class are those of the table of R77. -/
def Obligations.LeadEnds : Prop :=
  (∀ (s : State) (h : Handle) (r : Record) (t0 : Nat), s.sound = true → s.find h = some r → r.state = .lead →
    r.leadEnd = some t0 →
    ∃ (x : State) (y : Record), exec (.leadTimeExpiry h) s = .next x.conclude ∧ s.Follows x.conclude ∧
      x.now = max s.now t0 ∧ x.find h = some y ∧ y.leadEnd = none ∧
      (∀ c, s.pauseLost r = some c →
        y.state = .holding ∧ y.wait = some (.cond c) ∧ y.holds = min 255 (r.holds + 1) ∧ y.holdFrom = some x.now ∧
          s.queued x (.held h (.cond c)) ∧ x.axis.valves = .off ∧ x.arb.contactor = .opened) ∧
      (s.pauseLost r = none → s.pumpOf r = true → s.resting = true →
        y.state = .lead ∧ y.wait = some .rest ∧ x.axis.valves = .off ∧ x.arb.contactor = .opened) ∧
      (s.pauseLost r = none → (s.pumpOf r = false ∨ s.resting = false) →
        y.state = .running ∧ y.wait = none ∧
          ∃ old new cls, s.axis.run = some old ∧ x.axis.run = some new ∧ new.cls = some cls ∧
            new.runKind = some (if old.nudgeDue = true ∨ old.lastRun = some .nudge then .nudge else .ordinary) ∧
            new.target = old.target ∧ new.dir = old.dir ∧ new.runs = old.runs + 1 ∧ new.runFrom = x.now ∧
            x.axis.valves = valvesFor old.lift old.dir (some cls) ∧
            x = (s.passTo t0).enterRunning h ∧
            x.arb.contactor = if old.pump then .making else .opened)) ∧
  (∀ (s : State) (h : Handle) (r : Record) (old : Run), s.find h = some r → s.axis.run = some old → s.holdsPack h = true →
    let x := s.enterRunning h
    let p := s.settings.plain
    let pos := s.reported r.kind.axisChan
    let nudge := old.nudgeDue || old.lastRun == some .nudge
    let kind : RunKind := if nudge then .nudge else .ordinary
    let rem := match old.dir with | .up => old.target - pos | .down => pos - old.target
    let slow := nudge = true ∨ r.creep = true ∨ rem ≤ (if old.lift then p.liftSlow else p.tiltSlow)
    let low := s.chanOk 4 = true ∧ ∃ v, s.chanValue 4 = some v ∧ v < p.gndPres
    ∃ (y : Record) (new : Run) (cls : SpeedClass) (derated : Bool), x.find h = some y ∧ x.axis.run = some new ∧
      y =
        { r with
          state := .running, wait := none, leadEnd := none, holdFrom := none
          nudges := if old.nudgeDue then r.nudges + 1 else r.nudges, flags := { r.flags with derated := derated } } ∧
      new =
        { old with
          runKind := some kind, lastRun := some kind, cls := some cls
          coast :=
            match old.lift, old.dir with
            | true, .up => if nudge then p.liftCrep else p.liftCoUp
            | true, .down => if nudge then p.liftCrep else p.liftCoDn
            | false, .up | false, .down => if nudge then p.tiltCrep else p.tiltCoas
          runFrom := s.now, markPos := pos, markAt := s.now, groundSince := new.groundSince, overSince := none
          settleEnd := none, nudgeDue := false, runs := old.runs + 1, runLoad := none } ∧
      (old.lift = true ∧ old.dir = .down ∧ low → new.groundSince = some s.now) ∧
      (¬(old.lift = true ∧ old.dir = .down ∧ low) → new.groundSince = none) ∧
      x.axis.valves = valvesFor old.lift old.dir (some cls) ∧ x.beac = { s.beac with rearTrail := none } ∧
      x.arb =
        (if old.pump then
          { s.arb with
            contactor := .making, contactorAt := s.now, fbOpenSince := none, overSince := none, spanOrigin := some r.origin }
        else s.arb) ∧
      (s.inv = true →
        (cls = .creep ↔ slow ∨ (old.pump = true ∧ x.cnt.derating = true)) ∧
        (derated = true ↔ r.flags.derated = true ∨
          (old.pump = true ∧ x.cnt.derating = true ∧ (s.cnt.derating = true ∨ ¬slow))))) ∧
  (let outs (raise lFast lSlow up tFast tSlow speed : Bool) : Valves := ⟨raise, lFast, lSlow, up, tFast, tSlow, speed⟩
   valvesFor true .up (some .fast) = outs true false false false false false true ∧
     valvesFor true .up (some .creep) = outs true false false false false false false ∧
     valvesFor true .down (some .fast) = outs false true false false false false false ∧
     valvesFor true .down (some .creep) = outs false false true false false false false ∧
     valvesFor false .up (some .fast) = outs false false false true false false true ∧
     valvesFor false .up (some .creep) = outs false false false true false false false ∧
     valvesFor false .down (some .fast) = outs false false false false true false false ∧
     valvesFor false .down (some .creep) = outs false false false false false true false ∧
     ∀ lift dir, valvesFor lift dir none = outs false false false false false false false)

/-- The judgement when the settle timer passes (R81, R82): within the tolerance `DONE`, past the target `DONE` with the flag
`OVERSHOT`, short with nudges left a nudge, short with none left `FAILED` for `SHORT`. -/
def Obligations.SettleJudges : Prop :=
  ∀ (s : State) (r : Record) (run : Run) (t0 : Nat), s.sound = true → s.packRecord = some r → s.axis.run = some run →
    r.state = .settling → run.settleEnd = some t0 →
    let pos := s.reported r.kind.axisChan
    let short : Int := match run.dir with | .up => run.target - pos | .down => pos - run.target
    let tol := if run.lift then s.settings.plain.liftTol else s.settings.plain.tiltTol
    ∃ x : State, exec .settleTimerExpiry s = .next x.conclude ∧ x.now = max s.now t0 ∧
      (-tol ≤ short → short ≤ tol → s.Ends x r .done none ∧ x.packFree) ∧
      (short < -tol → short ≤ tol → s.Ends x r .done none ∧ x.packFree ∧
        ∃ y rest, x.plan.recent = y :: rest ∧ y.handle = r.handle ∧ y.flags.overshot = true) ∧
      (-tol ≤ short → tol < short → s.settings.plain.nudges ≤ r.nudges →
        s.Ends x r .failed (some .short) ∧ x.packFree) ∧
      (-tol ≤ short → tol < short → (r.nudges : Int) < s.settings.plain.nudges →
        ∃ y new, x.find r.handle = some y ∧ x.axis.run = some new ∧
          (∀ c, s.pauseLost r = some c → y.state = .holding ∧ y.wait = some (.cond c) ∧ new.nudgeDue = true) ∧
          (s.pauseLost r = none → s.pumpOf r = true → s.resting = true →
            y.state = .settling ∧ y.wait = some .rest ∧ new.nudgeDue = true) ∧
          (s.pauseLost r = none → (s.pumpOf r = false ∨ s.resting = false) →
            y.state = .running ∧ y.nudges = r.nudges + 1 ∧ new.runKind = some .nudge ∧ new.cls = some .creep ∧
              new.nudgeDue = false ∧ new.coast = if run.lift then s.settings.plain.liftCrep else s.settings.plain.tiltCrep))

/-- What ends a run by failure: a stall (R84), the run limit (R85; 1 ms past it, log entry 3, DEDUCED), a ground touch away
from the ground (R86), an overload (R89). A `LIFT` down to 0 that grounds within `GNDBAND` ends `DONE` with the flag `GROUND`
(R86). The pack is freed and pump rest starts for a pump-driven run (R60). -/
def Obligations.DriveFaultsEnd : Prop :=
  ∀ (s : State) (r : Record) (run : Run), s.sound = true → s.packRecord = some r → s.axis.run = some run →
    r.state = .running →
    let freed (x : State) (t0 : Nat) : Prop :=
      x.packFree ∧ x.now = max s.now t0 ∧ (run.pump = true → x.arb.restUntil = some (x.now + 500))
    (∃ x : State, exec .stall s = .next x.conclude ∧ s.Ends x r .failed (some .stall) ∧ freed x (run.markAt + 1500)) ∧
    (∃ x : State, exec .runLimitTimeout s = .next x.conclude ∧ s.Ends x r .failed (some .timeout) ∧
      freed x
        (run.runFrom + ((if run.lift then s.settings.plain.liftRun else s.settings.plain.tiltRun).toNat - run.runAcc) +
          1)) ∧
    (∀ t0, run.groundSince = some t0 →
      ∃ x : State, exec .groundTimeExpiry s = .next x.conclude ∧ freed x (t0 + 200) ∧
        (run.target = 0 → s.reported 0 ≤ s.settings.plain.gndBand → s.Ends x r .done none ∧
          ∃ y rest, x.plan.recent = y :: rest ∧ y.handle = r.handle ∧ y.flags.ground = true) ∧
        (¬(run.target = 0 ∧ s.reported 0 ≤ s.settings.plain.gndBand) → s.Ends x r .failed (some .obstruct))) ∧
    ∀ t0, run.overSince = some t0 →
      ∃ x : State, exec .overload s = .next x.conclude ∧ s.Ends x r .failed (some .overload) ∧ freed x (t0 + 300)

/-! ### The contactor, pump rest and the supply -/

/-- `CONTACTOR_MADE` takes a making contactor to MADE; a make timeout (150 ms), a dropout (150 ms open) and an overcurrent
(500 ms) fail the holder and free the pack; pump rest passes (R57, R58, R60, R61). With the contactor MAKING or MADE and CH6
OK, a scan's pump current above 280.0 A runs the overcurrent time; any other value, a channel that is not OK and an OPEN
contactor set it back (R61). -/
def Obligations.ContactorEvents : Prop :=
  ∀ s : State,
    (s.arb.contactor = .making →
      exec .contactorMade s =
        .next
          { s with
            arb := { s.arb with contactor := .made, fbOpenSince := none }, inputs := { s.inputs with pumpFb := true } }) ∧
    (s.arb.contactor ≠ .making → exec .contactorMade s = .next s ∧ exec .contactorMakeTimeout s = .next s) ∧
    (∀ r, s.sound = true → s.packRecord = some r →
      (s.arb.contactor = .making →
        ∃ x : State, exec .contactorMakeTimeout s = .next x.conclude ∧ s.Ends x r .failed (some .contactor) ∧
          x.packFree ∧ x.now = max s.now (s.arb.contactorAt + 150)) ∧
      (∀ t0, s.arb.contactor = .made → s.arb.fbOpenSince = some t0 →
        ∃ x : State, exec .contactorDropout s = .next x.conclude ∧ s.Ends x r .failed (some .contactor) ∧ x.packFree ∧
          x.now = max s.now (t0 + 150)) ∧
      (∀ t0, s.arb.contactor ≠ .opened → s.arb.overSince = some t0 →
        ∃ x : State, exec .pumpOvercurrent s = .next x.conclude ∧ s.Ends x r .failed (some .pumpOc) ∧ x.packFree ∧
          x.now = max s.now (t0 + 500))) ∧
    (s.sound = true → s.arb.contactor ≠ .opened → ∃ r, s.packRecord = some r) ∧
    s.pumpScan =
      { s with
        arb := { s.arb with
          overSince :=
            if (s.conv.chans[(6 : Fin 9)]).status = .ok ∧ s.arb.contactor ≠ .opened ∧ 2800 < s.reported 6 then
              some (s.arb.overSince.getD s.now)
            else none } } ∧
    ∀ t0, s.arb.restUntil = some t0 →
      ∃ x : State, exec .pumpRestPassed s = .next x.conclude ∧ x.arb.restUntil = none ∧ x.now = max s.now t0 ∧
        s.Follows x.conclude ∧ x.plan.records.map (·.state) = s.plan.records.map (·.state)

/-- The supply state changes when a window out of it has run its length: 2000 ms below `BATLOW` with the engine off, 500 ms
below `BATCRIT`, 2000 ms at 24.20 V, 1000 ms at 22.40 V; each change queues its `SUPPLY` notice (R64, R65). A scan's voltage
runs each window of the state while its test holds and sets it back when it fails; with CH5 not OK every window is set back
and the state is kept (R64, R66); an engine counted started sets the window from NORMAL to LOW back (R64). The first value
of CH5 leads out of UNKNOWN, whatever the engine, with its notice (R63, R65). -/
def Obligations.SupplyStateChanges : Prop :=
  ∀ s : State,
    let goes (new : SupplyState) (t0 : Nat) : Prop :=
      ∃ x : State, exec .supplyStateChange s = .next x.conclude ∧ x.supply.state = new ∧ x.now = max s.now t0 ∧
        s.queued x (.supply s.supply.state new (s.reported 5)) ∧ x.conclude.settings = s.settings ∧
        x.conclude.conv = s.conv ∧ x.conclude.link = s.link ∧ x.conclude.inputs = s.inputs ∧ x.conclude.halt = s.halt
    let window (test : Prop) [Decidable test] (since : Option Nat) : Option Nat :=
      if test then some (since.getD s.now) else none
    let p := s.settings.plain
    let u := s.supply
    ((s.conv.chans[(5 : Fin 9)]).status ≠ .ok → s.supplyScan = { s with supply := ⟨u.state, none, none, none⟩ }) ∧
    (∀ v, (s.conv.chans[(5 : Fin 9)]).status = .ok → (s.conv.chans[(5 : Fin 9)]).value = some v →
      (u.state = .normal →
        s.supplyScan =
          { s with
            supply :=
              ⟨.normal, window (v < p.batLow ∧ s.inputs.engine.counted ≠ some true) u.low, window (v < p.batCrit) u.crit,
                none⟩ }) ∧
      (u.state = .low →
        s.supplyScan = { s with supply := ⟨.low, none, window (v < p.batCrit) u.crit, window (2420 ≤ v) u.up⟩ }) ∧
      (u.state = .critical → s.supplyScan = { s with supply := ⟨.critical, none, none, window (2240 ≤ v) u.up⟩ }) ∧
      (u.state = .unknown →
        let new : SupplyState := if v < p.batCrit then .critical else if v < p.batLow then .low else .normal
        ∃ w : Supply, w.state = new ∧
          s.supplyScan = { s with supply := w, notes := s.notes.push (.supply .unknown new v) })) ∧
    (s.inputs.engine.raw = true → s.inputs.engine.counted ≠ some true →
      ∃ x : State, exec (.inputCountedChange [.engine]) s = .next x.conclude ∧ x.inputs.engine.counted = some true ∧
        x.supply = { u with low := none }) ∧
    (∀ c, s.supply.state = .normal → s.supply.crit = some c → (∀ l, s.supply.low = some l → c + 500 ≤ l + 2000) →
      goes .critical (c + 500)) ∧
    (∀ l, s.supply.state = .normal → s.supply.low = some l → (∀ c, s.supply.crit = some c → l + 2000 < c + 500) →
      goes .low (l + 2000)) ∧
    (∀ c, s.supply.state = .low → s.supply.crit = some c → (∀ u, s.supply.up = some u → c + 500 ≤ u + 2000) →
      goes .critical (c + 500)) ∧
    (∀ u, s.supply.state = .low → s.supply.up = some u → (∀ c, s.supply.crit = some c → u + 2000 < c + 500) →
      goes .normal (u + 2000)) ∧
    (∀ u, s.supply.state = .critical → s.supply.up = some u → goes .low (u + 1000)) ∧
    (s.supply.state = .unknown → exec .supplyStateChange s = .next s)

/-! ### The inputs -/

/-- A raw sample of a debounced input changes its sampled level and the time it is steady from, and counts nothing; a
counted change takes the sampled level of every input named that has a new one, at the end of the last debounce (R31; that
one command names the inputs counted together, and leaves those with no new level, is the model's choice, log entry 23).
Every event then reports the conditions (R36, R37) to the records in admission order (R35): a granted record that has lost a
STOP-class one ends `FAILED` for it (R41), a running one that has lost a PAUSE-class one goes to `HOLDING` with its `HELD`
notice (R42), one in `LEAD` does so for `SUPPLY` and `OILOK` alone (R43), one in `SETTLING` only while it waits for pump rest
(R44), a held one resumes when all are true and the rest has passed (R45), and a waiting one moves between `BLOCKED` and
`WAITING` (R8, R40; so a door record in `WAITING` too, where R106 lists the loss of PARKED or ROLLOK among what ends it: the
model's choice, log entry 50, DESIGN CHOICE); by the classes of R38. That the bounds of BODYLVL and ROLLOK belong to their ranges is the model's
reading, log entry 10 (DEDUCED). A counted change of MASTER from active to inactive starts a save of the settings and
counters, and the image is invalid until it ends; with a save in progress it marks one due (R196, R198); that its snapshot is
taken before the endings at the event's close is the model's choice, log entry 36 (DESIGN CHOICE). -/
def Obligations.InputsCount : Prop :=
  ((∀ s : State, s.report = (s.plan.records.map fun r => r.handle).foldl (fun t h => t.judge h) s) ∧
   (∀ (s : State) (h : Handle) (r : Record), s.sound = true → s.find h = some r →
     let x := s.judge h
     let first (cs : List Cond) : Option Cond := cs.find? fun c => !s.holds r c
     let pauses := r.kind.pauseClass (s.pumpOf r)
     let stop := first r.kind.stopClass
     let pause := first (pauses.filter fun c => !(c == .hold && r.origin != .link))
     let rests := s.pumpOf r = true ∧ s.resting = true
     let held (c : Cond) : Prop :=
       ∃ y, x.find h = some y ∧ y.state = .holding ∧ y.wait = some (.cond c) ∧ y.holds = min 255 (r.holds + 1) ∧
         y.holdFrom = some s.now ∧ s.queued x (.held h (.cond c)) ∧ x.axis.valves = .off ∧ x.arb.contactor = .opened
     let runs : Prop :=
       x = s.enterRunning h ∧
       ∃ y run, x.find h = some y ∧ y.state = .running ∧ y.wait = none ∧ x.axis.run = some run ∧ run.cls.isSome ∧
         x.arb.contactor = if run.pump then .making else .opened
     let waits (st : RecState) (w : Option WaitReason) : Prop :=
       x = { s with plan := x.plan } ∧ ∃ y, x.find h = some y ∧ y.state = st ∧ (w.isSome → y.wait = w)
     (r.state = .pending → x = s) ∧
     (r.state = .blocked ∨ r.state = .waiting →
       match first (Cond.all.filter fun c => c ∈ r.kind.stopClass ++ pauses) with
       | some c => waits .blocked (some (.cond c))
       | none => waits .waiting none) ∧
     (∀ c, r.state.granted = true → stop = some c →
       s.Ends x r .failed (some (.cond c)) ∧ (r.side = none → x.packFree) ∧ ∀ side, r.side = some side → x.doorFree side) ∧
     (stop = none →
       (r.state = .running → (pause = none → x = s) ∧ ∀ c, pause = some c → held c) ∧
       (r.state = .lead → (∀ c, first (pauses.filter fun c => c != .hold) = some c → held c) ∧
         (first (pauses.filter fun c => c != .hold) = none → ¬(r.wait = some .rest ∧ s.resting = false) → x = s)) ∧
       (r.state = .settling → r.wait ≠ some .rest → x = s) ∧
       (r.state = .settling ∧ r.wait = some .rest ∨ r.state = .lead ∧ r.wait = some .rest ∧ s.resting = false ∧
           first (pauses.filter fun c => c != .hold) = none →
         (∀ c, pause = some c → held c) ∧ (pause = none → rests → waits r.state (some .rest)) ∧
         (pause = none → ¬rests → runs)) ∧
       (r.state = .holding →
         (∀ c, pause = some c → waits .holding (some (.cond c))) ∧ (pause = none → rests → waits .holding (some .rest)) ∧
         (pause = none → ¬rests → runs)))) ∧
   (∀ pump : Bool,
     let supplied := if pump then [Cond.supply, .oilOk, .hold] else [.hold]
     [Kind.lift, .tilt, .level, .stow, .unstow, .doorOpen, .doorShut].map (fun k => (k.stopClass, k.pauseClass pump)) =
       [([.parked, .master, .calib, .liftSns, .presSns, .notStowed, .beaconOk], supplied),
         ([.parked, .master, .calib, .tiltSns, .notStowed, .beaconOk], supplied),
         ([.parked, .master, .calib, .tiltSns, .inclSns, .notStowed, .bodyLvl, .beaconOk], supplied),
         ([.parked, .master, .calib, .liftSns, .tiltSns, .atBed, .beaconOk], [.supply, .oilOk, .hold]),
         ([.parked, .master, .calib, .liftSns, .tiltSns, .atBed, .beaconOk], [.hold]),
         ([.parked, .rollOk], []), ([], [])]) ∧
   ∀ (s : State) (r : Record),
     let ok (n : Fin 9) : Prop := (s.conv.chans[n]).status = .ok
     let reads (v : Option Int) (lo hi : Int) : Prop := ∃ x, v = some x ∧ lo ≤ x ∧ x ≤ hi
     let paired (n : Fin 9) : Prop := (s.settings.cal[n]).mark = true ∧ 1000 ≤ (s.settings.cal[n]).cHi - (s.settings.cal[n]).cLo
     let sound (n : Fin 5) : Prop :=
       (s.beac.lamps[n]).openF = false ∧ (s.beac.lamps[n]).shortF = false ∧ (s.beac.lamps[n]).stuckF = false
     let bed := s.settings.plain.bedHt
     (s.holds r .parked = true ↔ s.inputs.park.counted = some true ∧ ∃ v, s.eval.speed = some v ∧ v < 20) ∧
     (s.holds r .master = true ↔ s.inputs.master.counted = some true) ∧
     (s.holds r .calib = true ↔ paired 0 ∧ paired 1) ∧
     (s.holds r .liftSns = true ↔ ok 0) ∧ (s.holds r .tiltSns = true ↔ ok 1) ∧ (s.holds r .presSns = true ↔ ok 4) ∧
     (s.holds r .inclSns = true ↔ ok 2 ∧ ok 3 ∧ s.conv.pitchF.isSome ∧ s.conv.rollF.isSome) ∧
     (s.holds r .notStowed = true ↔ ok 1 ∧ ∃ v, (s.conv.chans[(1 : Fin 9)]).value = some v ∧ v < 800) ∧
     (s.holds r .atBed = true ↔ ok 0 ∧ reads (s.conv.chans[(0 : Fin 9)]).value (bed - 30) (bed + 30)) ∧
     (s.holds r .bodyLvl = true ↔ ok 2 ∧ reads s.pitch (-120) 120) ∧
     (s.holds r .rollOk = true ↔ ok 3 ∧ reads s.roll (-80) 80) ∧
     (s.holds r .beaconOk = true ↔ sound 0 ∨ sound 1 ∨ s.settings.plain.beacReq = 0) ∧
     (s.holds r .supply = true ↔ s.supply.state = .normal ∨ s.supply.state = .low) ∧
     (s.holds r .oilOk = true ↔ s.inputs.oilhot.counted = some false) ∧
     (r.origin = .link → (s.holds r .hold = true ↔
       ∃ (i : Fin 6) (e : StationCfg) (a : Auth), (s.bus.stations[i]).entry = some e ∧
         (e.role = .pendant a ∨ e.role = .platform a) ∧ a.has r.kind = true ∧ (s.bus.stations[i]).state = .present ∧
         ((s.bus.stations[i]).keys[(1 : Fin 6)]).pressed = true)) ∧
     ∀ i k, r.origin = .station i → r.key = some k →
       (s.holds r .hold = true ↔
         ((s.bus.stations[i]).keys[k]).pressed = true ∧ ((s.bus.stations[i]).keys[(1 : Fin 6)]).pressed = true)) ∧
  (∀ (s : State) (d : DInput) (level : Bool),
    ∃ x : State, exec (.inputRawChange (.debounced d) level) s = .next x.conclude ∧ x = { s with inputs := x.inputs } ∧
      (x.inputs.get d).raw = level ∧ (x.inputs.get d).counted = (s.inputs.get d).counted ∧
      (x.inputs.get d).since = (if (s.inputs.get d).raw = level then (s.inputs.get d).since else s.now) ∧
      (∀ e, e ≠ d → x.inputs.get e = s.inputs.get e) ∧ x.inputs.estopCounted = s.inputs.estopCounted) ∧
  ∀ (s : State) (ins : List DInput),
    let new (d : DInput) : Prop := (s.inputs.get d).counted ≠ some (s.inputs.get d).raw
    ((∀ d ∈ ins, ¬new d) → exec (.inputCountedChange ins) s = .next s) ∧
    ((∃ d ∈ ins, new d) →
      ∃ x : State, exec (.inputCountedChange ins) s = .next x.conclude ∧
        (∀ d ∈ ins, x.inputs.get d = { s.inputs.get d with counted := some (s.inputs.get d).raw }) ∧
        (∀ d, d ∉ ins → x.inputs.get d = s.inputs.get d) ∧
        (∀ d ∈ ins, new d → (s.inputs.get d).since + (if d = .engine then 500 else 30) ≤ x.now) ∧ s.now ≤ x.now ∧
        (∀ last, s.now ≤ last → (∀ d ∈ ins, new d → (s.inputs.get d).since + (if d = .engine then 500 else 30) ≤ last) →
          x.now ≤ last) ∧
        x.link = s.link ∧ x.conv = s.conv ∧ x.bus = s.bus ∧ x.settings = s.settings ∧ x.halt = s.halt ∧
        (s.inputs.master.counted = some true → x.inputs.master.counted = some false → s.store.save = none →
          x.store.save = some ⟨s.settings, x.cnt.recs, x.now + 400⟩ ∧ x.store.image.valid = false) ∧
        (s.inputs.master.counted = some true → x.inputs.master.counted = some false → s.store.save.isSome →
          x.store = { s.store with due := true }) ∧
        (¬(s.inputs.master.counted = some true ∧ x.inputs.master.counted = some false) → x.store = s.store))

/-- With no record driving a door its state is derived from its switches, from all of them at once, and a change from a state
other than UNKNOWN is noted (R94, R108). A granted door record begins in the phase that the state it finds calls for, or
ends at once: `DONE` when the door is already there, `FAILED` for `SWITCHES` from a state it cannot start from (R96,
R97). A phase that begins drops the trail of its side (R151). Switches counted in one event reach the door together. In a
phase the combination decides (R98 to R101, and R104 for the OPEN switch in `REVERSE`): the phase goes on, gives way to
`OPENING` or `PULLIN` with the outputs of that phase (R95), or ends the record; and a FAULT combination ends it `FAILED` for
`SWITCHES` in every phase but `REVERSE` (R102). Every ending takes the derived state as the final position (R107); that it
does so where the OPEN switch ends `REVERSE` too, for which R104 names OPEN, is the model's reading, log entry 27 (DEDUCED). -/
def Obligations.DoorFollowsAndBegins : Prop :=
  ((∀ c l o : Bool,
     doorOf c l o =
       match c, l, o with
       | true, true, false => .shut
       | true, false, false => .closed
       | false, false, true => .opened
       | false, false, false => .ajar
       | _, _, _ => .fault) ∧
   ∀ (s : State) (side : Side) (back : Bool), (s.door side).phase = none →
     ((s.doorSwitched side back).door side).state = s.derived side ∧
     (s.doorSwitched side back).notes =
       if (s.door side).state = s.derived side ∨ (s.door side).state = .unknown then s.notes
       else s.notes.push (.doorMoved side (s.door side).state (s.derived side))) ∧
  (∀ (s : State) (side : Side) (ins : List DInput), (∀ d ∈ ins, ∃ sw, d = .door side sw) →
    (∃ d ∈ ins, (s.inputs.get d).counted ≠ some (s.inputs.get d).raw) →
    ∃ b : State, b = { s.passTo b.now with inputs := b.inputs } ∧
      (∀ d ∈ ins, b.inputs.get d = { s.inputs.get d with counted := some (s.inputs.get d).raw }) ∧
      (∀ d, d ∉ ins → b.inputs.get d = s.inputs.get d) ∧
      let back :=
        decide ((b.inputs.switches side).opened.counted = some true ∧ (s.inputs.switches side).opened.counted ≠ some true)
      exec (.inputCountedChange ins) s = .next (b.doorSwitched side back).conclude) ∧
  (∀ (s : State) (side : Side) (back : Bool) (p : Phase), (s.door side).phase = some p →
    let x := s.doorSwitched side back
    let c := s.derived side
    let enters (q : Phase) (opens closes : Bool) : Prop :=
      let d : Door := ⟨.moving, some q, s.now, none, opens, closes, false⟩
      x = match side with
        | .near => { s with near := d, beac := { s.beac with nearTrail := none } }
        | .off => { s with off := d, beac := { s.beac with offTrail := none } }
    let ends (o : RecOutcome) (why : Option EndReason) : Prop :=
      ∀ r, s.sound = true → s.doorRecord side = some r → s.Ends x r o why ∧ x.doorFree side
    (p ≠ .reverse → c = .fault → ends .failed (some .switches)) ∧
    (p = .unlatch → (c = .closed ∨ c = .ajar → enters .opening true false) ∧ (c = .opened → ends .done none) ∧
      (c = .shut ∨ c = .unknown → x = s)) ∧
    (p = .opening → (c = .opened → ends .done none) ∧ (c = .shut ∨ c = .closed ∨ c = .ajar ∨ c = .unknown → x = s)) ∧
    (p = .closing → (c = .closed → enters .pullin false true) ∧ (c = .shut → ends .done none) ∧
      (c = .opened ∨ c = .ajar ∨ c = .unknown → x = s)) ∧
    (p = .pullin → (c = .shut → ends .done none) ∧ (c = .opened ∨ c = .closed ∨ c = .ajar ∨ c = .unknown → x = s)) ∧
    (p = .reverse → (back = true → ends .failed (some .obstruct)) ∧ (back = false → x = s))) ∧
  ∀ (s : State) (side : Side) (r : Record), s.find r.handle = some r → r.side = some side → s.arb.channel side = none →
    (s.door side).phase = none →
    let d := (s.door side).state
    let begins (p : Phase) (opens closes latch : Bool) : Prop :=
      ((s.grantDoor side r).door side) = ⟨.moving, some p, s.now, none, opens, closes, latch⟩ ∧
        (s.grantDoor side r).arb.channel side = some ⟨r.handle, s.settings.plain.doorDraw.toNat⟩ ∧
        (match side with
          | .near => (s.grantDoor side r).beac = { s.beac with nearTrail := none }
          | .off => (s.grantDoor side r).beac = { s.beac with offTrail := none }) ∧
        ∃ y, (s.grantDoor side r).find r.handle = some y ∧ y.state = .running ∧ y.start = some (.door d)
    let ends (o : RecOutcome) (why : Option EndReason) : Prop :=
      s.Ends (s.grantDoor side r) r o why ∧ (s.grantDoor side r).arb.channel side = none
    (r.kind = .doorOpen →
      (d = .shut → begins .unlatch false false true) ∧
      (d = .closed ∨ d = .ajar → begins .opening true false false) ∧
      (d = .opened → d = s.derived side → ends .done none) ∧
      (d = .fault ∨ d = .unknown → d = s.derived side → ends .failed (some .switches))) ∧
    (r.kind = .doorShut →
      (d = .opened ∨ d = .ajar → begins .closing false true false) ∧
      (d = .closed → begins .pullin false true false) ∧
      (d = .shut → d = s.derived side → ends .done none) ∧
      (d = .fault ∨ d = .unknown → d = s.derived side → ends .failed (some .switches)))

/-- An active ESTOP sample sets the counted level and raises a halt event; its release, 100 ms later, takes the cause away
and leaves the latch (R30, R32). A closed PUMP_FB of a contactor that has been OPEN for 150 ms raises a weld event once for a
closure, and an open sample takes its cause away and arms the detection again (R30, R57 to R59, R200). During the image read
neither halts (R200): that the row of the weld and a closed sample are then no halt either is the model's reading, log entry
7 (DEDUCED). So is that a sample at exactly 150 ms is a weld, where R59 says more than 150 ms. -/
def Obligations.PinsHalt : Prop :=
  ∀ s : State,
    (s.startup.reading = false → s.inputs.estopCounted = false →
      ∃ x : State, exec .estopActive s = .next x.conclude ∧ x.inputs.estopCounted = true ∧ x.halt.set = true ∧
        x.halt.estop = true ∧ (s.halt.set = false → x.halt.first = some .estop ∧ x.plan.records = []) ∧
        (s.halt.estop = false ∨ s.halt.set = false → s.queued x (.halted .estop))) ∧
    (s.startup.reading = true →
      ∃ x : State, exec .estopActive s = .next x.conclude ∧ x.halt = s.halt ∧ x.inputs.estopRaw = true ∧
        exec .weldedContactor s = .next s) ∧
    (s.startup.reading = false → s.inputs.estopCounted = true →
      exec .estopActive s =
        .next { s with inputs := { s.inputs with estopRaw := true, estopQuiet := none } }.conclude) ∧
    (s.inputs.estopQuiet = none → exec .estopReleaseCounted s = .next s) ∧
    (s.arb.contactor ≠ .opened ∨ s.arb.weldArmed = false → exec .weldedContactor s = .next s) ∧
    (∀ t0, s.inputs.estopQuiet = some t0 →
      ∃ x : State, exec .estopReleaseCounted s = .next x.conclude ∧ x.inputs.estopCounted = false ∧
        x.halt = { s.halt with estop := false } ∧ x.now = max s.now (t0 + 100)) ∧
    (s.startup.reading = false → s.arb.contactor = .opened → s.arb.weldArmed = true →
      ∃ x : State, exec .weldedContactor s = .next x.conclude ∧ (s.sound = true → x.arb.weldArmed = false) ∧
        x.halt.set = true ∧
        x.halt.welded = true ∧ (s.halt.set = false → x.halt.first = some .welded ∧ x.plan.records = []) ∧
        x.now = max s.now (s.arb.contactorAt + 150)) ∧
    exec (.inputRawChange .estop true) s = exec .estopActive s ∧
    exec (.inputRawChange .estop false) s =
      .next
        { s with
          inputs :=
            { s.inputs with
              estopRaw := false
              estopQuiet :=
                if s.inputs.estopCounted then some (s.inputs.estopQuiet.getD s.now) else none } }.conclude ∧
    (s.arb.contactor = .making →
      exec (.inputRawChange .pumpFb true) s =
        .next
          { s with
            arb := { s.arb with contactor := .made, fbOpenSince := none }
            inputs := { s.inputs with pumpFb := true } }.conclude) ∧
    (s.startup.reading = false → s.arb.contactor = .opened → s.arb.weldArmed = true → s.arb.contactorAt + 150 ≤ s.now →
      ∃ x : State, exec (.inputRawChange .pumpFb true) s = .next x.conclude ∧ x.halt.set = true ∧
        x.halt.welded = true ∧ x.inputs.pumpFb = true) ∧
    (s.arb.contactor = .opened →
      s.startup.reading = true ∨ s.arb.weldArmed = false ∨ s.now < s.arb.contactorAt + 150 →
      exec (.inputRawChange .pumpFb true) s = .next { s with inputs := { s.inputs with pumpFb := true } }.conclude) ∧
    ∃ x : State, exec (.inputRawChange .pumpFb false) s = .next x.conclude ∧ x.inputs.pumpFb = false ∧
      x.halt = { s.halt with welded := false } ∧ x.arb.weldArmed = true ∧
      (s.arb.contactor = .made → x.arb.fbOpenSince = some (s.arb.fbOpenSince.getD s.now))

/-- A rising edge is counted with its time; the speed computed is the number of edges of the last 1000 ms times 36000 by
`PPK`, truncated and at most 2550 (R34; that the window holds both its ends is the model's choice, log entry 24). The
drive-away flag follows its test, and setting it queues its notice (R47). -/
def Obligations.SpeedAndDriveAway : Prop :=
  ((∀ s : State, ∃ u, exec .roadSpeedEdge s = .next u ∧ u = { s with eval := { s.eval with edges := u.eval.edges } } ∧
     u.eval.edges = s.now :: s.eval.edges.filter fun e => decide (s.now ≤ e + 1000)) ∧
   (∀ s : State,
     ∃ x : State, exec .speedComputation s = .next x.conclude ∧ x.now = max s.now s.eval.nextAt ∧
       x.eval.speed =
         some (min 2550 ((s.eval.edges.filter fun e => decide (x.now ≤ e + 1000)).length * 36000 /
           s.settings.plain.ppk.toNat)) ∧
       x.eval.edges = s.eval.edges ∧ x.inputs = s.inputs ∧ x.settings = s.settings ∧ x.link = s.link) ∧
   [4, 5, 11, 12].map (fun n => speedOf n 8000) = [18, 22, 49, 54]) ∧
  ∀ s : State,
    let test := (∃ v, s.eval.speed = some v ∧ 50 ≤ v) ∧
      (s.near.state ≠ .shut ∨ s.off.state ≠ .shut ∨ ¬∃ t, s.chanValue 1 = some t ∧ 800 ≤ t)
    (s.driveAway.eval.driveAway = true ↔ test) ∧
    s.driveAway.notes =
      (if s.driveAway.eval.driveAway = true ∧ s.eval.driveAway = false then
        s.notes.push (.driveAway (s.eval.speed.getD 0) s.near.state s.off.state (s.reported 1))
      else s.notes)

/-! ### The side doors -/

/-- The phase timers fail the record of a door: the `UNLATCH` window after 800 ms and the `PULLIN` window after 600 ms with
`LATCH` (R98, R101), `DOORTIME` with `TIMEOUT` (R99, R100), and the `REVERSE` time after 1000 ms with `OBSTRUCT` (R104). An
obstruction of a closing leaf puts the door into `REVERSE`, and one of an opening leaf ends the record (R104, R105). But for
the `UNLATCH` window, a switch whose new level is due at that moment is counted in the event, before the door is derived, so
that no `DOORMOVED` follows (R99 to R101, R105; of the end of `REVERSE` the model's reading, log entry 34, DEDUCED). In
`OPENING` and `CLOSING`, from 300 ms on, a scan's current value above `DOOROBS` runs the obstruction time and any other sets
it back; a current channel that is not OK is an obstruction without a reversal, in the event in which it leaves OK or at the
first moment compared; no other phase reads the current (R103). That the value at exactly 300 ms is compared is the model's
reading, log entry 26 (DEDUCED); that the status at the first moment compared is the one after its scan, so that a channel
which enters OK with it is compared and obstructs nothing, is the model's choice, log entry 49 (DESIGN CHOICE). -/
def Obligations.DoorTimersAndObstruction : Prop :=
  (∀ (s : State) (side : Side),
     let counts (b : State) : Prop :=
       b = { s.passTo b.now with inputs := b.inputs } ∧ s.inputs.recounted b.inputs [side] ∧
         ∀ sw, ((b.inputs.switches side).get sw).counted =
           if ((s.inputs.switches side).get sw).since + 30 ≤ b.now then some ((s.inputs.switches side).get sw).raw
           else ((s.inputs.switches side).get sw).counted
     let fails (c : Instr) (r : Record) (why : EndReason) (ms : Nat) : Prop :=
       ∃ b x : State, counts b ∧ b.now = max s.now ((s.door side).phaseAt + ms) ∧ exec c s = .next x.conclude ∧
         b.Ends x r .failed (some why) ∧ x.doorFree side
     (∀ (r : Record) (t0 : Nat), s.sound = true → s.doorRecord side = some r → (s.door side).obsSince = some t0 →
       (s.door side).phase = some .opening →
       ∃ b x : State, counts b ∧ b.now = max s.now (t0 + 120) ∧ exec (.obstruction side) s = .next x.conclude ∧
         b.Ends x r .failed (some .obstruct) ∧ x.doorFree side) ∧
     (∀ r, s.sound = true → s.doorRecord side = some r →
       ((s.door side).phase = some .unlatch →
         ∃ x : State, exec (.unlatchWindowExpiry side) s = .next x.conclude ∧ s.Ends x r .failed (some .latch) ∧
           x.doorFree side ∧ x.inputs = s.inputs ∧ x.now = max s.now ((s.door side).phaseAt + 800)) ∧
       ((s.door side).phase = some .opening ∨ (s.door side).phase = some .closing →
         fails (.doortimeExpiry side) r .timeout s.settings.plain.doorTime.toNat) ∧
       ((s.door side).phase = some .pullin → fails (.pullinWindowExpiry side) r .latch 600) ∧
       ((s.door side).phase = some .reverse → fails (.reverseEnd side) r .obstruct 1000)) ∧
     ((s.door side).phase ≠ some .unlatch → exec (.unlatchWindowExpiry side) s = .next s) ∧
     ((s.door side).phase ≠ some .opening → (s.door side).phase ≠ some .closing →
       exec (.doortimeExpiry side) s = .next s) ∧
     ((s.door side).phase ≠ some .pullin → exec (.pullinWindowExpiry side) s = .next s) ∧
     ((s.door side).phase ≠ some .reverse → exec (.reverseEnd side) s = .next s)) ∧
  (∀ (s : State) (side : Side) (wasOk : Bool),
    let d := s.door side
    let n : Fin 9 := match side with | .near => 7 | .off => 8
    let x := s.doorCurrent side wasOk
    let watched := d.phase = some .opening ∨ d.phase = some .closing
    let compared := d.phaseAt + 300 ≤ s.now
    let ok := (s.conv.chans[n]).status = .ok
    (¬watched → x = s) ∧
    (watched → ok → ¬compared → x = s) ∧
    (watched → ok → compared →
      x = s.setDoor side
        { d with
          obsSince := if s.settings.plain.doorObs < s.reported n then some (d.obsSince.getD s.now) else none }) ∧
    (watched → ¬ok → wasOk = false → ¬compared → x = s) ∧
    (watched → ¬ok → (wasOk = true ∨ compared) → ∀ r, s.sound = true → s.doorRecord side = some r →
      ∃ b : State, b = { s with inputs := b.inputs } ∧ s.inputs.recounted b.inputs [side] ∧
        (∀ sw, ((b.inputs.switches side).get sw).counted =
          if ((s.inputs.switches side).get sw).since + 30 ≤ s.now then some ((s.inputs.switches side).get sw).raw
          else ((s.inputs.switches side).get sw).counted) ∧
        b.Ends x r .failed (some .obstruct) ∧ x.doorFree side)) ∧
  ∀ (s : State) (side : Side) (t0 : Nat), (s.door side).obsSince = some t0 →
    ((s.door side).phase = some .closing →
      ∃ x : State, exec (.obstruction side) s = .next x.conclude ∧ x.now = max s.now (t0 + 120) ∧
        s.Follows x.conclude ∧ x.handles = s.handles ∧ x.arb.channel side = s.arb.channel side ∧
        x.door side = ⟨.moving, some .reverse, x.now, none, true, false, false⟩) ∧
    ((s.door side).phase ≠ some .closing → (s.door side).phase ≠ some .opening →
      exec (.obstruction side) s = .next s)

/-! ### The converter -/

/-- A channel's value is the point of the straight line at its conversion input, rounded to nearest once with halves away
from zero, and then clamped to the channel's range (R113, with its table of examples); a conversion input is a mean
rounded to nearest with halves up (R114). -/
def Obligations.ConversionRoundsAndClamps : Prop :=
  (∀ (k : Cal) (n : Fin 9) (c : Nat), k.cLo < k.cHi →
    let den := k.cHi - k.cLo
    let num := k.vLo * den + ((c : Int) - k.cLo) * (k.vHi - k.vLo)
    ∃ v : Int, 2 * (v * den - num).natAbs ≤ den.natAbs ∧
      (2 * (v * den - num).natAbs = den.natAbs → 0 ≤ (v * den - num) * num.sign) ∧
      k.convert n c =
        if v < (chanRange n).1 then (chanRange n).1 else if (chanRange n).2 < v then (chanRange n).2 else v) ∧
  (∀ (k : Cal) (n : Fin 9) (c : Nat), (chanRange n).1 ≤ k.convert n c ∧ k.convert n c ≤ (chanRange n).2) ∧
  ([(0, 2100), (0, 3407), (0, 300), (1, 318), (1, 791), (4, 2300), (5, 2980), (7, 4095)] : List (Fin 9 × Nat)).map
      (fun x => Settings.defaultCal[x.1].convert x.1 x.2) = [700, 1238, 0, -145, 0, 1442, 2401, 300] ∧
  ∀ codes : List Nat, 0 < codes.length →
    2 * codes.sum < (2 * meanOf codes + 1) * codes.length ∧ (2 * meanOf codes) * codes.length ≤ 2 * codes.sum + codes.length

/-- A scan whose reference is out of range fails every channel and empties its history; one whose reference is good takes
every code that is in band into its history, measures every channel that is OK, and fails one that has been out of band
three times (R113 to R120). A bad reference is good again after 20 scans in range, and a channel is OK again with a full
history and, if it has a band, 20 codes in band (R116, R118, R121). A scan that makes a good reference bad is counted, and a
bad one sets every run back (R120). The two incline filters take their samples from CH2 and CH3 by R122. The first
supply value gives the supply its state (R63). In a run a scan moves the stall mark (R84), arms the overload test and runs the
ground and overload times (R86, R88, R89), and makes a FAST run CREEP or ends it by a coast stop (R75, R79, R80, R87). The
readers take the scan in one order: the present load, the conditions, the supply monitor, the axis controller, the pump
current, the doors, a waiting `CALP` and the close: the model's choice, log entry 9 (DESIGN CHOICE). That the overload test is
armed in `LEAD` and `SETTLING` too, and not in `HOLDING`, is the model's reading, log entry 28 (DEDUCED). That the load of the
scan that makes a coast stop is the last load stored is the model's choice, log entry 48 (DESIGN CHOICE). What a scan does to
the windows of the supply monitor is said in `SupplyStateChanges`, to the overcurrent time in `ContactorEvents`, and to the
obstruction time of a door in `DoorTimersAndObstruction`. -/
def Obligations.ScanConverts : Prop :=
  (∀ (s : State) (codes : Scan), s.conv.scanning = true →
     ∃ u, exec (.scanResult codes) s = .next u ∧ u.conv.ch9 = some codes[9].toNat ∧
       u.conv.pitchF = filterStep s.conv.pitchF s.conv.chans[(2 : Fin 9)] u.conv.chans[(2 : Fin 9)] ∧
       u.conv.rollF = filterStep s.conv.rollF s.conv.chans[(3 : Fin 9)] u.conv.chans[(3 : Fin 9)] ∧
       (let b := s.passTo s.conv.nextAt
        let taken :=
          { b with
            conv := { b.conv.scan codes b.settings.cal with nextAt := nextDue b.conv.nextAt Config.scanMs b.now } }
        let m := taken.takeLoad.report.supplyScan
        u = (((m.axisScan.pumpScan).doorCurrent .near (s.chanOk 7)).doorCurrent .off (s.chanOk 8)).completeCalp.conclude.drain ∧
          m.conv = u.conv ∧ m.now = max s.now s.conv.nextAt ∧ m.inputs = s.inputs ∧ m.settings = s.settings ∧
          (taken.chanOk 4 = true → ∀ v, taken.chanValue 4 = some v →
            m.axis.presentLoad = ((v - s.settings.plain.pTare) * s.settings.plain.kLoad).toNat / 10)) ∧
       (2008 ≤ codes[9].toNat → codes[9].toNat ≤ 2088 →
         u.conv.refFails = s.conv.refFails ∧
         (s.conv.refGood = false → u.conv.refRun = min 20 (s.conv.refRun + 1) ∧
           (u.conv.refGood = true ↔ 19 ≤ s.conv.refRun)) ∧
         ∀ n : Fin 9,
           let c := s.conv.chans[n]
           let d := u.conv.chans[n]
           let code := (codes[n.val]'(by omega)).toNat
           let size := if n = 0 ∨ n = 1 then 4 else if n = 5 then 16 else 1
           let inside := 4 < n.val ∨ (48 ≤ code ∧ code ≤ 4047)
           (u.conv.refGood = false → c.status ≠ .ok → d.status ≠ .ok) ∧
           (inside → d.goodRun = min 20 (c.goodRun + 1) ∧
             (u.conv.refGood = true → c.status = .init → (d.status = .ok ↔ d.hist.length = size)) ∧
             (u.conv.refGood = true → c.status = .failed →
               (d.status = .ok ↔ d.hist.length = size ∧ (n.val ≤ 4 → 19 ≤ c.goodRun))))) ∧
       (∀ v, s.link.calp = none → s.link.fifo = [] → s.link.complete = none → s.supply.state = .unknown →
         (u.conv.chans[(5 : Fin 9)]).status = .ok → (u.conv.chans[(5 : Fin 9)]).value = some v →
         u.supply.state =
           (if v < s.settings.plain.batCrit then .critical else if v < s.settings.plain.batLow then .low else .normal) ∧
         s.queued u (.supply .unknown u.supply.state v)) ∧
       (¬(2008 ≤ codes[9].toNat ∧ codes[9].toNat ≤ 2088) →
         u.conv.refGood = false ∧ u.conv.refRun = 0 ∧
         u.conv.refFails = (if s.conv.refGood then min 255 (s.conv.refFails + 1) else s.conv.refFails) ∧
         ∀ n : Fin 9, u.conv.chans[n] =
           { status := .failed, hist := [], badRun := 0, goodRun := 0, value := (s.conv.chans[n]).value, fresh := false }) ∧
       (2008 ≤ codes[9].toNat → codes[9].toNat ≤ 2088 → s.conv.refGood = true → u.conv.refGood = true ∧
         ∀ n : Fin 9,
           let c := s.conv.chans[n]
           let d := u.conv.chans[n]
           let code := (codes[n.val]'(by omega)).toNat
           let size := if n = 0 ∨ n = 1 then 4 else if n = 5 then 16 else 1
           (n.val ≤ 4 → ¬(48 ≤ code ∧ code ≤ 4047) → c.badRun < 2 → d.hist = c.hist ∧ d.fresh = false) ∧
           (n.val ≤ 4 → ¬(48 ≤ code ∧ code ≤ 4047) → 2 ≤ c.badRun → c.status ≠ .failed →
             d.status = .failed ∧ d.hist = [] ∧ d.value = c.value) ∧
           (4 < n.val ∨ (48 ≤ code ∧ code ≤ 4047) →
             d.hist = (code :: c.hist).take size ∧ d.badRun = 0 ∧ (c.status = .ok → d.status = .ok)) ∧
           (d.status = .ok → d.value = some ((s.settings.cal[n]).convert n (meanOf d.hist))))) ∧
  (∀ (s : State) (r : Record) (run : Run) (pos : Int), s.packRecord = some r → s.axis.run = some run →
    s.chanOk r.kind.axisChan = true → s.chanValue r.kind.axisChan = some pos →
    let x := s.axisScan
    let p := s.settings.plain
    let rem := match run.dir with | .up => run.target - pos | .down => pos - run.target
    let marks := match run.dir with | .up => run.markPos + 5 ≤ pos | .down => pos ≤ run.markPos - 5
    let armed := run.armed = true ∨ (run.lift = true ∧ run.dir = .up ∧ ∃ a, r.start = some (.value a) ∧ 50 ≤ pos - a)
    let slows := run.cls = some .fast ∧ rem ≤ (if run.lift then p.liftSlow else p.tiltSlow)
    let stops := ¬(run.lift = true ∧ run.dir = .down ∧ run.target = 0) ∧ rem ≤ run.coast
    (r.state = .running → stops →
      ∃ y new, x.find r.handle = some y ∧ y.state = .settling ∧ y.wait = none ∧ x.axis.run = some new ∧
        new.settleEnd = some (s.now + p.settle.toNat) ∧ new.cls = none ∧ new.runKind = none ∧
        new.runAcc = run.runAcc + (s.now - run.runFrom) ∧ x.axis.valves = .off ∧
        (run.lift = true → run.dir = .up → ∀ v, s.chanOk 4 = true → s.chanValue 4 = some v →
          x.axis.lastLoad = ((v - p.pTare) * p.kLoad).toNat / 10) ∧
        (¬(run.lift = true ∧ run.dir = .up) → x.axis.lastLoad = s.axis.lastLoad) ∧
        (run.pump = true → x.arb.contactor = .opened ∧ x.arb.restUntil = some (s.now + 500))) ∧
    (r.state = .running → ¬stops →
      ∃ new, x = { s with axis := { s.axis with run := some new, valves := x.axis.valves } } ∧
        new =
          { run with
            cls := new.cls, markPos := new.markPos, markAt := new.markAt, armed := new.armed
            groundSince := new.groundSince, overSince := new.overSince, runLoad := new.runLoad } ∧
        (slows → new.cls = some .creep ∧ x.axis.valves = valvesFor run.lift run.dir (some .creep)) ∧
        (¬slows → new.cls = run.cls ∧ x.axis.valves = s.axis.valves) ∧
        (marks → new.markPos = pos ∧ new.markAt = s.now) ∧
        (¬marks → new.markPos = run.markPos ∧ new.markAt = run.markAt) ∧ (new.armed = true ↔ armed) ∧
        ∀ v, s.chanOk 4 = true → s.chanValue 4 = some v →
          (run.lift = true → run.dir = .down →
            new.groundSince = (if v < p.gndPres then some (run.groundSince.getD s.now) else none)) ∧
          (run.lift = true → run.dir = .up → new.runLoad = some (((v - p.pTare) * p.kLoad).toNat / 10) ∧
            (armed → p.ratedKg < ((((v - p.pTare) * p.kLoad).toNat / 10 : Nat) : Int) →
              new.overSince = some (run.overSince.getD s.now)) ∧
            (¬armed ∨ ((((v - p.pTare) * p.kLoad).toNat / 10 : Nat) : Int) ≤ p.ratedKg → new.overSince = none)) ∧
          (run.lift = false → new.groundSince = run.groundSince ∧ new.overSince = run.overSince)) ∧
    (r.state = .lead ∨ r.state = .settling →
      ∃ b, x = { s with axis := { s.axis with run := some { run with armed := b } } } ∧ (b = true ↔ armed)) ∧
    (r.state = .holding → x = s)) ∧
  ∀ (f : Option Int) (before c : Channel) (x : Int), c.value = some x →
    (c.status = .ok → c.fresh = true → before.status ≠ .ok → filterStep f before c = some (32 * x)) ∧
    (∀ g, f = some g → c.status = .ok → c.fresh = true → before.status = .ok →
      filterStep f before c = some (g + x - roundDiv g 32)) ∧
    (¬(c.status = .ok ∧ c.fresh = true) → filterStep f before c = f) ∧
    roundDiv 1106 32 = 35 ∧ roundDiv (-3537) 32 = -111

/-! ### The station bus -/

/-- The check character of a frame is 255 minus the sum of the characters before it, mod 256; a poll is its address, show and
check characters, and a reply with another check character is a miss of kind `BADCHECK` (R131, with R130 and R133). -/
def Obligations.FrameChecks : Prop :=
  (∀ cs : List Ch, (frameCheck cs).toNat = 255 - (cs.map (·.toNat)).sum % 256) ∧
  (∀ cs : List Ch, (cs.map (·.toNat)).sum = 300 → frameCheck cs = 211#8) ∧
  (∀ cs : List Ch, (cs.map (·.toNat)).sum = 255 → frameCheck cs = 0#8) ∧
  (∀ (s : State) (i : Fin 6) (e : StationCfg),
    ∃ a b, s.pollFrame i e = [a, b, frameCheck [a, b]] ∧ a = BitVec.ofNat 8 (0x40 + e.addr)) ∧
  ∀ (addr : Nat) (c1 c2 c3 c4 : Ch) (f : Bool),
    (c1 ≠ BitVec.ofNat 8 (0x60 + addr) → judgeReply addr c1 c2 c3 c4 f = some .wrongAddr) ∧
    (c1 = BitVec.ofNat 8 (0x60 + addr) →
      (f = true ∨ c4 ≠ frameCheck [c1, c2, c3] → judgeReply addr c1 c2 c3 c4 f = some .badCheck) ∧
      (f = false → c4 = frameCheck [c1, c2, c3] → judgeReply addr c1 c2 c3 c4 f = none))

/-- A poll cycle begins with the first configured station, and the next one is due 20 ms on: its address, show and check
characters are the poll, and the show character is READY, MOVING, FAULT and BUZZ (R129, R130). A `POLL_CYCLE_START` while a
poll is outstanding is ignored: the model's reading, log entry 18 (DEDUCED). The third cycle in a row with a conflict is a
bus fault, with the clean run at 0, and every configured station is LOST with its good run at 0; ten clean cycles in a row
return the bus to NORMAL (R135, R136). A changed
entry comes into force at the cycle's start (R127): the keys counted pressed are released and handed on, of several stations
in the order of their indices, and the station is ABSENT with empty runs, bars and statistics. So it is in bus FAULT too: the model's choice, log entry 39 (DESIGN CHOICE). A
cycle with no configured station sends nothing (R129); that it is clean and ends at once is the model's reading, log entry
18. -/
def Obligations.PollCyclesRun : Prop :=
  ((∀ (s : State) (i : Fin 6) (e : StationCfg), s.bus.polling = true → s.bus.current = none →
     let entry (j : Fin 6) : Option StationCfg :=
       if (s.bus.stations[j]).changed then s.settings.stn[j] else (s.bus.stations[j]).entry
     entry i = some e → (∀ j : Fin 6, j < i → entry j = none) →
     ∃ u : State, exec .pollCycleStart s = .next u ∧ u.bus.current = some i ∧ u.now = max s.now s.bus.nextAt ∧
       u.bus.cycleAborts = 0 ∧ s.bus.nextAt < u.bus.nextAt ∧ u.now < u.bus.nextAt ∧ u.bus.nextAt ≤ u.now + 20 ∧
       (u.bus.nextAt - s.bus.nextAt) % 20 = 0 ∧
       ∃ show_ : Ch, u.bus.frame = [BitVec.ofNat 8 (0x40 + e.addr), show_,
           frameCheck [BitVec.ofNat 8 (0x40 + e.addr), show_]] ∧
         (u.bus.stations[i]).lamps = show_ ∧
         (show_.getLsbD 0 = true ↔ u.inputs.master.counted = some true ∧ u.halt.set = false) ∧
         (show_.getLsbD 3 = true ↔ (u.beac.lamps[4]).cls = .alarm) ∧
         (show_.getLsbD 2 = true ↔ u.halt.set = true ∨ ∃ l : Lamp,
           let c := u.beac.lamps[lampIdx l]
           c.openF = true ∨ c.shortF = true ∨ c.stuckF = true) ∧
         (show_.getLsbD 1 = true ↔ ∃ r ∈ u.plan.records, r.state = .running ∧
           ((∃ a, (e.role = .pendant a ∨ e.role = .platform a) ∧ r.kind.isLift = true ∧
               (r.origin = .station i ∨ (r.origin = .link ∧ a.has r.kind = true))) ∨
             ∃ side, e.role = .keypad side ∧ r.side = some side)) ∧
         ∀ n, 4 ≤ n → show_.getLsbD n = false) ∧
   (∀ s : State, s.bus.polling = true → s.bus.current = none →
     ∃ x : State, exec .pollCycleStart s = .next (x.advance 0) ∧ x.now = max s.now s.bus.nextAt ∧ x.bus.cycleAborts = 0 ∧
       (∀ j : Fin 6, x.bus.stations[j] =
         if (s.bus.stations[j]).changed then
           { entry := s.settings.stn[j], changed := false, state := .absent, goodRun := 0, missRun := 0, stuck := false
             keys := Vector.replicate 6 ⟨false, false, false, 0⟩, missCount := 0, lastMiss := none, aborts := 0
             conflicts := 0, lamps := 0, resetAt := none }
         else s.bus.stations[j]) ∧
       (let start : State :=
          { s.passTo s.bus.nextAt with bus := { s.bus with nextAt := x.bus.nextAt, cycleAborts := 0 } }
        let release (t : State) (i : Fin 6) : State :=
          match (s.bus.stations[i]).entry with
          | some e =>
            ((List.finRange 6).filter fun k => ((s.bus.stations[i]).keys[k]).pressed).foldl
              (fun t k => State.handRelease t i e.role k) t
          | none => t
        let handed : State := ((List.finRange 6).filter fun i => (s.bus.stations[i]).changed).foldl release start
        x = { handed with bus := { handed.bus with stations := x.bus.stations } }) ∧
       ((∀ j : Fin 6, (x.bus.stations[j]).entry = none) →
         x.advance 0 = x.judgeCycle.conclude ∧ (x.advance 0).bus.current = none ∧ (x.advance 0).bus.frame = [])) ∧
   ∀ s : State, s.bus.polling = false ∨ s.bus.current.isSome → exec .pollCycleStart s = .next s) ∧
  ∀ s : State,
    (s.bus.fault = false → s.bus.cycleAborts = 0 →
      s.judgeCycle.bus = { s.bus with current := none, frame := [], conflictRun := 0, runAborts := 0 }) ∧
    (s.bus.fault = false → 0 < s.bus.cycleAborts → s.bus.conflictRun < 2 →
      s.judgeCycle.bus =
        { s.bus with
          current := none, frame := [], conflictRun := s.bus.conflictRun + 1
          runAborts := s.bus.runAborts + s.bus.cycleAborts }) ∧
    (s.bus.fault = false → 0 < s.bus.cycleAborts → 2 ≤ s.bus.conflictRun →
      s.judgeCycle.bus.fault = true ∧ s.judgeCycle.bus.cleanRun = 0 ∧
      s.judgeCycle.bus.faultCount = min 255 (s.bus.faultCount + 1) ∧
      s.queued s.judgeCycle (.busFault (s.bus.runAborts + s.bus.cycleAborts)) ∧
      ∀ i : Fin 6, (s.bus.stations[i]).entry.isSome →
        (s.judgeCycle.bus.stations[i]).state = .lost ∧ (s.judgeCycle.bus.stations[i]).goodRun = 0 ∧
          ∀ k : Fin 6,
            let old := (s.bus.stations[i]).keys[k]
            let new := (s.judgeCycle.bus.stations[i]).keys[k]
            new.pressed = false ∧
              ((s.bus.stations[i]).state = .present → new.barred = (old.barred || (k != 0 && (old.shown || old.pressed)))) ∧
              ((s.bus.stations[i]).state ≠ .present → new.barred = old.barred)) ∧
    (s.bus.fault = true → 0 < s.bus.cycleAborts → s.judgeCycle.bus.fault = true ∧ s.judgeCycle.bus.cleanRun = 0) ∧
    (s.bus.fault = true → s.bus.cycleAborts = 0 → s.bus.cleanRun < 9 →
      s.judgeCycle.bus.fault = true ∧ s.judgeCycle.bus.cleanRun = s.bus.cleanRun + 1) ∧
    (s.bus.fault = true → s.bus.cycleAborts = 0 → 9 ≤ s.bus.cleanRun →
      s.judgeCycle.bus.fault = false ∧ s.judgeCycle.bus.conflictRun = 0 ∧
        s.judgeCycle.notes = s.notes.push (.busOk s.bus.faultCount))

/-- A poll that is aborted, unanswered or answered wrongly is a miss: the run and the miss count rise, the fourth miss of a
PRESENT station loses it, its keys are counted released and those that were pressed are barred, STOP apart (R132 to R134,
R138, R145). A good reply of a PRESENT station counts a key shown twice in a row pressed unless it is barred, and one with
STUCK releases every key (R137, R139); the third good reply in a row finds a station, with its notice, and bars every key it
shows but STOP (R134, R137). Any other reply of a station that is not PRESENT, or in bus FAULT, changes no key's count and no
bar: for STUCK the model's reading, log entry 43 (DEDUCED). The changes are
handed on in order: the notice of the state, the releases, and the presses (R140). Three things here are the model's reading,
log entry 18 (DEDUCED): a STUCK reply lifts the bar of a key that it does not show, also of one that it releases; the one
report of the conditions stands between the releases and the presses; and the `STNMISS` event of a miss is counted after the
changes have been handed on and reported. After the judgement the next poll begins, or the
cycle is judged, with one close of the event: the model's choice, log entry 45. -/
def Obligations.PollsAreJudged : Prop :=
  (∀ (s : State) (i : Fin 6) (e : StationCfg) (c : Instr) (m : MissKind), s.bus.current = some i →
     (s.bus.stations[i]).entry = some e →
     (c = .pollAbort ∧ m = .conflict) ∨ (c = .replyWindowClose false ∧ m = .silent) ∨
       (c = .replyWindowClose true ∧ m = .incomplete) ∨
       (∃ a b d f fr, c = .replyReceived a b d f fr ∧ judgeReply e.addr a b d f fr = some m) →
     let old := s.bus.stations[i]
     ∃ x : State, exec c s = .next (x.advance (i.val + 1)) ∧
       let new := x.bus.stations[i]
       new.missRun = min 4 (old.missRun + 1) ∧ new.goodRun = 0 ∧ new.missCount = min 65535 (old.missCount + 1) ∧
       new.lastMiss = some m ∧ new.aborts = (if m = .conflict then min 65535 (old.aborts + 1) else old.aborts) ∧
       new.state = (if old.state = .present ∧ 3 ≤ old.missRun then .lost else old.state) ∧
       (∀ k : Fin 6, (new.keys[k]).pressed = false ∧
         (new.keys[k]).barred =
           ((old.keys[k]).barred || (k != 0 && ((old.keys[k]).shown || (old.keys[k]).pressed)))) ∧
       x.bus.cycleAborts = s.bus.cycleAborts + (if m = .conflict then 1 else 0) ∧
       (∀ j : Fin 6, j ≠ i → x.bus.stations[j] = s.bus.stations[j]) ∧
       (old.state = .present → 3 ≤ old.missRun → s.queued x (.station i e.addr false)) ∧
       ∃ m : State, m = { s with bus := m.bus, notes := m.notes } ∧ m.bus.stations[i] = { new with resetAt := old.resetAt } ∧
         m.notes = (if old.state = .present ∧ 3 ≤ old.missRun then s.notes.push (.station i e.addr false) else s.notes) ∧
         let y := (((List.finRange 6).filter fun k => (old.keys[k]).pressed).foldl (fun t k => t.handRelease i e.role k) m).report
         x = y.count [.stnMiss] (some (.station i)) e.role.missSide y.axis.lastLoad) ∧
  (∀ (x : Station) (r : Role) (keys : Ch), x.state = .present →
    let y := x.good r keys false false
    y.state = .present ∧ y.missRun = 0 ∧ y.stuck = false ∧ y.missCount = x.missCount ∧
    ∀ k : Fin 6,
      let seen := r.hasKey k = true ∧ keys.getLsbD k.val = true
      ((y.keys[k]).pressed = true ↔
        seen ∧ (x.keys[k]).barred = false ∧ ((x.keys[k]).pressed = true ∨ 1 ≤ (x.keys[k]).run)) ∧
      ((y.keys[k]).barred = true ↔ seen ∧ (x.keys[k]).barred = true)) ∧
  (∀ (x : Station) (r : Role) (keys : Ch), x.state = .present →
    let y := x.good r keys true false
    y.state = .present ∧ y.missRun = 0 ∧ y.stuck = true ∧ y.missCount = x.missCount ∧
    ∀ k : Fin 6,
      (y.keys[k]).pressed = false ∧ (y.keys[k]).run = 0 ∧
        ((y.keys[k]).barred = true ↔
          (r.hasKey k = true ∧ keys.getLsbD k.val = true) ∧ ((x.keys[k]).barred = true ∨ k ≠ 0))) ∧
  (∀ (x : Station) (r : Role) (keys : Ch) (stuck : Bool), x.state ≠ .present →
    (x.good r keys stuck true).state = x.state ∧
    (x.good r keys stuck true).goodRun = 0 ∧
    (x.goodRun < 2 → (x.good r keys stuck false).state = x.state ∧
      (x.good r keys stuck false).goodRun = x.goodRun + 1) ∧
    (2 ≤ x.goodRun → (x.good r keys stuck false).state = .present) ∧
    ∀ (fault : Bool) (k : Fin 6),
      let old := x.keys[k]
      let new := (x.good r keys stuck fault).keys[k]
      let seen := r.hasKey k = true ∧ keys.getLsbD k.val = true
      (fault = false → 2 ≤ x.goodRun →
        (new.barred = true ↔ seen ∧ (k ≠ 0 ∨ old.barred = true)) ∧
        (new.pressed = true ↔
          stuck = false ∧ seen ∧ k = 0 ∧ old.barred = false ∧ (old.pressed = true ∨ 1 ≤ old.run))) ∧
      (fault = true ∨ x.goodRun < 2 →
        new.barred = old.barred ∧ new.pressed = old.pressed ∧ new.run = old.run ∧ (new.shown = true ↔ seen))) ∧
  ∀ (s : State) (i : Fin 6) (e : StationCfg) (a b c d : Ch), s.bus.current = some i →
    (s.bus.stations[i]).entry = some e → judgeReply e.addr a b c d false = none →
    ∃ x : State, exec (.replyReceived a b c d false) s = .next (x.advance (i.val + 1)) ∧
      (x.bus.stations[i]).state = ((s.bus.stations[i]).good e.role b (c.getLsbD 0) s.bus.fault).state ∧
      (x.bus.stations[i]).keys = ((s.bus.stations[i]).good e.role b (c.getLsbD 0) s.bus.fault).keys ∧
      (x.bus.stations[i]).missRun = 0 ∧
      let old := s.bus.stations[i]
      let new := old.good e.role b (c.getLsbD 0) s.bus.fault
      let found := old.state ≠ .present ∧ new.state = .present
      ∃ m : State, m = { s with bus := { s.bus with stations := m.bus.stations }, notes := m.notes } ∧
        m.bus.stations[i] = new ∧ (∀ j : Fin 6, j ≠ i → m.bus.stations[j] = s.bus.stations[j]) ∧
        m.notes = (if found then s.notes.push (.station i e.addr true) else s.notes) ∧
        x =
          State.handPresses
            (((List.finRange 6).filter fun k => (old.keys[k]).pressed && !(new.keys[k]).pressed).foldl
              (fun t k => t.handRelease i e.role k) m).report
            i e.role ((List.finRange 6).filter fun k => (new.keys[k]).pressed && !(old.keys[k]).pressed)

/-- A STOP key counted pressed raises a halt event for its station, and its release takes the cause away (R30, R143). The
RESET key at the end of its time clears the halt latch when it is set and no cause is present, does nothing else, and
acts once for a press (R30, R144). A direction key with ENABLE admits a station record, after it has ended the link record
that holds the pack; with none to admit it is ignored or counts a conflict; its release, or ENABLE's, ends the record
`STOPPED` (R25, R27, R141). A keypad OPEN or CLOSE admits a door record in place of those of its side, and its STOP ends them
(R26, R142). ENABLE counted pressed in the reply that counts a direction key pressed serves as one pressed before (R140,
R141). STOP counted pressed with other keys is taken before them: the model's reading, log entry 18 (DEDUCED). -/
def Obligations.StopAndResetKeys : Prop :=
  ((∀ (s : State) (i : Fin 6) (r : Role) (ks : List (Fin 6)),
     ((0 : Fin 6) ∉ ks → s.handPresses i r (0 :: ks) = (s.handPresses i r [0]).handPresses i r ks) ∧
     ∀ a, r = .pendant a ∨ r = .platform a → s.handPresses i r (1 :: ks) = s.handPresses i r ks) ∧
   ∀ (s : State) (i k : Fin 6) (e : StationCfg) (auth : Auth) (a b c d : Ch), s.bus.current = some i →
     (s.bus.stations[i]).entry = some e → e.role = .pendant auth ∨ e.role = .platform auth → 2 ≤ k.val →
     judgeReply e.addr a b c d false = none → s.bus.fault = false → (s.bus.stations[i]).state = .present →
     let old := s.bus.stations[i]
     let new := old.good e.role b (c.getLsbD 0) false
     (old.keys[(1 : Fin 6)]).pressed = false → (old.keys[k]).pressed = false →
     (∀ j : Fin 6, (new.keys[j]).pressed = ((old.keys[j]).pressed || j == 1 || j == k)) →
     ∃ m : State, m = { s with bus := { s.bus with stations := m.bus.stations } } ∧ m.bus.stations[i] = new ∧
       (∀ j : Fin 6, j ≠ i → m.bus.stations[j] = s.bus.stations[j]) ∧ m.report.bus = m.bus ∧
       exec (.replyReceived a b c d false) s = .next ((m.report.handPresses i e.role [k]).advance (i.val + 1))) ∧
  ((∀ (s : State) (i : Fin 6) (r : Role) (a : Auth), r = .pendant a ∨ r = .platform a →
     let conflict (x : State) : Prop :=
       x = { s with bus := { s.bus with stations := x.bus.stations } } ∧
         x.bus.stations[i] = { s.bus.stations[i] with conflicts := min 65535 ((s.bus.stations[i]).conflicts + 1) } ∧
         ∀ j : Fin 6, j ≠ i → x.bus.stations[j] = s.bus.stations[j]
     let enabled := ((s.bus.stations[i]).keys[(1 : Fin 6)]).pressed = true
     let asks (k : Fin 6) (kind : Kind) (target : Option Int) : Prop :=
       (k = 2 ∧ kind = .lift ∧ target = some s.settings.plain.bedHt) ∨ (k = 3 ∧ kind = .lift ∧ target = some 0) ∨
         (k = 4 ∧ s.cond .atBed = true ∧ kind = .stow ∧ target = none) ∨
         (k = 4 ∧ s.cond .atBed = false ∧ kind = .tilt ∧ target = some 150) ∨
         (k = 5 ∧ (∃ v, s.chanValue 1 = some v ∧ 800 ≤ v) ∧ kind = .unstow ∧ target = none) ∨
         (k = 5 ∧ (∃ v, s.chanValue 1 = some v ∧ v < 800) ∧ kind = .tilt ∧ target = some (-100))
     (∀ ks, (0 : Fin 6) ∉ ks → ¬enabled → s.handPresses i r ks = s) ∧
     (enabled → s.handPresses i r [1] = s ∧
       (∀ k l : Fin 6, 2 ≤ k.val → 2 ≤ l.val → conflict (s.handPresses i r [k, l])) ∧
       (s.chanValue 1 = none → s.handPresses i r [5] = s) ∧
       ∀ k kind target, asks k kind target →
         let x := s.handPresses i r [k]
         let mine := ∃ y ∈ s.plan.records, y.kind.isLift = true ∧ y.origin ≠ .link
         (a.has kind = false → conflict x) ∧ (a.has kind = true → s.halt.set = true → x = s) ∧
         (a.has kind = true → s.halt.set = false → mine → conflict x) ∧
         (a.has kind = true → s.halt.set = false → ¬mine →
           ∃ m : State, ((∀ y, s.packRecord = some y → y.origin ≠ .link) → m = s) ∧
             (∀ y, s.packRecord = some y → y.origin = .link →
               s.Ends m y .cancelled (some .override) ∧ (s.sound = true → m.packFree)) ∧
             (12 ≤ m.plan.records.length → conflict x) ∧
             (m.plan.records.length < 12 → ∃ y, x = { m with plan := x.plan } ∧ x.plan.records = m.plan.records ++ [y] ∧
               y.handle = m.plan.newHandle ∧ y.kind = kind ∧ y.side = none ∧ y.origin = .station i ∧ y.key = some k ∧
               y.target = target.map (m.clampTarget kind) ∧ y.pred = none ∧ y.seq = none ∧ y.waitFrom = some m.now ∧
               (y.state = .waiting ∨ y.state = .blocked)))) ∧
     ∀ k : Fin 6, k ≠ 0 →
       let mine := s.plan.records.find? fun y => y.origin == .station i && y.kind.isLift && (k == 1 || y.key == some k)
       (mine = none → s.handRelease i r k = s) ∧
       ∀ y, mine = some y → s.plan.handlesGood = true →
         s.Ends (s.handRelease i r k) y .stopped none ∧
           (s.sound = true → s.holdsPack y.handle = true → (s.handRelease i r k).packFree)) ∧
   (∀ (s : State) (i : Fin 6) (side : Side),
     let none_ (m : State) : Prop := ∀ y ∈ m.plan.records, y.side ≠ some side
     let ends (m : State) (why : EndReason) : Prop :=
       none_ m ∧ s.Follows m ∧ (none_ s → m = s) ∧
         (s.plan.handlesGood = true → ∀ y ∈ s.plan.records, y.side = some side →
           ∃ p, s.queued m (.ended y.handle y.kind .cancelled (some why) p) ∨
             s.queued m (.ended y.handle y.kind .cancelled (some .pred) p)) ∧
         (s.sound = true → s.plan.handlesGood = true → m.arb.channel side = none)
     let conflict (m x : State) : Prop :=
       x = { m with bus := { m.bus with stations := x.bus.stations } } ∧
         x.bus.stations[i] = { m.bus.stations[i] with conflicts := min 65535 ((m.bus.stations[i]).conflicts + 1) } ∧
         ∀ j : Fin 6, j ≠ i → x.bus.stations[j] = m.bus.stations[j]
     (s.inv = true → ends (s.handPresses i (.keypad side) [0]) .station) ∧
     conflict s (s.handPresses i (.keypad side) [1, 2]) ∧
     (∀ k, s.handRelease i (.keypad side) k = s) ∧
     ∀ (k : Fin 6) (kind : Kind), (k, kind) ∈ [((1 : Fin 6), Kind.doorOpen), (2, .doorShut)] →
       let x := s.handPresses i (.keypad side) [k]
       let same := ∃ y ∈ s.plan.records, y.side = some side ∧ y.kind = kind
       (s.halt.set = true ∨ same → x = s) ∧
       (s.inv = true → s.halt.set = false → ¬same →
         ∃ m : State, ends m .supersede ∧ (12 ≤ m.plan.records.length → conflict m x) ∧
           (m.plan.records.length < 12 → ∃ y, x = { m with plan := x.plan } ∧ x.plan.records = m.plan.records ++ [y] ∧
             y.handle = m.plan.newHandle ∧ y.kind = kind ∧ y.side = some side ∧ y.origin = .station i ∧ y.target = none ∧
             y.pred = none ∧ (y.state = .waiting ∨ y.state = .blocked)))) ∧
   ∀ (s : State) (i : Fin 6),
     let timed (d : Option Nat) : State :=
       { s with bus := { s.bus with stations := modAt s.bus.stations i fun x => { x with resetAt := d } } }
     s.handPresses i .cab [1] = timed (some (s.now + 1000)) ∧ s.handRelease i .cab 1 = timed none) ∧
  (∀ (s : State) (i : Fin 6) (r : Role), (∀ side, r ≠ .keypad side) →
     (s.handPresses i r [0]).halt.set = true ∧ (s.handPresses i r [0]).halt.stations[i] = true ∧
       (s.halt.set = false → (s.handPresses i r [0]).plan.records = [] ∧
         (s.handPresses i r [0]).halt.first = some (.station i)) ∧
       s.handRelease i r 0 = { s with halt := { s.halt with stations := modAt s.halt.stations i fun _ => false } }) ∧
  ∀ (s : State) (i : Fin 6) (t0 : Nat), (s.bus.stations[i]).resetAt = some t0 →
    ∃ x : State, exec (.resetTimerExpiry i) s = .next x.conclude ∧ x.now = max s.now t0 ∧
      (x.bus.stations[i]).resetAt = none ∧
      (s.halt.set = true → s.halt.present = false → x.halt.set = false ∧ x.halt.first = none) ∧
      (s.halt.set = false ∨ s.halt.present = true → x.halt = s.halt) ∧ x.plan.records.length = s.plan.records.length

/-! ### The beacons and the sounder -/

/-- The slots of each pattern (R148). The pattern clock goes to the slot of the tenths of a second since reset, mod 20, which
is the next one where its row is taken in time; nothing shifts its grid; and every channel takes the level its class's
pattern has there: ALARM before MOTION before the host's pattern (R147, R153, R154, R157). ALARM is active while the
drive-away flag is set, and on B0, B1 and SND while the halt latch is; MOTION during rear or side movement and its trail, and
on SND during a run with `SNDMOVE` (R149 to R153). The ending of a movement starts its trail, a halt event's too, with
`TRAILMS` to run; that with `TRAILMS` at 0 it is expired before the arbiter's look is the model's choice, log entry 44 (DESIGN
CHOICE). The trails expire (R150, R151). -/
def Obligations.PatternAndTrails : Prop :=
  (∀ slot < 20,
     (Pattern.off.on slot = false) ∧ (Pattern.steady.on slot = true) ∧
     (Pattern.flash.on slot = true ↔ slot ≤ 4 ∨ (10 ≤ slot ∧ slot ≤ 14)) ∧
     (Pattern.altA.on slot = true ↔ slot ≤ 4 ∨ (10 ≤ slot ∧ slot ≤ 14)) ∧
     (Pattern.altB.on slot = true ↔ (5 ≤ slot ∧ slot ≤ 9) ∨ (15 ≤ slot ∧ slot ≤ 19)) ∧
     (Pattern.fast.on slot = true ↔ slot ∈ [0, 1, 4, 5, 8, 9, 12, 13, 16, 17]) ∧
     (Pattern.double.on slot = true ↔ slot ∈ [0, 2, 10, 12])) ∧
  (∀ s : State,
    ∃ u : State, exec .patternSlot s = .next u ∧ s.Follows u ∧ u.now = max s.now s.beac.nextAt ∧
      u.beac.slot = u.now / 100 % 20 ∧
      (s.inv = true → u.now < u.beac.nextAt ∧ u.beac.nextAt ≤ u.now + 100 ∧ u.beac.nextAt % 100 = 0 ∧
        (s.now < s.beac.nextAt + 100 → u.beac.slot = (s.beac.slot + 1) % 20)) ∧
      ∀ l : Lamp,
        let c := u.beac.lamps[lampIdx l]
        c.host = (s.beac.lamps[lampIdx l]).host ∧
        c.cls = (if s.alarm l then .alarm else if s.motion l then .motion else if c.host ≠ .off then .host else .off) ∧
        c.pattern =
          (match c.cls with
            | .alarm => .fast
            | .motion => if l = .snd then .double else .flash
            | .host => c.host
            | .off => .off) ∧
        c.level = (c.pattern.on u.beac.slot && !(s.beac.lamps[lampIdx l]).forced)) ∧
  (∀ s : State,
    let moves (states : List RecState) : Prop := ∃ r, s.packRecord = some r ∧ r.state ∈ states
    let slides (side : Side) : Prop :=
      ∃ r, s.doorRecord side = some r ∧ r.state = .running ∧ (s.door side).phase.isSome
    (∀ l, s.alarm l = true ↔ s.eval.driveAway = true ∨ (s.halt.set = true ∧ l ∈ [Lamp.b0, .b1, .snd])) ∧
    (∀ l ∈ [Lamp.b0, .b1],
      s.motion l = true ↔ moves [.lead, .running, .holding, .settling] ∨ s.beac.rearTrail.isSome) ∧
    (s.sound = true →
      (s.motion .b2 = true ↔ slides .near ∨ s.beac.nearTrail.isSome) ∧
      (s.motion .b3 = true ↔ slides .off ∨ s.beac.offTrail.isSome)) ∧
    (s.motion .snd = true ↔ s.settings.plain.sndMove = 1 ∧ moves [.running])) ∧
  (∀ s : State, s.sound = true →
    let trail := if s.settings.plain.trailMs = 0 then none else some (s.now + s.settings.plain.trailMs.toNat)
    (∀ (r : Record) (o : RecOutcome) (why : Option EndReason), s.find r.handle = some r →
      (s.endOne r.handle o why).beac =
        { s.beac with
          rearTrail := if s.holdsPack r.handle then trail else s.beac.rearTrail
          nearTrail := if s.holdsDoor .near r.handle then trail else s.beac.nearTrail
          offTrail := if s.holdsDoor .off r.handle then trail else s.beac.offTrail } ∧
      (s.holdsPack r.handle = true → (s.endTree r.handle o why).beac.rearTrail = trail) ∧
      (s.holdsDoor .near r.handle = true → (s.endTree r.handle o why).beac.nearTrail = trail) ∧
      (s.holdsDoor .off r.handle = true → (s.endTree r.handle o why).beac.offTrail = trail)) ∧
    ∀ c, s.halt.set = false → s.plan.handlesGood = true →
      (s.raiseHalt c).beac =
        { s.beac with
          rearTrail := if s.arb.pack.isSome then trail else s.beac.rearTrail
          nearTrail := if s.arb.near.isSome then trail else s.beac.nearTrail
          offTrail := if s.arb.off.isSome then trail else s.beac.offTrail }) ∧
  ∀ (s : State) (t0 : Nat),
    (s.beac.rearTrail = some t0 →
      ∃ x : State, exec .rearTrailExpiry s = .next x.conclude ∧ x.beac = { s.beac with rearTrail := none } ∧
        x.now = max s.now t0 ∧ s.Follows x) ∧
    (s.beac.nearTrail = some t0 →
      ∃ x : State, exec (.sideTrailExpiry .near) s = .next x.conclude ∧ x.beac = { s.beac with nearTrail := none } ∧
        x.now = max s.now t0 ∧ s.Follows x) ∧
    (s.beac.offTrail = some t0 →
      ∃ x : State, exec (.sideTrailExpiry .off) s = .next x.conclude ∧ x.beac = { s.beac with offTrail := none } ∧
        x.now = max s.now t0 ∧ s.Follows x)

/-- A lamp check latches the fault its diagnostic shows, once, with its `LAMP` notice, and a short forces the channel off;
a read-back that has differed for 20 ms latches `STUCK`, and one that agrees is nothing to act on (R155 to R157). A mismatch
counts from the read-back or the switch-off that began it, and not before 50 ms have passed from a switch-on. That a
read-back comes by the row of the raw levels, and counts from its own time, is the model's choice, log entry 19. -/
def Obligations.LampFaultsLatch : Prop :=
  ∀ (s : State) (l : Lamp),
    let old := s.beac.lamps[lampIdx l]
    (∀ t0 d, old.checkAt = some t0 →
      ∃ x : State, exec (.lampCheck l d) s = .next x.conclude ∧ x.now = max s.now t0 ∧
        let new := x.beac.lamps[lampIdx l]
        new.checkAt = none ∧
        new.openF = (old.openF || decide (d = .openLoad)) ∧ new.shortF = (old.shortF || decide (d = .short)) ∧
        new.stuckF = old.stuckF ∧ (d = .short → old.shortF = false → new.forced = true ∧ new.level = false) ∧
        (∀ f, (d = .openLoad ∧ f = .openLoad ∧ old.openF = false) ∨ (d = .short ∧ f = .short ∧ old.shortF = false) →
          s.queued x (.lamp l f)) ∧
        ∀ k, k ≠ l → x.beac.lamps[lampIdx k] = s.beac.lamps[lampIdx k]) ∧
    (∀ d, old.checkAt = none → exec (.lampCheck l d) s = .next s) ∧
    (old.readBack ≠ old.level →
      ∃ x : State, exec (.readbackMismatch l) s = .next x.conclude ∧ x.now = max s.now (old.compareFrom + 20) ∧
        x.beac.lamps[lampIdx l] = { old with stuckF := true } ∧ (old.stuckF = false → s.queued x (.lamp l .stuck)) ∧
        (old.stuckF = true → s.Follows x) ∧ ∀ k, k ≠ l → x.beac.lamps[lampIdx k] = s.beac.lamps[lampIdx k]) ∧
    (old.readBack = old.level → exec (.readbackMismatch l) s = .next s) ∧
    (∀ level, ∃ x : State, exec (.inputRawChange (.readBack l) level) s = .next x.conclude ∧
      x = { s with beac := { s.beac with lamps := x.beac.lamps } } ∧
      x.beac.lamps[lampIdx l] =
        { old with
          readBack := level
          compareFrom := if old.readBack = level then old.compareFrom else max old.compareFrom s.now } ∧
      ∀ k, k ≠ l → x.beac.lamps[lampIdx k] = s.beac.lamps[lampIdx k]) ∧
    ∀ now,
      (old.level = false →
        old.drive true now = { old with level := true, checkAt := some (now + 50), compareFrom := now + 50 }) ∧
      (old.level = true →
        old.drive false now = { old with level := false, checkAt := none, compareFrom := max old.compareFrom now }) ∧
      old.drive old.level now = old

/-! ### Start-up and frames -/

/-- Either reset puts every block at its reset values, samples the strap and begins the image read (R3, R28, R190, R199).
It keeps the stored image and the levels at the pins, the read-backs of the lamp drivers among them (log entry 6, DEDUCED),
and the settings and counters stand at their defaults until the read ends (log entry 5, DESIGN CHOICE). -/
def Obligations.ResetsRestart : Prop :=
  ∀ (s : State) (strap : Bool) (c : Instr) (k : ResetKind),
    (c, k) ∈ [(Instr.powerOnReset strap, ResetKind.powerOn), (.resetPin strap, .pin)] →
    ∃ u : State, exec c s = .next u ∧
      u = { State.reset with
        fresh := s.fresh, pending := s.pending, inputs := u.inputs
        beac := { State.reset.beac with lamps := u.beac.lamps }
        link := { State.reset.link with strap := strap }
        store := ⟨s.store.image, none, false⟩, startup := ⟨true, k, false⟩ } ∧
      (∀ l, u.beac.lamps[lampIdx l] = { LampCh.reset with readBack := (s.beac.lamps[lampIdx l]).readBack }) ∧
      (∀ d, u.inputs.get d = ⟨(s.inputs.get d).raw, 0, none⟩) ∧ u.inputs.estopRaw = s.inputs.estopRaw ∧
      u.inputs.estopCounted = false ∧ u.inputs.pumpFb = s.inputs.pumpFb ∧ u.outputsOff = true ∧
      u.plan.records = [] ∧ u.plan.recent = [] ∧ u.plan.peak = 0 ∧ u.plan.nextHandle = 1 ∧ u.plan.nextSeq = 1 ∧
      u.halt.set = false ∧ u.notes.entries = [] ∧ u.notes.attn = false ∧ u.waits = true

/-- The end of the image read: a valid image is loaded whole, an invalid one gives the defaults and a `DEFAULTS` notice;
scanning and polling begin; an active ESTOP halts (R199, R200). An image is valid by its check word, the ranges of its
settings and counters, the distinct addresses of its stations and the order of each calibration pair (R199). What waited on
the link through the read is then taken as far as it may be (R182, R199), before the first poll cycle begins: the model's
choice, log entry 51 (DESIGN CHOICE); that each request so taken is an event of its own, and its row the arrival of the whole
record, are the model's choices, log entries 45 and 14. -/
def Obligations.ImageReadEnds : Prop :=
  (∀ s : State, s.startup.reading = true →
    ∃ x : State, exec .imageReadEnd s = .next x.conclude.drain ∧ x.now = max s.now 25 ∧ x.startup.reading = false ∧
      x.startup.kind = s.startup.kind ∧ x.conv.scanning = true ∧ x.bus.polling = true ∧ x.bus.nextAt = x.now ∧
      x.store = s.store ∧ x.link = s.link ∧ x.conclude.link = s.link ∧
      (s.store.image.good = true → x.settings = s.store.image.settings ∧ x.startup.defaults = false ∧
        (s.inputs.estopRaw = false → x.cnt.recs = s.store.image.counters)) ∧
      (s.store.image.good = false → x.settings = Settings.default ∧ x.startup.defaults = true ∧
        s.queued x (.defaults s.startup.kind) ∧
        (s.inputs.estopRaw = false → x.cnt.recs = Counters.defaultRecs)) ∧
      (∀ i : Fin 6, (x.bus.stations[i]).entry = x.settings.stn[i]) ∧
      (s.inputs.estopRaw = true → s.inputs.estopCounted = false → x.halt.set = true ∧ x.halt.estop = true ∧
        x.inputs.estopCounted = true) ∧
      (s.inputs.estopRaw = false → x.halt = s.halt) ∧
      (s.inv = true →
        let l := s.link
        let waits := 16 < l.tx.length ∨ l.feed ≠ [] ∨ l.calp.isSome
        let freed : State := { x.conclude with link := { l with fifo := [] } }
        (waits ∨ (l.fifo = [] ∧ l.complete = none) → exec .imageReadEnd s = .next x.conclude) ∧
        (¬waits → l.complete = none → ∀ c, l.fifo = [⟨c, false, false⟩] → c ≠ 0x21#8 →
          exec .imageReadEnd s = exec (.characterReceived c false) freed) ∧
        (¬waits → l.complete = none → l.asm = .hunting → ∀ (i : Instr) (r : Request), i.request = some r → r.fits = true →
          l.fifo = (recordText r ++ [0x0D#8]).map (fun c => ⟨c, false, false⟩) → exec .imageReadEnd s = exec i freed) ∧
        ∃ u, exec .imageReadEnd s = .next u ∧
          ((u.link.fifo = [] ∧ u.link.complete = none) ∨ u.link.calp.isSome ∨ u.link.feed ≠ [] ∨ 16 < u.link.tx.length))) ∧
  (∀ m : Image,
    let w := m.settings
    m.good = true ↔
      m.valid = true ∧ (∀ p : PlainName, p.range.1 ≤ w.plain.get p ∧ w.plain.get p ≤ p.range.2) ∧
        (∀ (i : Fin 6) (e : StationCfg), w.stn[i] = some e → 1 ≤ e.addr ∧ e.addr ≤ 15 ∧
          ∀ j : Fin 6, j ≠ i → ∀ f, w.stn[j] = some f → f.addr ≠ e.addr) ∧
        (∀ n : Fin 9,
          let k := w.cal[n]
          0 ≤ k.cLo ∧ k.cLo < k.cHi ∧ k.cHi ≤ 4096 ∧ (chanRange n).1 ≤ k.vLo ∧ k.vLo ≤ (chanRange n).2 ∧
            (chanRange n).1 ≤ k.vHi ∧ k.vHi ≤ (chanRange n).2) ∧
        ∀ k : Fin 8, (m.counters[k]).threshold ≤ 4294967295 ∧ (m.counters[k]).value ≤ 4294967295 ∧
          (m.counters[k]).residue ≤ 99) ∧
  ∀ s : State, s.startup.reading = false → exec .imageReadEnd s = .next s

/-- An event of a record's timer, a run, the contactor's holder, a door, a beacon or a counter changes nothing but the plan
table, the arbiter, the axis controller, the doors, the beacons, the counters, the drive-away flag, the notices and the
time; an event of a door that ends its record, or of a scan, may also count switches of the side that are due (R99 to R101,
R105; of the end of `REVERSE` the model's reading, log entry 34). A command of the station bus, a request, and a pin or
supply event leave what they do not concern, and every command leaves the queue. -/
def Obligations.EventFrames : Prop :=
  (∀ (s u : State) (c : Instr), exec c s = .next u →
     (match c with
       | .waitLimitExpiry _ | .leadTimeExpiry _ | .holdTimerExpiry _ | .settleTimerExpiry | .stall | .runLimitTimeout
       | .groundTimeExpiry | .overload | .contactorMakeTimeout | .contactorDropout | .pumpRestPassed | .pumpOvercurrent
       | .unlatchWindowExpiry _ | .patternSlot | .lampCheck _ _ | .readbackMismatch _ | .rearTrailExpiry
       | .sideTrailExpiry _ | .durationCount _ => s.Follows u
       | .doortimeExpiry side | .pullinWindowExpiry side | .obstruction side | .reverseEnd side =>
         s.FollowsDoors u [side]
       | _ => True)) ∧
  ∀ (s u : State) (c : Instr), exec c s = .next u → u.pending = s.pending ∧
    (match c with
      | .pollCycleStart | .pollAbort | .replyReceived _ _ _ _ _ | .replyWindowClose _ | .resetTimerExpiry _ =>
        u.conv = s.conv ∧ u.inputs = s.inputs ∧ u.link = s.link ∧ u.store = s.store ∧ u.settings = s.settings ∧
          u.supply = s.supply ∧ u.startup = s.startup ∧ u.eval.edges = s.eval.edges ∧ u.eval.speed = s.eval.speed
      | .inputCountedChange _ | .estopActive | .estopReleaseCounted | .contactorMade | .weldedContactor
      | .inputRawChange _ _ | .speedComputation | .roadSpeedEdge | .supplyStateChange =>
        u.conv = s.conv ∧ u.link = s.link ∧ u.bus = s.bus ∧ u.settings = s.settings ∧ u.startup = s.startup
      | .saveEnd => u.conv = s.conv ∧ u.inputs = s.inputs ∧ u.link = s.link ∧ u.bus = s.bus ∧ u.halt = s.halt ∧
          u.supply = s.supply ∧ u.startup = s.startup
      | .supervisionTimerExpiry | .haltCharacter | .lineBreak =>
        u.conv = s.conv ∧ u.inputs = s.inputs ∧ u.bus = s.bus ∧ u.store = s.store ∧ u.supply = s.supply ∧
          u.startup = s.startup
      | .powerOnReset _ | .resetPin _ | .imageReadEnd => True
      | .characterReceived _ _ | .rejectedRecord _ | .transmitCharacterSent => u.conv = s.conv ∧ u.inputs = s.inputs
      | .scanResult _ | .calpCompletion _ => s.inputs.recounted u.inputs [.near, .off] ∧ u.startup = s.startup
      | .doortimeExpiry _ | .pullinWindowExpiry _ | .obstruction _ | .reverseEnd _ =>
        u.conv = s.conv ∧ u.supply = s.supply ∧ u.startup = s.startup ∧ u.eval.edges = s.eval.edges ∧
          u.eval.speed = s.eval.speed
      | _ => u.conv = s.conv ∧ u.inputs = s.inputs ∧ u.supply = s.supply ∧ u.startup = s.startup ∧
          u.eval.edges = s.eval.edges ∧ u.eval.speed = s.eval.speed)
end

