-- ==== Sys2Proof/Laws/State.lean ====
section
/-!
SUPPORT. What each named update of the state leaves as it is: one lemma for each field, true by unfolding. No later proof
unfolds a record update for the fields it does not change.
-/

namespace Sys2Proof.Machine

variable (s : State)

/-! ### A record of the plan table changed -/

@[simp] theorem State.upd_now (h : Handle) (f : Record → Record) : (s.upd h f).now = s.now := rfl
@[simp] theorem State.upd_fresh (h : Handle) (f : Record → Record) : (s.upd h f).fresh = s.fresh := rfl
@[simp] theorem State.upd_pending (h : Handle) (f : Record → Record) : (s.upd h f).pending = s.pending := rfl
@[simp] theorem State.upd_settings (h : Handle) (f : Record → Record) : (s.upd h f).settings = s.settings := rfl
@[simp] theorem State.upd_halt (h : Handle) (f : Record → Record) : (s.upd h f).halt = s.halt := rfl
@[simp] theorem State.upd_inputs (h : Handle) (f : Record → Record) : (s.upd h f).inputs = s.inputs := rfl
@[simp] theorem State.upd_eval (h : Handle) (f : Record → Record) : (s.upd h f).eval = s.eval := rfl
@[simp] theorem State.upd_arb (h : Handle) (f : Record → Record) : (s.upd h f).arb = s.arb := rfl
@[simp] theorem State.upd_supply (h : Handle) (f : Record → Record) : (s.upd h f).supply = s.supply := rfl
@[simp] theorem State.upd_axis (h : Handle) (f : Record → Record) : (s.upd h f).axis = s.axis := rfl
@[simp] theorem State.upd_near (h : Handle) (f : Record → Record) : (s.upd h f).near = s.near := rfl
@[simp] theorem State.upd_off (h : Handle) (f : Record → Record) : (s.upd h f).off = s.off := rfl
@[simp] theorem State.upd_conv (h : Handle) (f : Record → Record) : (s.upd h f).conv = s.conv := rfl
@[simp] theorem State.upd_bus (h : Handle) (f : Record → Record) : (s.upd h f).bus = s.bus := rfl
@[simp] theorem State.upd_beac (h : Handle) (f : Record → Record) : (s.upd h f).beac = s.beac := rfl
@[simp] theorem State.upd_cnt (h : Handle) (f : Record → Record) : (s.upd h f).cnt = s.cnt := rfl
@[simp] theorem State.upd_link (h : Handle) (f : Record → Record) : (s.upd h f).link = s.link := rfl
@[simp] theorem State.upd_notes (h : Handle) (f : Record → Record) : (s.upd h f).notes = s.notes := rfl
@[simp] theorem State.upd_store (h : Handle) (f : Record → Record) : (s.upd h f).store = s.store := rfl
@[simp] theorem State.upd_startup (h : Handle) (f : Record → Record) : (s.upd h f).startup = s.startup := rfl

/-! ### A notice queued -/

@[simp] theorem State.notify_now (n : Notice) : (s.notify n).now = s.now := rfl
@[simp] theorem State.notify_fresh (n : Notice) : (s.notify n).fresh = s.fresh := rfl
@[simp] theorem State.notify_pending (n : Notice) : (s.notify n).pending = s.pending := rfl
@[simp] theorem State.notify_settings (n : Notice) : (s.notify n).settings = s.settings := rfl
@[simp] theorem State.notify_plan (n : Notice) : (s.notify n).plan = s.plan := rfl
@[simp] theorem State.notify_halt (n : Notice) : (s.notify n).halt = s.halt := rfl
@[simp] theorem State.notify_inputs (n : Notice) : (s.notify n).inputs = s.inputs := rfl
@[simp] theorem State.notify_eval (n : Notice) : (s.notify n).eval = s.eval := rfl
@[simp] theorem State.notify_arb (n : Notice) : (s.notify n).arb = s.arb := rfl
@[simp] theorem State.notify_supply (n : Notice) : (s.notify n).supply = s.supply := rfl
@[simp] theorem State.notify_axis (n : Notice) : (s.notify n).axis = s.axis := rfl
@[simp] theorem State.notify_near (n : Notice) : (s.notify n).near = s.near := rfl
@[simp] theorem State.notify_off (n : Notice) : (s.notify n).off = s.off := rfl
@[simp] theorem State.notify_conv (n : Notice) : (s.notify n).conv = s.conv := rfl
@[simp] theorem State.notify_bus (n : Notice) : (s.notify n).bus = s.bus := rfl
@[simp] theorem State.notify_beac (n : Notice) : (s.notify n).beac = s.beac := rfl
@[simp] theorem State.notify_cnt (n : Notice) : (s.notify n).cnt = s.cnt := rfl
@[simp] theorem State.notify_link (n : Notice) : (s.notify n).link = s.link := rfl
@[simp] theorem State.notify_store (n : Notice) : (s.notify n).store = s.store := rfl
@[simp] theorem State.notify_startup (n : Notice) : (s.notify n).startup = s.startup := rfl

/-! ### A run put into CREEP -/

@[simp] theorem State.creepRun_now (run : Run) : (s.creepRun run).now = s.now := rfl
@[simp] theorem State.creepRun_fresh (run : Run) : (s.creepRun run).fresh = s.fresh := rfl
@[simp] theorem State.creepRun_pending (run : Run) : (s.creepRun run).pending = s.pending := rfl
@[simp] theorem State.creepRun_settings (run : Run) : (s.creepRun run).settings = s.settings := rfl
@[simp] theorem State.creepRun_plan (run : Run) : (s.creepRun run).plan = s.plan := rfl
@[simp] theorem State.creepRun_halt (run : Run) : (s.creepRun run).halt = s.halt := rfl
@[simp] theorem State.creepRun_inputs (run : Run) : (s.creepRun run).inputs = s.inputs := rfl
@[simp] theorem State.creepRun_eval (run : Run) : (s.creepRun run).eval = s.eval := rfl
@[simp] theorem State.creepRun_arb (run : Run) : (s.creepRun run).arb = s.arb := rfl
@[simp] theorem State.creepRun_supply (run : Run) : (s.creepRun run).supply = s.supply := rfl
@[simp] theorem State.creepRun_near (run : Run) : (s.creepRun run).near = s.near := rfl
@[simp] theorem State.creepRun_off (run : Run) : (s.creepRun run).off = s.off := rfl
@[simp] theorem State.creepRun_conv (run : Run) : (s.creepRun run).conv = s.conv := rfl
@[simp] theorem State.creepRun_bus (run : Run) : (s.creepRun run).bus = s.bus := rfl
@[simp] theorem State.creepRun_beac (run : Run) : (s.creepRun run).beac = s.beac := rfl
@[simp] theorem State.creepRun_cnt (run : Run) : (s.creepRun run).cnt = s.cnt := rfl
@[simp] theorem State.creepRun_link (run : Run) : (s.creepRun run).link = s.link := rfl
@[simp] theorem State.creepRun_notes (run : Run) : (s.creepRun run).notes = s.notes := rfl
@[simp] theorem State.creepRun_store (run : Run) : (s.creepRun run).store = s.store := rfl
@[simp] theorem State.creepRun_startup (run : Run) : (s.creepRun run).startup = s.startup := rfl

/-! ### A pump stop -/

@[simp] theorem State.pumpStop_now : s.pumpStop.now = s.now := rfl
@[simp] theorem State.pumpStop_fresh : s.pumpStop.fresh = s.fresh := rfl
@[simp] theorem State.pumpStop_pending : s.pumpStop.pending = s.pending := rfl
@[simp] theorem State.pumpStop_settings : s.pumpStop.settings = s.settings := rfl
@[simp] theorem State.pumpStop_plan : s.pumpStop.plan = s.plan := rfl
@[simp] theorem State.pumpStop_halt : s.pumpStop.halt = s.halt := rfl
@[simp] theorem State.pumpStop_inputs : s.pumpStop.inputs = s.inputs := rfl
@[simp] theorem State.pumpStop_eval : s.pumpStop.eval = s.eval := rfl
@[simp] theorem State.pumpStop_supply : s.pumpStop.supply = s.supply := rfl
@[simp] theorem State.pumpStop_axis : s.pumpStop.axis = s.axis := rfl
@[simp] theorem State.pumpStop_near : s.pumpStop.near = s.near := rfl
@[simp] theorem State.pumpStop_off : s.pumpStop.off = s.off := rfl
@[simp] theorem State.pumpStop_conv : s.pumpStop.conv = s.conv := rfl
@[simp] theorem State.pumpStop_bus : s.pumpStop.bus = s.bus := rfl
@[simp] theorem State.pumpStop_beac : s.pumpStop.beac = s.beac := rfl
@[simp] theorem State.pumpStop_cnt : s.pumpStop.cnt = s.cnt := rfl
@[simp] theorem State.pumpStop_link : s.pumpStop.link = s.link := rfl
@[simp] theorem State.pumpStop_notes : s.pumpStop.notes = s.notes := rfl
@[simp] theorem State.pumpStop_store : s.pumpStop.store = s.store := rfl
@[simp] theorem State.pumpStop_startup : s.pumpStop.startup = s.startup := rfl

/-! ### The halt latch cleared -/

@[simp] theorem State.clearHalt_now : s.clearHalt.now = s.now := rfl
@[simp] theorem State.clearHalt_fresh : s.clearHalt.fresh = s.fresh := rfl
@[simp] theorem State.clearHalt_pending : s.clearHalt.pending = s.pending := rfl
@[simp] theorem State.clearHalt_settings : s.clearHalt.settings = s.settings := rfl
@[simp] theorem State.clearHalt_plan : s.clearHalt.plan = s.plan := rfl
@[simp] theorem State.clearHalt_inputs : s.clearHalt.inputs = s.inputs := rfl
@[simp] theorem State.clearHalt_eval : s.clearHalt.eval = s.eval := rfl
@[simp] theorem State.clearHalt_arb : s.clearHalt.arb = s.arb := rfl
@[simp] theorem State.clearHalt_supply : s.clearHalt.supply = s.supply := rfl
@[simp] theorem State.clearHalt_axis : s.clearHalt.axis = s.axis := rfl
@[simp] theorem State.clearHalt_near : s.clearHalt.near = s.near := rfl
@[simp] theorem State.clearHalt_off : s.clearHalt.off = s.off := rfl
@[simp] theorem State.clearHalt_conv : s.clearHalt.conv = s.conv := rfl
@[simp] theorem State.clearHalt_bus : s.clearHalt.bus = s.bus := rfl
@[simp] theorem State.clearHalt_beac : s.clearHalt.beac = s.beac := rfl
@[simp] theorem State.clearHalt_cnt : s.clearHalt.cnt = s.cnt := rfl
@[simp] theorem State.clearHalt_link : s.clearHalt.link = s.link := rfl
@[simp] theorem State.clearHalt_notes : s.clearHalt.notes = s.notes := rfl
@[simp] theorem State.clearHalt_store : s.clearHalt.store = s.store := rfl
@[simp] theorem State.clearHalt_startup : s.clearHalt.startup = s.startup := rfl

/-! ### The beacons resolved -/

@[simp] theorem State.resolveAll_now : s.resolveAll.now = s.now := rfl
@[simp] theorem State.resolveAll_fresh : s.resolveAll.fresh = s.fresh := rfl
@[simp] theorem State.resolveAll_pending : s.resolveAll.pending = s.pending := rfl
@[simp] theorem State.resolveAll_settings : s.resolveAll.settings = s.settings := rfl
@[simp] theorem State.resolveAll_plan : s.resolveAll.plan = s.plan := rfl
@[simp] theorem State.resolveAll_halt : s.resolveAll.halt = s.halt := rfl
@[simp] theorem State.resolveAll_inputs : s.resolveAll.inputs = s.inputs := rfl
@[simp] theorem State.resolveAll_eval : s.resolveAll.eval = s.eval := rfl
@[simp] theorem State.resolveAll_arb : s.resolveAll.arb = s.arb := rfl
@[simp] theorem State.resolveAll_supply : s.resolveAll.supply = s.supply := rfl
@[simp] theorem State.resolveAll_axis : s.resolveAll.axis = s.axis := rfl
@[simp] theorem State.resolveAll_near : s.resolveAll.near = s.near := rfl
@[simp] theorem State.resolveAll_off : s.resolveAll.off = s.off := rfl
@[simp] theorem State.resolveAll_conv : s.resolveAll.conv = s.conv := rfl
@[simp] theorem State.resolveAll_bus : s.resolveAll.bus = s.bus := rfl
@[simp] theorem State.resolveAll_cnt : s.resolveAll.cnt = s.cnt := rfl
@[simp] theorem State.resolveAll_link : s.resolveAll.link = s.link := rfl
@[simp] theorem State.resolveAll_notes : s.resolveAll.notes = s.notes := rfl
@[simp] theorem State.resolveAll_store : s.resolveAll.store = s.store := rfl
@[simp] theorem State.resolveAll_startup : s.resolveAll.startup = s.startup := rfl

/-! ### A beacon channel changed -/

@[simp] theorem State.updLamp_now (l : Lamp) (f : LampCh → LampCh) : (s.updLamp l f).now = s.now := rfl
@[simp] theorem State.updLamp_fresh (l : Lamp) (f : LampCh → LampCh) : (s.updLamp l f).fresh = s.fresh := rfl
@[simp] theorem State.updLamp_pending (l : Lamp) (f : LampCh → LampCh) : (s.updLamp l f).pending = s.pending := rfl
@[simp] theorem State.updLamp_settings (l : Lamp) (f : LampCh → LampCh) : (s.updLamp l f).settings = s.settings := rfl
@[simp] theorem State.updLamp_plan (l : Lamp) (f : LampCh → LampCh) : (s.updLamp l f).plan = s.plan := rfl
@[simp] theorem State.updLamp_halt (l : Lamp) (f : LampCh → LampCh) : (s.updLamp l f).halt = s.halt := rfl
@[simp] theorem State.updLamp_inputs (l : Lamp) (f : LampCh → LampCh) : (s.updLamp l f).inputs = s.inputs := rfl
@[simp] theorem State.updLamp_eval (l : Lamp) (f : LampCh → LampCh) : (s.updLamp l f).eval = s.eval := rfl
@[simp] theorem State.updLamp_arb (l : Lamp) (f : LampCh → LampCh) : (s.updLamp l f).arb = s.arb := rfl
@[simp] theorem State.updLamp_supply (l : Lamp) (f : LampCh → LampCh) : (s.updLamp l f).supply = s.supply := rfl
@[simp] theorem State.updLamp_axis (l : Lamp) (f : LampCh → LampCh) : (s.updLamp l f).axis = s.axis := rfl
@[simp] theorem State.updLamp_near (l : Lamp) (f : LampCh → LampCh) : (s.updLamp l f).near = s.near := rfl
@[simp] theorem State.updLamp_off (l : Lamp) (f : LampCh → LampCh) : (s.updLamp l f).off = s.off := rfl
@[simp] theorem State.updLamp_conv (l : Lamp) (f : LampCh → LampCh) : (s.updLamp l f).conv = s.conv := rfl
@[simp] theorem State.updLamp_bus (l : Lamp) (f : LampCh → LampCh) : (s.updLamp l f).bus = s.bus := rfl
@[simp] theorem State.updLamp_cnt (l : Lamp) (f : LampCh → LampCh) : (s.updLamp l f).cnt = s.cnt := rfl
@[simp] theorem State.updLamp_link (l : Lamp) (f : LampCh → LampCh) : (s.updLamp l f).link = s.link := rfl
@[simp] theorem State.updLamp_notes (l : Lamp) (f : LampCh → LampCh) : (s.updLamp l f).notes = s.notes := rfl
@[simp] theorem State.updLamp_store (l : Lamp) (f : LampCh → LampCh) : (s.updLamp l f).store = s.store := rfl
@[simp] theorem State.updLamp_startup (l : Lamp) (f : LampCh → LampCh) : (s.updLamp l f).startup = s.startup := rfl

/-! ### The next pattern slot -/

@[simp] theorem State.nextSlot_now : s.nextSlot.now = s.now := rfl
@[simp] theorem State.nextSlot_fresh : s.nextSlot.fresh = s.fresh := rfl
@[simp] theorem State.nextSlot_pending : s.nextSlot.pending = s.pending := rfl
@[simp] theorem State.nextSlot_settings : s.nextSlot.settings = s.settings := rfl
@[simp] theorem State.nextSlot_plan : s.nextSlot.plan = s.plan := rfl
@[simp] theorem State.nextSlot_halt : s.nextSlot.halt = s.halt := rfl
@[simp] theorem State.nextSlot_inputs : s.nextSlot.inputs = s.inputs := rfl
@[simp] theorem State.nextSlot_eval : s.nextSlot.eval = s.eval := rfl
@[simp] theorem State.nextSlot_arb : s.nextSlot.arb = s.arb := rfl
@[simp] theorem State.nextSlot_supply : s.nextSlot.supply = s.supply := rfl
@[simp] theorem State.nextSlot_axis : s.nextSlot.axis = s.axis := rfl
@[simp] theorem State.nextSlot_near : s.nextSlot.near = s.near := rfl
@[simp] theorem State.nextSlot_off : s.nextSlot.off = s.off := rfl
@[simp] theorem State.nextSlot_conv : s.nextSlot.conv = s.conv := rfl
@[simp] theorem State.nextSlot_bus : s.nextSlot.bus = s.bus := rfl
@[simp] theorem State.nextSlot_cnt : s.nextSlot.cnt = s.cnt := rfl
@[simp] theorem State.nextSlot_link : s.nextSlot.link = s.link := rfl
@[simp] theorem State.nextSlot_notes : s.nextSlot.notes = s.notes := rfl
@[simp] theorem State.nextSlot_store : s.nextSlot.store = s.store := rfl
@[simp] theorem State.nextSlot_startup : s.nextSlot.startup = s.startup := rfl

/-! ### A station replaced -/

@[simp] theorem State.setStation_now (i : Fin 6) (x : Station) : (s.setStation i x).now = s.now := rfl
@[simp] theorem State.setStation_fresh (i : Fin 6) (x : Station) : (s.setStation i x).fresh = s.fresh := rfl
@[simp] theorem State.setStation_pending (i : Fin 6) (x : Station) : (s.setStation i x).pending = s.pending := rfl
@[simp] theorem State.setStation_settings (i : Fin 6) (x : Station) : (s.setStation i x).settings = s.settings := rfl
@[simp] theorem State.setStation_plan (i : Fin 6) (x : Station) : (s.setStation i x).plan = s.plan := rfl
@[simp] theorem State.setStation_halt (i : Fin 6) (x : Station) : (s.setStation i x).halt = s.halt := rfl
@[simp] theorem State.setStation_inputs (i : Fin 6) (x : Station) : (s.setStation i x).inputs = s.inputs := rfl
@[simp] theorem State.setStation_eval (i : Fin 6) (x : Station) : (s.setStation i x).eval = s.eval := rfl
@[simp] theorem State.setStation_arb (i : Fin 6) (x : Station) : (s.setStation i x).arb = s.arb := rfl
@[simp] theorem State.setStation_supply (i : Fin 6) (x : Station) : (s.setStation i x).supply = s.supply := rfl
@[simp] theorem State.setStation_axis (i : Fin 6) (x : Station) : (s.setStation i x).axis = s.axis := rfl
@[simp] theorem State.setStation_near (i : Fin 6) (x : Station) : (s.setStation i x).near = s.near := rfl
@[simp] theorem State.setStation_off (i : Fin 6) (x : Station) : (s.setStation i x).off = s.off := rfl
@[simp] theorem State.setStation_conv (i : Fin 6) (x : Station) : (s.setStation i x).conv = s.conv := rfl
@[simp] theorem State.setStation_beac (i : Fin 6) (x : Station) : (s.setStation i x).beac = s.beac := rfl
@[simp] theorem State.setStation_cnt (i : Fin 6) (x : Station) : (s.setStation i x).cnt = s.cnt := rfl
@[simp] theorem State.setStation_link (i : Fin 6) (x : Station) : (s.setStation i x).link = s.link := rfl
@[simp] theorem State.setStation_notes (i : Fin 6) (x : Station) : (s.setStation i x).notes = s.notes := rfl
@[simp] theorem State.setStation_store (i : Fin 6) (x : Station) : (s.setStation i x).store = s.store := rfl
@[simp] theorem State.setStation_startup (i : Fin 6) (x : Station) : (s.setStation i x).startup = s.startup := rfl

/-! ### A reply placed -/

@[simp] theorem State.answer_now (t : Tag) (n : ReqName) (w : String) (fs : List Field) : (s.answer t n w fs).now = s.now := rfl
@[simp] theorem State.answer_fresh (t : Tag) (n : ReqName) (w : String) (fs : List Field) : (s.answer t n w fs).fresh = s.fresh := rfl
@[simp] theorem State.answer_pending (t : Tag) (n : ReqName) (w : String) (fs : List Field) : (s.answer t n w fs).pending = s.pending := rfl
@[simp] theorem State.answer_settings (t : Tag) (n : ReqName) (w : String) (fs : List Field) : (s.answer t n w fs).settings = s.settings := rfl
@[simp] theorem State.answer_plan (t : Tag) (n : ReqName) (w : String) (fs : List Field) : (s.answer t n w fs).plan = s.plan := rfl
@[simp] theorem State.answer_halt (t : Tag) (n : ReqName) (w : String) (fs : List Field) : (s.answer t n w fs).halt = s.halt := rfl
@[simp] theorem State.answer_inputs (t : Tag) (n : ReqName) (w : String) (fs : List Field) : (s.answer t n w fs).inputs = s.inputs := rfl
@[simp] theorem State.answer_eval (t : Tag) (n : ReqName) (w : String) (fs : List Field) : (s.answer t n w fs).eval = s.eval := rfl
@[simp] theorem State.answer_arb (t : Tag) (n : ReqName) (w : String) (fs : List Field) : (s.answer t n w fs).arb = s.arb := rfl
@[simp] theorem State.answer_supply (t : Tag) (n : ReqName) (w : String) (fs : List Field) : (s.answer t n w fs).supply = s.supply := rfl
@[simp] theorem State.answer_axis (t : Tag) (n : ReqName) (w : String) (fs : List Field) : (s.answer t n w fs).axis = s.axis := rfl
@[simp] theorem State.answer_near (t : Tag) (n : ReqName) (w : String) (fs : List Field) : (s.answer t n w fs).near = s.near := rfl
@[simp] theorem State.answer_off (t : Tag) (n : ReqName) (w : String) (fs : List Field) : (s.answer t n w fs).off = s.off := rfl
@[simp] theorem State.answer_conv (t : Tag) (n : ReqName) (w : String) (fs : List Field) : (s.answer t n w fs).conv = s.conv := rfl
@[simp] theorem State.answer_bus (t : Tag) (n : ReqName) (w : String) (fs : List Field) : (s.answer t n w fs).bus = s.bus := rfl
@[simp] theorem State.answer_beac (t : Tag) (n : ReqName) (w : String) (fs : List Field) : (s.answer t n w fs).beac = s.beac := rfl
@[simp] theorem State.answer_cnt (t : Tag) (n : ReqName) (w : String) (fs : List Field) : (s.answer t n w fs).cnt = s.cnt := rfl
@[simp] theorem State.answer_notes (t : Tag) (n : ReqName) (w : String) (fs : List Field) : (s.answer t n w fs).notes = s.notes := rfl
@[simp] theorem State.answer_store (t : Tag) (n : ReqName) (w : String) (fs : List Field) : (s.answer t n w fs).store = s.store := rfl
@[simp] theorem State.answer_startup (t : Tag) (n : ReqName) (w : String) (fs : List Field) : (s.answer t n w fs).startup = s.startup := rfl

/-! ### Supervision replaced -/

@[simp] theorem State.setSup_now (v : Supervision) : (s.setSup v).now = s.now := rfl
@[simp] theorem State.setSup_fresh (v : Supervision) : (s.setSup v).fresh = s.fresh := rfl
@[simp] theorem State.setSup_pending (v : Supervision) : (s.setSup v).pending = s.pending := rfl
@[simp] theorem State.setSup_settings (v : Supervision) : (s.setSup v).settings = s.settings := rfl
@[simp] theorem State.setSup_plan (v : Supervision) : (s.setSup v).plan = s.plan := rfl
@[simp] theorem State.setSup_halt (v : Supervision) : (s.setSup v).halt = s.halt := rfl
@[simp] theorem State.setSup_inputs (v : Supervision) : (s.setSup v).inputs = s.inputs := rfl
@[simp] theorem State.setSup_eval (v : Supervision) : (s.setSup v).eval = s.eval := rfl
@[simp] theorem State.setSup_arb (v : Supervision) : (s.setSup v).arb = s.arb := rfl
@[simp] theorem State.setSup_supply (v : Supervision) : (s.setSup v).supply = s.supply := rfl
@[simp] theorem State.setSup_axis (v : Supervision) : (s.setSup v).axis = s.axis := rfl
@[simp] theorem State.setSup_near (v : Supervision) : (s.setSup v).near = s.near := rfl
@[simp] theorem State.setSup_off (v : Supervision) : (s.setSup v).off = s.off := rfl
@[simp] theorem State.setSup_conv (v : Supervision) : (s.setSup v).conv = s.conv := rfl
@[simp] theorem State.setSup_bus (v : Supervision) : (s.setSup v).bus = s.bus := rfl
@[simp] theorem State.setSup_beac (v : Supervision) : (s.setSup v).beac = s.beac := rfl
@[simp] theorem State.setSup_cnt (v : Supervision) : (s.setSup v).cnt = s.cnt := rfl
@[simp] theorem State.setSup_notes (v : Supervision) : (s.setSup v).notes = s.notes := rfl
@[simp] theorem State.setSup_store (v : Supervision) : (s.setSup v).store = s.store := rfl
@[simp] theorem State.setSup_startup (v : Supervision) : (s.setSup v).startup = s.startup := rfl

/-! ### The tag count raised -/

@[simp] theorem State.raiseTag_now : s.raiseTag.now = s.now := rfl
@[simp] theorem State.raiseTag_fresh : s.raiseTag.fresh = s.fresh := rfl
@[simp] theorem State.raiseTag_pending : s.raiseTag.pending = s.pending := rfl
@[simp] theorem State.raiseTag_settings : s.raiseTag.settings = s.settings := rfl
@[simp] theorem State.raiseTag_plan : s.raiseTag.plan = s.plan := rfl
@[simp] theorem State.raiseTag_halt : s.raiseTag.halt = s.halt := rfl
@[simp] theorem State.raiseTag_inputs : s.raiseTag.inputs = s.inputs := rfl
@[simp] theorem State.raiseTag_eval : s.raiseTag.eval = s.eval := rfl
@[simp] theorem State.raiseTag_arb : s.raiseTag.arb = s.arb := rfl
@[simp] theorem State.raiseTag_supply : s.raiseTag.supply = s.supply := rfl
@[simp] theorem State.raiseTag_axis : s.raiseTag.axis = s.axis := rfl
@[simp] theorem State.raiseTag_near : s.raiseTag.near = s.near := rfl
@[simp] theorem State.raiseTag_off : s.raiseTag.off = s.off := rfl
@[simp] theorem State.raiseTag_conv : s.raiseTag.conv = s.conv := rfl
@[simp] theorem State.raiseTag_bus : s.raiseTag.bus = s.bus := rfl
@[simp] theorem State.raiseTag_beac : s.raiseTag.beac = s.beac := rfl
@[simp] theorem State.raiseTag_cnt : s.raiseTag.cnt = s.cnt := rfl
@[simp] theorem State.raiseTag_notes : s.raiseTag.notes = s.notes := rfl
@[simp] theorem State.raiseTag_store : s.raiseTag.store = s.store := rfl
@[simp] theorem State.raiseTag_startup : s.raiseTag.startup = s.startup := rfl

/-! ### A `CSUM` reply placed -/

@[simp] theorem State.badCheck_now (t : Tag) : (s.badCheck t).now = s.now := rfl
@[simp] theorem State.badCheck_fresh (t : Tag) : (s.badCheck t).fresh = s.fresh := rfl
@[simp] theorem State.badCheck_pending (t : Tag) : (s.badCheck t).pending = s.pending := rfl
@[simp] theorem State.badCheck_settings (t : Tag) : (s.badCheck t).settings = s.settings := rfl
@[simp] theorem State.badCheck_plan (t : Tag) : (s.badCheck t).plan = s.plan := rfl
@[simp] theorem State.badCheck_halt (t : Tag) : (s.badCheck t).halt = s.halt := rfl
@[simp] theorem State.badCheck_inputs (t : Tag) : (s.badCheck t).inputs = s.inputs := rfl
@[simp] theorem State.badCheck_eval (t : Tag) : (s.badCheck t).eval = s.eval := rfl
@[simp] theorem State.badCheck_arb (t : Tag) : (s.badCheck t).arb = s.arb := rfl
@[simp] theorem State.badCheck_supply (t : Tag) : (s.badCheck t).supply = s.supply := rfl
@[simp] theorem State.badCheck_axis (t : Tag) : (s.badCheck t).axis = s.axis := rfl
@[simp] theorem State.badCheck_near (t : Tag) : (s.badCheck t).near = s.near := rfl
@[simp] theorem State.badCheck_off (t : Tag) : (s.badCheck t).off = s.off := rfl
@[simp] theorem State.badCheck_conv (t : Tag) : (s.badCheck t).conv = s.conv := rfl
@[simp] theorem State.badCheck_bus (t : Tag) : (s.badCheck t).bus = s.bus := rfl
@[simp] theorem State.badCheck_beac (t : Tag) : (s.badCheck t).beac = s.beac := rfl
@[simp] theorem State.badCheck_cnt (t : Tag) : (s.badCheck t).cnt = s.cnt := rfl
@[simp] theorem State.badCheck_notes (t : Tag) : (s.badCheck t).notes = s.notes := rfl
@[simp] theorem State.badCheck_store (t : Tag) : (s.badCheck t).store = s.store := rfl
@[simp] theorem State.badCheck_startup (t : Tag) : (s.badCheck t).startup = s.startup := rfl

/-! ### Characters joining the FIFO -/

@[simp] theorem State.receiveAll_now (cs : List Ch) : (s.receiveAll cs).now = s.now := rfl
@[simp] theorem State.receiveAll_fresh (cs : List Ch) : (s.receiveAll cs).fresh = s.fresh := rfl
@[simp] theorem State.receiveAll_pending (cs : List Ch) : (s.receiveAll cs).pending = s.pending := rfl
@[simp] theorem State.receiveAll_settings (cs : List Ch) : (s.receiveAll cs).settings = s.settings := rfl
@[simp] theorem State.receiveAll_plan (cs : List Ch) : (s.receiveAll cs).plan = s.plan := rfl
@[simp] theorem State.receiveAll_halt (cs : List Ch) : (s.receiveAll cs).halt = s.halt := rfl
@[simp] theorem State.receiveAll_inputs (cs : List Ch) : (s.receiveAll cs).inputs = s.inputs := rfl
@[simp] theorem State.receiveAll_eval (cs : List Ch) : (s.receiveAll cs).eval = s.eval := rfl
@[simp] theorem State.receiveAll_arb (cs : List Ch) : (s.receiveAll cs).arb = s.arb := rfl
@[simp] theorem State.receiveAll_supply (cs : List Ch) : (s.receiveAll cs).supply = s.supply := rfl
@[simp] theorem State.receiveAll_axis (cs : List Ch) : (s.receiveAll cs).axis = s.axis := rfl
@[simp] theorem State.receiveAll_near (cs : List Ch) : (s.receiveAll cs).near = s.near := rfl
@[simp] theorem State.receiveAll_off (cs : List Ch) : (s.receiveAll cs).off = s.off := rfl
@[simp] theorem State.receiveAll_conv (cs : List Ch) : (s.receiveAll cs).conv = s.conv := rfl
@[simp] theorem State.receiveAll_bus (cs : List Ch) : (s.receiveAll cs).bus = s.bus := rfl
@[simp] theorem State.receiveAll_beac (cs : List Ch) : (s.receiveAll cs).beac = s.beac := rfl
@[simp] theorem State.receiveAll_cnt (cs : List Ch) : (s.receiveAll cs).cnt = s.cnt := rfl
@[simp] theorem State.receiveAll_notes (cs : List Ch) : (s.receiveAll cs).notes = s.notes := rfl
@[simp] theorem State.receiveAll_store (cs : List Ch) : (s.receiveAll cs).store = s.store := rfl
@[simp] theorem State.receiveAll_startup (cs : List Ch) : (s.receiveAll cs).startup = s.startup := rfl

/-! ### A counter replaced -/

@[simp] theorem State.setCounter_now (i : Fin 8) (c : Counter) : (s.setCounter i c).now = s.now := rfl
@[simp] theorem State.setCounter_fresh (i : Fin 8) (c : Counter) : (s.setCounter i c).fresh = s.fresh := rfl
@[simp] theorem State.setCounter_pending (i : Fin 8) (c : Counter) : (s.setCounter i c).pending = s.pending := rfl
@[simp] theorem State.setCounter_settings (i : Fin 8) (c : Counter) : (s.setCounter i c).settings = s.settings := rfl
@[simp] theorem State.setCounter_plan (i : Fin 8) (c : Counter) : (s.setCounter i c).plan = s.plan := rfl
@[simp] theorem State.setCounter_halt (i : Fin 8) (c : Counter) : (s.setCounter i c).halt = s.halt := rfl
@[simp] theorem State.setCounter_inputs (i : Fin 8) (c : Counter) : (s.setCounter i c).inputs = s.inputs := rfl
@[simp] theorem State.setCounter_eval (i : Fin 8) (c : Counter) : (s.setCounter i c).eval = s.eval := rfl
@[simp] theorem State.setCounter_arb (i : Fin 8) (c : Counter) : (s.setCounter i c).arb = s.arb := rfl
@[simp] theorem State.setCounter_supply (i : Fin 8) (c : Counter) : (s.setCounter i c).supply = s.supply := rfl
@[simp] theorem State.setCounter_axis (i : Fin 8) (c : Counter) : (s.setCounter i c).axis = s.axis := rfl
@[simp] theorem State.setCounter_near (i : Fin 8) (c : Counter) : (s.setCounter i c).near = s.near := rfl
@[simp] theorem State.setCounter_off (i : Fin 8) (c : Counter) : (s.setCounter i c).off = s.off := rfl
@[simp] theorem State.setCounter_conv (i : Fin 8) (c : Counter) : (s.setCounter i c).conv = s.conv := rfl
@[simp] theorem State.setCounter_bus (i : Fin 8) (c : Counter) : (s.setCounter i c).bus = s.bus := rfl
@[simp] theorem State.setCounter_beac (i : Fin 8) (c : Counter) : (s.setCounter i c).beac = s.beac := rfl
@[simp] theorem State.setCounter_link (i : Fin 8) (c : Counter) : (s.setCounter i c).link = s.link := rfl
@[simp] theorem State.setCounter_notes (i : Fin 8) (c : Counter) : (s.setCounter i c).notes = s.notes := rfl
@[simp] theorem State.setCounter_store (i : Fin 8) (c : Counter) : (s.setCounter i c).store = s.store := rfl
@[simp] theorem State.setCounter_startup (i : Fin 8) (c : Counter) : (s.setCounter i c).startup = s.startup := rfl

/-! ### The frozen flag set -/

@[simp] theorem State.setFrozen_now (b : Bool) : (s.setFrozen b).now = s.now := rfl
@[simp] theorem State.setFrozen_fresh (b : Bool) : (s.setFrozen b).fresh = s.fresh := rfl
@[simp] theorem State.setFrozen_pending (b : Bool) : (s.setFrozen b).pending = s.pending := rfl
@[simp] theorem State.setFrozen_settings (b : Bool) : (s.setFrozen b).settings = s.settings := rfl
@[simp] theorem State.setFrozen_plan (b : Bool) : (s.setFrozen b).plan = s.plan := rfl
@[simp] theorem State.setFrozen_halt (b : Bool) : (s.setFrozen b).halt = s.halt := rfl
@[simp] theorem State.setFrozen_inputs (b : Bool) : (s.setFrozen b).inputs = s.inputs := rfl
@[simp] theorem State.setFrozen_eval (b : Bool) : (s.setFrozen b).eval = s.eval := rfl
@[simp] theorem State.setFrozen_arb (b : Bool) : (s.setFrozen b).arb = s.arb := rfl
@[simp] theorem State.setFrozen_supply (b : Bool) : (s.setFrozen b).supply = s.supply := rfl
@[simp] theorem State.setFrozen_axis (b : Bool) : (s.setFrozen b).axis = s.axis := rfl
@[simp] theorem State.setFrozen_near (b : Bool) : (s.setFrozen b).near = s.near := rfl
@[simp] theorem State.setFrozen_off (b : Bool) : (s.setFrozen b).off = s.off := rfl
@[simp] theorem State.setFrozen_conv (b : Bool) : (s.setFrozen b).conv = s.conv := rfl
@[simp] theorem State.setFrozen_bus (b : Bool) : (s.setFrozen b).bus = s.bus := rfl
@[simp] theorem State.setFrozen_beac (b : Bool) : (s.setFrozen b).beac = s.beac := rfl
@[simp] theorem State.setFrozen_link (b : Bool) : (s.setFrozen b).link = s.link := rfl
@[simp] theorem State.setFrozen_notes (b : Bool) : (s.setFrozen b).notes = s.notes := rfl
@[simp] theorem State.setFrozen_store (b : Bool) : (s.setFrozen b).store = s.store := rfl
@[simp] theorem State.setFrozen_startup (b : Bool) : (s.setFrozen b).startup = s.startup := rfl

/-! ### A calibration pair replaced -/

@[simp] theorem State.setCal_now (n : Fin 9) (k : Cal) : (s.setCal n k).now = s.now := rfl
@[simp] theorem State.setCal_fresh (n : Fin 9) (k : Cal) : (s.setCal n k).fresh = s.fresh := rfl
@[simp] theorem State.setCal_pending (n : Fin 9) (k : Cal) : (s.setCal n k).pending = s.pending := rfl
@[simp] theorem State.setCal_plan (n : Fin 9) (k : Cal) : (s.setCal n k).plan = s.plan := rfl
@[simp] theorem State.setCal_halt (n : Fin 9) (k : Cal) : (s.setCal n k).halt = s.halt := rfl
@[simp] theorem State.setCal_inputs (n : Fin 9) (k : Cal) : (s.setCal n k).inputs = s.inputs := rfl
@[simp] theorem State.setCal_eval (n : Fin 9) (k : Cal) : (s.setCal n k).eval = s.eval := rfl
@[simp] theorem State.setCal_arb (n : Fin 9) (k : Cal) : (s.setCal n k).arb = s.arb := rfl
@[simp] theorem State.setCal_supply (n : Fin 9) (k : Cal) : (s.setCal n k).supply = s.supply := rfl
@[simp] theorem State.setCal_axis (n : Fin 9) (k : Cal) : (s.setCal n k).axis = s.axis := rfl
@[simp] theorem State.setCal_near (n : Fin 9) (k : Cal) : (s.setCal n k).near = s.near := rfl
@[simp] theorem State.setCal_off (n : Fin 9) (k : Cal) : (s.setCal n k).off = s.off := rfl
@[simp] theorem State.setCal_conv (n : Fin 9) (k : Cal) : (s.setCal n k).conv = s.conv := rfl
@[simp] theorem State.setCal_bus (n : Fin 9) (k : Cal) : (s.setCal n k).bus = s.bus := rfl
@[simp] theorem State.setCal_beac (n : Fin 9) (k : Cal) : (s.setCal n k).beac = s.beac := rfl
@[simp] theorem State.setCal_cnt (n : Fin 9) (k : Cal) : (s.setCal n k).cnt = s.cnt := rfl
@[simp] theorem State.setCal_link (n : Fin 9) (k : Cal) : (s.setCal n k).link = s.link := rfl
@[simp] theorem State.setCal_notes (n : Fin 9) (k : Cal) : (s.setCal n k).notes = s.notes := rfl
@[simp] theorem State.setCal_store (n : Fin 9) (k : Cal) : (s.setCal n k).store = s.store := rfl
@[simp] theorem State.setCal_startup (n : Fin 9) (k : Cal) : (s.setCal n k).startup = s.startup := rfl

/-! ### A save started -/

@[simp] theorem State.startSave_now : s.startSave.now = s.now := rfl
@[simp] theorem State.startSave_fresh : s.startSave.fresh = s.fresh := rfl
@[simp] theorem State.startSave_pending : s.startSave.pending = s.pending := rfl
@[simp] theorem State.startSave_settings : s.startSave.settings = s.settings := rfl
@[simp] theorem State.startSave_plan : s.startSave.plan = s.plan := rfl
@[simp] theorem State.startSave_halt : s.startSave.halt = s.halt := rfl
@[simp] theorem State.startSave_inputs : s.startSave.inputs = s.inputs := rfl
@[simp] theorem State.startSave_eval : s.startSave.eval = s.eval := rfl
@[simp] theorem State.startSave_arb : s.startSave.arb = s.arb := rfl
@[simp] theorem State.startSave_supply : s.startSave.supply = s.supply := rfl
@[simp] theorem State.startSave_axis : s.startSave.axis = s.axis := rfl
@[simp] theorem State.startSave_near : s.startSave.near = s.near := rfl
@[simp] theorem State.startSave_off : s.startSave.off = s.off := rfl
@[simp] theorem State.startSave_conv : s.startSave.conv = s.conv := rfl
@[simp] theorem State.startSave_bus : s.startSave.bus = s.bus := rfl
@[simp] theorem State.startSave_beac : s.startSave.beac = s.beac := rfl
@[simp] theorem State.startSave_cnt : s.startSave.cnt = s.cnt := rfl
@[simp] theorem State.startSave_link : s.startSave.link = s.link := rfl
@[simp] theorem State.startSave_notes : s.startSave.notes = s.notes := rfl
@[simp] theorem State.startSave_startup : s.startSave.startup = s.startup := rfl

/-! ### A road-speed edge counted -/

@[simp] theorem State.edge_now : s.edge.now = s.now := rfl
@[simp] theorem State.edge_fresh : s.edge.fresh = s.fresh := rfl
@[simp] theorem State.edge_pending : s.edge.pending = s.pending := rfl
@[simp] theorem State.edge_settings : s.edge.settings = s.settings := rfl
@[simp] theorem State.edge_plan : s.edge.plan = s.plan := rfl
@[simp] theorem State.edge_halt : s.edge.halt = s.halt := rfl
@[simp] theorem State.edge_inputs : s.edge.inputs = s.inputs := rfl
@[simp] theorem State.edge_arb : s.edge.arb = s.arb := rfl
@[simp] theorem State.edge_supply : s.edge.supply = s.supply := rfl
@[simp] theorem State.edge_axis : s.edge.axis = s.axis := rfl
@[simp] theorem State.edge_near : s.edge.near = s.near := rfl
@[simp] theorem State.edge_off : s.edge.off = s.off := rfl
@[simp] theorem State.edge_conv : s.edge.conv = s.conv := rfl
@[simp] theorem State.edge_bus : s.edge.bus = s.bus := rfl
@[simp] theorem State.edge_beac : s.edge.beac = s.beac := rfl
@[simp] theorem State.edge_cnt : s.edge.cnt = s.cnt := rfl
@[simp] theorem State.edge_link : s.edge.link = s.link := rfl
@[simp] theorem State.edge_notes : s.edge.notes = s.notes := rfl
@[simp] theorem State.edge_store : s.edge.store = s.store := rfl
@[simp] theorem State.edge_startup : s.edge.startup = s.startup := rfl

/-! ### The speed computed -/

@[simp] theorem State.computeSpeed_now : s.computeSpeed.now = s.now := rfl
@[simp] theorem State.computeSpeed_fresh : s.computeSpeed.fresh = s.fresh := rfl
@[simp] theorem State.computeSpeed_pending : s.computeSpeed.pending = s.pending := rfl
@[simp] theorem State.computeSpeed_settings : s.computeSpeed.settings = s.settings := rfl
@[simp] theorem State.computeSpeed_plan : s.computeSpeed.plan = s.plan := rfl
@[simp] theorem State.computeSpeed_halt : s.computeSpeed.halt = s.halt := rfl
@[simp] theorem State.computeSpeed_inputs : s.computeSpeed.inputs = s.inputs := rfl
@[simp] theorem State.computeSpeed_arb : s.computeSpeed.arb = s.arb := rfl
@[simp] theorem State.computeSpeed_supply : s.computeSpeed.supply = s.supply := rfl
@[simp] theorem State.computeSpeed_axis : s.computeSpeed.axis = s.axis := rfl
@[simp] theorem State.computeSpeed_near : s.computeSpeed.near = s.near := rfl
@[simp] theorem State.computeSpeed_off : s.computeSpeed.off = s.off := rfl
@[simp] theorem State.computeSpeed_conv : s.computeSpeed.conv = s.conv := rfl
@[simp] theorem State.computeSpeed_bus : s.computeSpeed.bus = s.bus := rfl
@[simp] theorem State.computeSpeed_beac : s.computeSpeed.beac = s.beac := rfl
@[simp] theorem State.computeSpeed_cnt : s.computeSpeed.cnt = s.cnt := rfl
@[simp] theorem State.computeSpeed_link : s.computeSpeed.link = s.link := rfl
@[simp] theorem State.computeSpeed_notes : s.computeSpeed.notes = s.notes := rfl
@[simp] theorem State.computeSpeed_store : s.computeSpeed.store = s.store := rfl
@[simp] theorem State.computeSpeed_startup : s.computeSpeed.startup = s.startup := rfl

/-! ### An inactive sample of ESTOP -/

@[simp] theorem State.estopOff_now : s.estopOff.now = s.now := rfl
@[simp] theorem State.estopOff_fresh : s.estopOff.fresh = s.fresh := rfl
@[simp] theorem State.estopOff_pending : s.estopOff.pending = s.pending := rfl
@[simp] theorem State.estopOff_settings : s.estopOff.settings = s.settings := rfl
@[simp] theorem State.estopOff_plan : s.estopOff.plan = s.plan := rfl
@[simp] theorem State.estopOff_halt : s.estopOff.halt = s.halt := rfl
@[simp] theorem State.estopOff_eval : s.estopOff.eval = s.eval := rfl
@[simp] theorem State.estopOff_arb : s.estopOff.arb = s.arb := rfl
@[simp] theorem State.estopOff_supply : s.estopOff.supply = s.supply := rfl
@[simp] theorem State.estopOff_axis : s.estopOff.axis = s.axis := rfl
@[simp] theorem State.estopOff_near : s.estopOff.near = s.near := rfl
@[simp] theorem State.estopOff_off : s.estopOff.off = s.off := rfl
@[simp] theorem State.estopOff_conv : s.estopOff.conv = s.conv := rfl
@[simp] theorem State.estopOff_bus : s.estopOff.bus = s.bus := rfl
@[simp] theorem State.estopOff_beac : s.estopOff.beac = s.beac := rfl
@[simp] theorem State.estopOff_cnt : s.estopOff.cnt = s.cnt := rfl
@[simp] theorem State.estopOff_link : s.estopOff.link = s.link := rfl
@[simp] theorem State.estopOff_notes : s.estopOff.notes = s.notes := rfl
@[simp] theorem State.estopOff_store : s.estopOff.store = s.store := rfl
@[simp] theorem State.estopOff_startup : s.estopOff.startup = s.startup := rfl

/-! ### The pump current's part of a scan -/

@[simp] theorem State.pumpScan_now : s.pumpScan.now = s.now := rfl
@[simp] theorem State.pumpScan_fresh : s.pumpScan.fresh = s.fresh := rfl
@[simp] theorem State.pumpScan_pending : s.pumpScan.pending = s.pending := rfl
@[simp] theorem State.pumpScan_settings : s.pumpScan.settings = s.settings := rfl
@[simp] theorem State.pumpScan_plan : s.pumpScan.plan = s.plan := rfl
@[simp] theorem State.pumpScan_halt : s.pumpScan.halt = s.halt := rfl
@[simp] theorem State.pumpScan_inputs : s.pumpScan.inputs = s.inputs := rfl
@[simp] theorem State.pumpScan_eval : s.pumpScan.eval = s.eval := rfl
@[simp] theorem State.pumpScan_supply : s.pumpScan.supply = s.supply := rfl
@[simp] theorem State.pumpScan_axis : s.pumpScan.axis = s.axis := rfl
@[simp] theorem State.pumpScan_near : s.pumpScan.near = s.near := rfl
@[simp] theorem State.pumpScan_off : s.pumpScan.off = s.off := rfl
@[simp] theorem State.pumpScan_conv : s.pumpScan.conv = s.conv := rfl
@[simp] theorem State.pumpScan_bus : s.pumpScan.bus = s.bus := rfl
@[simp] theorem State.pumpScan_beac : s.pumpScan.beac = s.beac := rfl
@[simp] theorem State.pumpScan_cnt : s.pumpScan.cnt = s.cnt := rfl
@[simp] theorem State.pumpScan_link : s.pumpScan.link = s.link := rfl
@[simp] theorem State.pumpScan_notes : s.pumpScan.notes = s.notes := rfl
@[simp] theorem State.pumpScan_store : s.pumpScan.store = s.store := rfl
@[simp] theorem State.pumpScan_startup : s.pumpScan.startup = s.startup := rfl

/-! ### A door channel replaced -/

@[simp] theorem State.setDoor_now (side : Side) (d : Door) : (s.setDoor side d).now = s.now := by cases side <;> rfl
@[simp] theorem State.setDoor_fresh (side : Side) (d : Door) : (s.setDoor side d).fresh = s.fresh := by cases side <;> rfl
@[simp] theorem State.setDoor_pending (side : Side) (d : Door) : (s.setDoor side d).pending = s.pending := by cases side <;> rfl
@[simp] theorem State.setDoor_settings (side : Side) (d : Door) : (s.setDoor side d).settings = s.settings := by cases side <;> rfl
@[simp] theorem State.setDoor_plan (side : Side) (d : Door) : (s.setDoor side d).plan = s.plan := by cases side <;> rfl
@[simp] theorem State.setDoor_halt (side : Side) (d : Door) : (s.setDoor side d).halt = s.halt := by cases side <;> rfl
@[simp] theorem State.setDoor_inputs (side : Side) (d : Door) : (s.setDoor side d).inputs = s.inputs := by cases side <;> rfl
@[simp] theorem State.setDoor_eval (side : Side) (d : Door) : (s.setDoor side d).eval = s.eval := by cases side <;> rfl
@[simp] theorem State.setDoor_arb (side : Side) (d : Door) : (s.setDoor side d).arb = s.arb := by cases side <;> rfl
@[simp] theorem State.setDoor_supply (side : Side) (d : Door) : (s.setDoor side d).supply = s.supply := by cases side <;> rfl
@[simp] theorem State.setDoor_axis (side : Side) (d : Door) : (s.setDoor side d).axis = s.axis := by cases side <;> rfl
@[simp] theorem State.setDoor_conv (side : Side) (d : Door) : (s.setDoor side d).conv = s.conv := by cases side <;> rfl
@[simp] theorem State.setDoor_bus (side : Side) (d : Door) : (s.setDoor side d).bus = s.bus := by cases side <;> rfl
@[simp] theorem State.setDoor_beac (side : Side) (d : Door) : (s.setDoor side d).beac = s.beac := by cases side <;> rfl
@[simp] theorem State.setDoor_cnt (side : Side) (d : Door) : (s.setDoor side d).cnt = s.cnt := by cases side <;> rfl
@[simp] theorem State.setDoor_link (side : Side) (d : Door) : (s.setDoor side d).link = s.link := by cases side <;> rfl
@[simp] theorem State.setDoor_notes (side : Side) (d : Door) : (s.setDoor side d).notes = s.notes := by cases side <;> rfl
@[simp] theorem State.setDoor_store (side : Side) (d : Door) : (s.setDoor side d).store = s.store := by cases side <;> rfl
@[simp] theorem State.setDoor_startup (side : Side) (d : Door) : (s.setDoor side d).startup = s.startup := by cases side <;> rfl
@[simp] theorem State.setDoor_door (side : Side) (d : Door) : (s.setDoor side d).door side = d := by cases side <;> rfl
@[simp] theorem State.setDoor_near_off (d : Door) : (s.setDoor .near d).off = s.off := rfl
@[simp] theorem State.setDoor_off_near (d : Door) : (s.setDoor .off d).near = s.near := rfl
@[simp] theorem State.setDoor_near_near (d : Door) : (s.setDoor .near d).near = d := rfl
@[simp] theorem State.setDoor_off_off (d : Door) : (s.setDoor .off d).off = d := rfl

/-! ### Switches of a side counted -/

@[simp] theorem State.countDue_now (side : Side) : (s.countDue side).now = s.now := by cases side <;> rfl
@[simp] theorem State.countDue_fresh (side : Side) : (s.countDue side).fresh = s.fresh := by cases side <;> rfl
@[simp] theorem State.countDue_pending (side : Side) : (s.countDue side).pending = s.pending := by cases side <;> rfl
@[simp] theorem State.countDue_settings (side : Side) : (s.countDue side).settings = s.settings := by cases side <;> rfl
@[simp] theorem State.countDue_plan (side : Side) : (s.countDue side).plan = s.plan := by cases side <;> rfl
@[simp] theorem State.countDue_halt (side : Side) : (s.countDue side).halt = s.halt := by cases side <;> rfl
@[simp] theorem State.countDue_eval (side : Side) : (s.countDue side).eval = s.eval := by cases side <;> rfl
@[simp] theorem State.countDue_arb (side : Side) : (s.countDue side).arb = s.arb := by cases side <;> rfl
@[simp] theorem State.countDue_supply (side : Side) : (s.countDue side).supply = s.supply := by cases side <;> rfl
@[simp] theorem State.countDue_axis (side : Side) : (s.countDue side).axis = s.axis := by cases side <;> rfl
@[simp] theorem State.countDue_near (side : Side) : (s.countDue side).near = s.near := by cases side <;> rfl
@[simp] theorem State.countDue_off (side : Side) : (s.countDue side).off = s.off := by cases side <;> rfl
@[simp] theorem State.countDue_conv (side : Side) : (s.countDue side).conv = s.conv := by cases side <;> rfl
@[simp] theorem State.countDue_bus (side : Side) : (s.countDue side).bus = s.bus := by cases side <;> rfl
@[simp] theorem State.countDue_beac (side : Side) : (s.countDue side).beac = s.beac := by cases side <;> rfl
@[simp] theorem State.countDue_cnt (side : Side) : (s.countDue side).cnt = s.cnt := by cases side <;> rfl
@[simp] theorem State.countDue_link (side : Side) : (s.countDue side).link = s.link := by cases side <;> rfl
@[simp] theorem State.countDue_notes (side : Side) : (s.countDue side).notes = s.notes := by cases side <;> rfl
@[simp] theorem State.countDue_store (side : Side) : (s.countDue side).store = s.store := by cases side <;> rfl
@[simp] theorem State.countDue_startup (side : Side) : (s.countDue side).startup = s.startup := by cases side <;> rfl
@[simp] theorem State.countDue_door (side k : Side) : (s.countDue side).door k = s.door k := by
  cases side <;> cases k <;> rfl
@[simp] theorem State.countDue_switches (side : Side) :
    (s.countDue side).inputs.switches side = (s.inputs.switches side).countDue s.now := by cases side <;> rfl

/-! ### Resources of the arbiter -/

@[simp] theorem Arbiter.setChannel_pack (a : Arbiter) (side : Side) (x : Option Holding) :
    (a.setChannel side x).pack = a.pack := by cases side <;> rfl
@[simp] theorem Arbiter.setChannel_contactor (a : Arbiter) (side : Side) (x : Option Holding) :
    (a.setChannel side x).contactor = a.contactor := by cases side <;> rfl
@[simp] theorem Arbiter.setChannel_restUntil (a : Arbiter) (side : Side) (x : Option Holding) :
    (a.setChannel side x).restUntil = a.restUntil := by cases side <;> rfl
@[simp] theorem Arbiter.setChannel_channel (a : Arbiter) (side : Side) (x : Option Holding) :
    (a.setChannel side x).channel side = x := by cases side <;> rfl

/-! ### The records of the table -/

@[simp] theorem State.upd_plan_recent (h : Handle) (f : Record → Record) :
    (s.upd h f).plan.recent = s.plan.recent := rfl
@[simp] theorem State.upd_plan_nextHandle (h : Handle) (f : Record → Record) :
    (s.upd h f).plan.nextHandle = s.plan.nextHandle := rfl
@[simp] theorem State.upd_plan_length (h : Handle) (f : Record → Record) :
    (s.upd h f).plan.records.length = s.plan.records.length := by simp [State.upd]

end Sys2Proof.Machine
end

