-- ==== Sys2Proof/Laws/Follows.lean ====
section
/-!
SUPPORT. What the operations of the records, the drives and the beacons leave as it is: one lemma for each shared
operation, in terms of `State.Follows`.
-/

namespace Sys2Proof.Machine

/-! ### Queues of notices -/

theorem NoticeQueue.pushAll_append (q : NoticeQueue) (a b : List Notice) :
    q.pushAll (a ++ b) = (q.pushAll a).pushAll b := List.foldl_append

@[simp] theorem NoticeQueue.pushAll_nil (q : NoticeQueue) : q.pushAll [] = q := rfl

theorem NoticeQueue.pushAll_one (q : NoticeQueue) (n : Notice) : q.pushAll [n] = q.push n := rfl

/-! ### The relation -/

theorem State.Follows.refl (s : State) : s.Follows s :=
  ⟨rfl, rfl, rfl, rfl, rfl, rfl, rfl, rfl, rfl, rfl, rfl, rfl, rfl, ⟨[], rfl⟩, Nat.le_refl _⟩

theorem State.Follows.trans {s t u : State} (a : s.Follows t) (b : t.Follows u) : s.Follows u where
  pending := b.pending.trans a.pending
  settings := b.settings.trans a.settings
  halt := b.halt.trans a.halt
  inputs := b.inputs.trans a.inputs
  supply := b.supply.trans a.supply
  conv := b.conv.trans a.conv
  bus := b.bus.trans a.bus
  link := b.link.trans a.link
  store := b.store.trans a.store
  startup := b.startup.trans a.startup
  edges := b.edges.trans a.edges
  speed := b.speed.trans a.speed
  speedAt := b.speedAt.trans a.speedAt
  notes := by
    obtain ⟨x, hx⟩ := a.notes
    obtain ⟨y, hy⟩ := b.notes
    exact ⟨x ++ y, by rw [hy, hx, NoticeQueue.pushAll_append]⟩
  now := Nat.le_trans a.now b.now

/-- A fold of operations that each follow follows. -/
theorem State.Follows.foldl {α : Type} (f : State → α → State) (hf : ∀ (s : State) (x : α), s.Follows (f s x)) :
    ∀ (xs : List α) (s : State), s.Follows (xs.foldl f s)
  | [], s => .refl s
  | x :: xs, s => (hf s x).trans (State.Follows.foldl f hf xs (f s x))

/-- A notice queued between two stretches that follow is among those queued. -/
theorem State.queued_mid {s a b t : State} {n : Notice} (h1 : s.Follows a) (h2 : b.notes = a.notes.push n)
    (h3 : b.Follows t) : s.queued t n := by
  obtain ⟨x, hx⟩ := h1.notes
  obtain ⟨y, hy⟩ := h3.notes
  exact ⟨x, y, by rw [hy, h2, hx]⟩

/-- What has been queued stays queued. -/
theorem State.queued.follows {s t u : State} {n : Notice} (h : s.queued t n) (h2 : t.Follows u) : s.queued u n := by
  obtain ⟨x, y, hxy⟩ := h
  obtain ⟨z, hz⟩ := h2.notes
  exact ⟨x, y ++ z, by rw [hz, hxy, NoticeQueue.pushAll_append]⟩

/-- What is queued later has been queued since earlier. -/
theorem State.queued.since {s t u : State} {n : Notice} (h1 : s.Follows t) (h : t.queued u n) : s.queued u n := by
  obtain ⟨x, hx⟩ := h1.notes
  obtain ⟨y, z, hyz⟩ := h
  exact ⟨x ++ y, z, by rw [hyz, hx, NoticeQueue.pushAll_append]⟩

/-- An update of the plan table, the arbiter, the axis controller, the doors, the beacons or the counters follows. -/
theorem State.Follows.quiet {s t : State} (pending : t.pending = s.pending := by rfl)
    (settings : t.settings = s.settings := by rfl) (halt : t.halt = s.halt := by rfl)
    (inputs : t.inputs = s.inputs := by rfl) (supply : t.supply = s.supply := by rfl)
    (conv : t.conv = s.conv := by rfl) (bus : t.bus = s.bus := by rfl) (link : t.link = s.link := by rfl)
    (store : t.store = s.store := by rfl) (startup : t.startup = s.startup := by rfl)
    (edges : t.eval.edges = s.eval.edges := by rfl) (speed : t.eval.speed = s.eval.speed := by rfl)
    (speedAt : t.eval.nextAt = s.eval.nextAt := by rfl) (notes : t.notes = s.notes := by rfl)
    (now : t.now = s.now := by rfl) : s.Follows t :=
  ⟨pending, settings, halt, inputs, supply, conv, bus, link, store, startup, edges, speed, speedAt, ⟨[], notes⟩,
    Nat.le_of_eq now.symm⟩

/-! ### Counters and time -/

theorem State.upd_follows (s : State) (h : Handle) (f : Record → Record) : s.Follows (s.upd h f) :=
  State.Follows.quiet

theorem State.notify_follows (s : State) (n : Notice) : s.Follows (s.notify n) :=
  ⟨rfl, rfl, rfl, rfl, rfl, rfl, rfl, rfl, rfl, rfl, rfl, rfl, rfl, ⟨[n], rfl⟩, Nat.le_refl _⟩

theorem State.setDoor_follows (s : State) (side : Side) (d : Door) : s.Follows (s.setDoor side d) := by
  cases side
  · exact State.Follows.quiet
  · exact State.Follows.quiet

theorem State.creepRun_follows (s : State) (run : Run) : s.Follows (s.creepRun run) :=
  State.Follows.quiet

theorem State.slowRun_follows (s : State) : s.Follows s.slowRun := by
  unfold State.slowRun
  split
  · split
    · exact (s.creepRun_follows _).trans (State.upd_follows _ _ _)
    · exact .refl s
  · exact .refl s

theorem State.decideDerating_follows (s : State) : s.Follows s.decideDerating := by
  unfold State.decideDerating
  dsimp only
  split
  · exact State.Follows.trans State.Follows.quiet (State.slowRun_follows _)
  · exact State.Follows.quiet

theorem State.applyCounters_follows (s : State) (f : Fin 8 → Counter → Counter × Option Nat) :
    s.Follows (s.applyCounters f) := by
  unfold State.applyCounters
  exact State.Follows.trans State.Follows.quiet (State.decideDerating_follows _)

theorem State.queueServices_follows (s : State) : s.Follows s.queueServices := by
  unfold State.queueServices
  exact (State.Follows.foldl _ State.notify_follows _ s).trans State.Follows.quiet

theorem State.count_follows (s : State) (src : List Source) (o : Option Origin) (x : Option Side) (n : Nat) :
    s.Follows (s.count src o x n) := by
  unfold State.count
  split
  · exact .refl s
  · exact s.applyCounters_follows _

theorem State.passTime_follows (s : State) (ms : Nat) : s.Follows (s.passTime ms) := by
  have h : s.Follows { s with now := s.now + ms } :=
    ⟨rfl, rfl, rfl, rfl, rfl, rfl, rfl, rfl, rfl, rfl, rfl, rfl, rfl, ⟨[], rfl⟩, Nat.le_add_right _ _⟩
  unfold State.passTime
  dsimp only
  split
  · exact h
  · exact (h.trans (State.applyCounters_follows _ _)).trans (State.queueServices_follows _)

theorem State.passTo_follows (s : State) (t : Nat) : s.Follows (s.passTo t) := s.passTime_follows _

/-! ### Runs and doors -/

theorem State.pumpStart_follows (s : State) (o : Origin) : s.Follows (s.pumpStart o) := by
  unfold State.pumpStart
  exact State.Follows.trans State.Follows.quiet (State.count_follows _ _ _ _ _)

theorem State.pumpStop_follows (s : State) : s.Follows s.pumpStop :=
  State.Follows.quiet

theorem State.enterRunning_follows (s : State) (h : Handle) : s.Follows (s.enterRunning h) := by
  unfold State.enterRunning
  split
  · dsimp only
    split
    · exact State.Follows.trans State.Follows.quiet (State.pumpStart_follows _ _)
    · exact State.Follows.quiet
  · exact .refl s

theorem State.storeLoad_follows (s : State) (run : Run) : s.Follows (s.storeLoad run) := by
  unfold State.storeLoad
  split
  · split
    · exact State.Follows.quiet
    · exact State.Follows.quiet
  · exact .refl s

theorem State.leaveRun_follows (s : State) : s.Follows s.leaveRun := by
  unfold State.leaveRun
  split
  · dsimp only
    split
    · exact (State.Follows.trans State.Follows.quiet (State.storeLoad_follows _ _)).trans (State.pumpStop_follows _)
    · exact State.Follows.trans State.Follows.quiet (State.storeLoad_follows _ _)
  · exact .refl s

theorem State.hold_follows (s : State) (h : Handle) (c : Cond) : s.Follows (s.hold h c) := by
  unfold State.hold
  split
  · dsimp only
    refine State.Follows.trans ?_ (State.count_follows _ _ _ _ _)
    refine State.Follows.trans ?_ (State.notify_follows _ _)
    refine State.Follows.trans ?_ (State.upd_follows _ _ _)
    split
    · exact s.leaveRun_follows
    · exact .refl s
  · exact .refl s

theorem State.coastStop_follows (s : State) (h : Handle) : s.Follows (s.coastStop h) :=
  s.leaveRun_follows.trans State.Follows.quiet

theorem State.proceed_follows (s : State) (r : Record) : s.Follows (s.proceed r) := by
  unfold State.proceed
  split
  · exact s.hold_follows _ _
  · split
    · exact s.upd_follows _ _
    · exact s.enterRunning_follows _

theorem State.enterPhase_follows (s : State) (side : Side) (p : Phase) : s.Follows (s.enterPhase side p) := by
  unfold State.enterPhase
  cases side <;> exact State.Follows.quiet

theorem State.stopDoor_follows (s : State) (side : Side) : s.Follows (s.stopDoor side) := s.setDoor_follows _ _

/-! ### Endings -/

theorem State.stopOutputs_follows (s : State) (r : Record) : s.Follows (s.stopOutputs r) := by
  unfold State.stopOutputs
  split
  · split
    · exact s.stopDoor_follows _
    · exact .refl s
  · split
    · exact s.leaveRun_follows
    · exact .refl s

theorem State.release_follows (s : State) (r : Record) (moved : Bool) : s.Follows (s.release r moved) := by
  unfold State.release
  cases r.side with
  | some side =>
    dsimp only
    split
    · cases moved <;> cases side <;> exact State.Follows.quiet
    · exact .refl s
  | none =>
    dsimp only
    split
    · cases moved <;> exact State.Follows.quiet
    · exact .refl s

theorem State.endOne_follows (s : State) (h : Handle) (o : RecOutcome) (why : Option EndReason) :
    s.Follows (s.endOne h o why) := by
  unfold State.endOne
  cases s.find h with
  | none => exact .refl s
  | some r =>
    dsimp only
    refine State.Follows.trans ?_ (State.count_follows _ _ _ _ _)
    refine State.Follows.trans ?_ (State.release_follows _ _ _)
    refine State.Follows.trans ?_ (State.notify_follows _ _)
    exact (s.stopOutputs_follows r).trans State.Follows.quiet

theorem State.freePred_follows (s : State) (h : Handle) : s.Follows (s.freePred h) := s.upd_follows _ _

theorem State.endChain_follows :
    ∀ (fuel : Nat) (s : State) (h : Handle) (o : RecOutcome) (why : Option EndReason),
      s.Follows (s.endChain fuel h o why)
  | 0, s, _, _, _ => .refl s
  | fuel + 1, s, h, o, why => by
    unfold State.endChain
    refine (s.endOne_follows h o why).trans ?_
    cases o with
    | done => exact State.Follows.foldl _ State.freePred_follows _ _
    | stopped => exact State.Follows.foldl _ (fun t k => State.endChain_follows fuel t k _ _) _ _
    | failed => exact State.Follows.foldl _ (fun t k => State.endChain_follows fuel t k _ _) _ _
    | cancelled => exact State.Follows.foldl _ (fun t k => State.endChain_follows fuel t k _ _) _ _

theorem State.endTree_follows (s : State) (h : Handle) (o : RecOutcome) (why : Option EndReason) :
    s.Follows (s.endTree h o why) := State.endChain_follows _ _ _ _ _

theorem State.endEach_follows (s : State) (hs : List Handle) (o : RecOutcome) (why : Option EndReason) :
    s.Follows (s.endEach hs o why) := State.Follows.foldl _ (fun t h => t.endOne_follows h o why) _ _

theorem State.endLost_follows (s : State) (h : Handle) (o : RecOutcome) : s.Follows (s.endLost h o) := by
  unfold State.endLost
  exact (s.endOne_follows _ _ _).trans (State.Follows.foldl _ (fun t k => t.endTree_follows k _ _) _ _)

theorem State.linkLostEnds_follows (s : State) : s.Follows s.linkLostEnds := by
  unfold State.linkLostEnds
  refine State.Follows.foldl _ (fun t r => ?_) _ _
  cases r.origin with
  | link => exact t.endLost_follows _ _
  | station i => exact .refl t

theorem State.admit_follows (s : State) (a : Ask) : s.Follows (s.enrol a) :=
  State.Follows.quiet

theorem State.admitAll_follows :
    ∀ (xs : List (Kind × Option Side × Option Int)) (s : State) (n : Nat) (last : Option Handle),
      s.Follows (s.admitAll n last xs)
  | [], s, _, _ => .refl s
  | (_, _, _) :: rest, s, n, _ => by
    unfold State.admitAll
    exact (s.admit_follows _).trans (State.admitAll_follows rest _ n _)

/-! ### Grants and looks -/

theorem State.setWait_follows (s : State) (h : Handle) (w : WaitReason) : s.Follows (s.setWait h w) :=
  s.upd_follows _ _

theorem State.setWaits_follows (s : State) (rs : List Record) (w : WaitReason) : s.Follows (s.setWaits rs w) :=
  State.Follows.foldl _ (fun t (r : Record) => t.setWait_follows r.handle w) _ _

theorem State.afterGrant_follows (s : State) (h : Handle) (pump : Bool) : s.Follows (s.afterGrant h pump) := by
  unfold State.afterGrant
  split
  · split
    · exact State.Follows.quiet
    · exact s.enterRunning_follows _
  · exact s.upd_follows _ _

theorem State.grantPack_follows (s : State) (r : Record) : s.Follows (s.grantPack r) := by
  unfold State.grantPack
  dsimp only
  split
  · exact State.Follows.trans State.Follows.quiet (State.endTree_follows _ _ _ _)
  · exact State.Follows.trans State.Follows.quiet (State.afterGrant_follows _ _ _)

theorem State.lookPack_follows (s : State) : s.Follows s.lookPack := by
  unfold State.lookPack
  split
  · exact .refl s
  · dsimp only
    split
    · exact (s.setWaits_follows _ _).trans (State.setWait_follows _ _ _)
    · split
      · exact (s.setWaits_follows _ _).trans (State.setWait_follows _ _ _)
      · split
        · exact (s.setWaits_follows _ _).trans (State.setWait_follows _ _ _)
        · exact (s.setWaits_follows _ _).trans (State.grantPack_follows _ _)

theorem State.grantDoor_follows (s : State) (side : Side) (r : Record) : s.Follows (s.grantDoor side r) := by
  unfold State.grantDoor
  dsimp only
  split
  · exact State.Follows.trans State.Follows.quiet (State.enterPhase_follows _ _ _)
  · exact State.Follows.trans State.Follows.quiet (State.endTree_follows _ _ _ _)

theorem State.lookDoor_follows (s : State) (side : Side) : s.Follows (s.lookDoor side) := by
  unfold State.lookDoor
  split
  · exact .refl s
  · dsimp only
    split
    · exact (s.setWaits_follows _ _).trans (State.setWait_follows _ _ _)
    · split
      · exact (s.setWaits_follows _ _).trans (State.setWait_follows _ _ _)
      · exact (s.setWaits_follows _ _).trans (State.grantDoor_follows _ _ _)

theorem State.lookOnce_follows (s : State) : s.Follows s.lookOnce :=
  (s.lookPack_follows.trans (State.lookDoor_follows _ _)).trans (State.lookDoor_follows _ _)

theorem State.looks_follows : ∀ (fuel : Nat) (s : State), s.Follows (s.looks fuel)
  | 0, s => .refl s
  | fuel + 1, s => by
    unfold State.looks
    dsimp only
    split
    · exact s.lookOnce_follows.trans (State.looks_follows fuel _)
    · exact s.lookOnce_follows

theorem State.look_follows (s : State) : s.Follows s.look := State.looks_follows _ _

/-! ### The close of an event -/

theorem State.judge_follows (s : State) (h : Handle) : s.Follows (s.judge h) := by
  unfold State.judge
  cases s.find h with
  | none => exact .refl s
  | some r =>
    dsimp only
    cases r.state <;> dsimp only <;> repeat' split
    all_goals
      first
      | exact .refl s
      | exact s.upd_follows _ _
      | exact s.endTree_follows _ _ _
      | exact s.hold_follows _ _
      | exact s.proceed_follows _
      | exact s.setWait_follows _ _
      | exact s.enterRunning_follows _

theorem State.report_follows (s : State) : s.Follows s.report := State.Follows.foldl _ State.judge_follows _ _

theorem State.driveAway_follows (s : State) : s.Follows s.driveAway := by
  unfold State.driveAway
  dsimp only
  split
  · exact State.Follows.trans State.Follows.quiet (State.notify_follows _ _)
  · exact State.Follows.quiet

theorem State.resolveAll_follows (s : State) : s.Follows s.resolveAll :=
  State.Follows.quiet

/-- The close of an event follows. -/
theorem State.conclude_follows (s : State) : s.Follows s.conclude :=
  (((s.report_follows.trans (State.look_follows _)).trans (State.driveAway_follows _)).trans
    (State.resolveAll_follows _)).trans (State.queueServices_follows _)

/-! ### Lamps and timers -/

theorem State.updLamp_follows (s : State) (l : Lamp) (f : LampCh → LampCh) : s.Follows (s.updLamp l f) :=
  State.Follows.quiet

theorem State.latchFault_follows (s : State) (l : Lamp) (f : LampFault) : s.Follows (s.latchFault l f) := by
  unfold State.latchFault
  split
  · exact .refl s
  · exact (s.updLamp_follows l _).trans (State.notify_follows _ _)

theorem State.endDoor_follows (s : State) (side : Side) (o : RecOutcome) (why : Option EndReason) :
    s.Follows (s.endDoor side o why) := by
  unfold State.endDoor
  split
  · exact s.endTree_follows _ _ _
  · exact .refl s

theorem State.failPack_follows (s : State) (t : Nat) (why : EndReason) : s.Follows (s.failPack t why) := by
  unfold State.failPack
  split
  · exact ((s.passTo_follows t).trans (State.endTree_follows _ _ _ _)).trans (State.conclude_follows _)
  · exact .refl s

theorem State.endAt_follows (s : State) (t : Nat) (h : Handle) (o : RecOutcome) (why : Option EndReason) :
    s.Follows (s.endAt t h o why) :=
  ((s.passTo_follows t).trans (State.endTree_follows _ _ _ _)).trans (State.conclude_follows _)

/-! ### Endings that count the door switches that are due -/

theorem Inputs.recounted.refl (v : Inputs) (sides : List Side) : v.recounted v sides :=
  ⟨rfl, fun _ _ => ⟨rfl, rfl, fun _ => rfl⟩⟩

/-- What follows, follows with the switches of any sides. -/
theorem State.Follows.doors {s t : State} (a : s.Follows t) (sides : List Side) : s.FollowsDoors t sides := by
  refine ⟨?_, a.inputs ▸ .refl _ _⟩
  rw [show { s with inputs := t.inputs } = s by rw [a.inputs]]
  exact a

theorem State.FollowsDoors.then {s t u : State} {sides : List Side} (a : s.FollowsDoors t sides) (b : t.Follows u) :
    s.FollowsDoors u sides := by
  obtain ⟨f, i⟩ := a
  refine ⟨?_, b.inputs ▸ i⟩
  rw [b.inputs]
  exact f.trans b

theorem State.FollowsDoors.after {s t u : State} {sides : List Side} (a : s.Follows t) (b : t.FollowsDoors u sides) :
    s.FollowsDoors u sides := by
  obtain ⟨f, i⟩ := b
  refine ⟨State.Follows.trans ?_ f, a.inputs ▸ i⟩
  exact ⟨a.pending, a.settings, a.halt, rfl, a.supply, a.conv, a.bus, a.link, a.store, a.startup, a.edges, a.speed,
    a.speedAt, a.notes, a.now⟩

/-- A switch that is due keeps its sample and the time it is steady from. -/
theorem DoorSwitches.countDue_keeps (d : DoorSwitches) (now : Nat) (sw : Switch) :
    ((d.countDue now).get sw).raw = (d.get sw).raw ∧ ((d.countDue now).get sw).since = (d.get sw).since := by
  cases sw <;> simp only [DoorSwitches.countDue, DoorSwitches.get, Debounced.countDue] <;> split <;> exact ⟨rfl, rfl⟩

theorem State.countDue_follows (s : State) (side : Side) : s.FollowsDoors (s.countDue side) [side] := by
  cases side
  · refine ⟨.refl _, rfl, fun x sw => ?_⟩
    cases x
    · exact ⟨(s.inputs.near.countDue_keeps s.now sw).1, (s.inputs.near.countDue_keeps s.now sw).2,
        fun h => absurd (List.mem_singleton.mpr rfl) h⟩
    · exact ⟨rfl, rfl, fun _ => rfl⟩
  · refine ⟨.refl _, rfl, fun x sw => ?_⟩
    cases x
    · exact ⟨rfl, rfl, fun _ => rfl⟩
    · exact ⟨(s.inputs.off.countDue_keeps s.now sw).1, (s.inputs.off.countDue_keeps s.now sw).2,
        fun h => absurd (List.mem_singleton.mpr rfl) h⟩

theorem State.settleDoor_follows (s : State) (side : Side) (o : RecOutcome) (why : Option EndReason) :
    s.FollowsDoors (s.settleDoor side o why) [side] := (s.countDue_follows side).then (State.endDoor_follows _ _ _ _)

theorem State.failDoor_follows (s : State) (side : Side) (t : Nat) (why : EndReason) :
    s.FollowsDoors (s.failDoor side t why) [side] :=
  .after (s.passTo_follows t) ((State.settleDoor_follows _ _ _ _).then (State.conclude_follows _))

theorem State.obstruct_follows (s : State) (side : Side) (b : Bool) : s.FollowsDoors (s.obstruct side b) [side] := by
  unfold State.obstruct
  split
  · split
    · exact (s.enterPhase_follows _ _).doors _
    · exact s.settleDoor_follows _ _ _
  · exact s.settleDoor_follows _ _ _
  all_goals exact (State.Follows.refl s).doors _

end Sys2Proof.Machine
end

