-- ==== Sys2Proof/Laws/Table.lean ====
section
/-!
SUPPORT. What the operations do to the plan table as a whole: between two admissions its handles are only taken away,
the counters of handles and sequences and the peak stand, and the handles in use stay distinct.
-/

namespace Sys2Proof.Machine

/-- `t` follows from `s` with records only changed or ended: no record has been admitted. -/
structure State.Thins (s t : State) : Prop where
  handles : t.handles.Sublist s.handles
  nextHandle : t.plan.nextHandle = s.plan.nextHandle
  nextSeq : t.plan.nextSeq = s.plan.nextSeq
  peak : t.plan.peak = s.plan.peak
  recent : s.plan.recent.length ≤ 8 → t.plan.recent.length ≤ 8
  used : ∀ h ∈ t.plan.used, h ∈ s.plan.used
  nodup : s.plan.used.Nodup → t.plan.used.Nodup

theorem State.Thins.refl (s : State) : s.Thins s :=
  ⟨.refl _, rfl, rfl, rfl, id, fun _ h => h, id⟩

theorem State.Thins.trans {s t u : State} (a : s.Thins t) (b : t.Thins u) : s.Thins u where
  handles := b.handles.trans a.handles
  nextHandle := b.nextHandle.trans a.nextHandle
  nextSeq := b.nextSeq.trans a.nextSeq
  peak := b.peak.trans a.peak
  recent h := b.recent (a.recent h)
  used h x := a.used h (b.used h x)
  nodup h := b.nodup (a.nodup h)

theorem State.Thins.foldl {α : Type} (f : State → α → State) (hf : ∀ (s : State) (x : α), s.Thins (f s x)) :
    ∀ (xs : List α) (s : State), s.Thins (xs.foldl f s)
  | [], s => .refl s
  | x :: xs, s => (hf s x).trans (State.Thins.foldl f hf xs (f s x))

/-- An update that leaves the plan table alone. -/
theorem State.Thins.same {s t : State} (plan : t.plan = s.plan := by rfl) : s.Thins t := by
  refine ⟨?_, ?_, ?_, ?_, ?_, ?_, ?_⟩ <;> simp [State.handles, plan]

/-- The number of records does not grow. -/
theorem State.Thins.length {s t : State} (a : s.Thins t) : t.plan.records.length ≤ s.plan.records.length := by
  have := a.handles.length_le
  simpa [State.handles] using this

/-- A handle that is not in the table does not come back. -/
theorem State.Thins.gone {s t : State} (a : s.Thins t) {h : Handle} (g : h ∉ s.handles) : h ∉ t.handles :=
  fun x => g (a.handles.subset x)

/-! ### Records changed -/

theorem State.upd_handles (s : State) (h : Handle) (f : Record → Record) (hf : ∀ r, (f r).handle = r.handle) :
    (s.upd h f).handles = s.handles := by
  simp only [State.handles, State.upd, List.map_map]
  refine List.map_congr_left fun r _ => ?_
  simp only [Function.comp]
  split
  · exact hf r
  · rfl

theorem State.upd_thins (s : State) (h : Handle) (f : Record → Record)
    (hf : ∀ r, (f r).handle = r.handle := by intro r; rfl) : s.Thins (s.upd h f) := by
  have e := s.upd_handles h f hf
  have u : (s.upd h f).plan.used = s.plan.used := by
    simp only [Plan.used]
    exact congrArg (· ++ _) e
  exact ⟨e ▸ .refl _, rfl, rfl, rfl, id, fun x => by rw [u]; exact id, by rw [u]; exact id⟩

theorem State.slowRun_thins (s : State) : s.Thins s.slowRun := by
  unfold State.slowRun
  split
  · split
    · exact State.Thins.trans (State.Thins.same (t := s.creepRun _)) (State.upd_thins _ _ _)
    · exact .refl s
  · exact .refl s

theorem State.decideDerating_thins (s : State) : s.Thins s.decideDerating := by
  unfold State.decideDerating
  dsimp only
  split
  · exact State.Thins.trans State.Thins.same (State.slowRun_thins _)
  · exact State.Thins.same

theorem State.notify_thins (s : State) (n : Notice) : s.Thins (s.notify n) := State.Thins.same

theorem State.applyCounters_thins (s : State) (f : Fin 8 → Counter → Counter × Option Nat) :
    s.Thins (s.applyCounters f) := by
  unfold State.applyCounters
  exact State.Thins.trans State.Thins.same (State.decideDerating_thins _)

theorem State.queueServices_thins (s : State) : s.Thins s.queueServices := by
  unfold State.queueServices
  exact (State.Thins.foldl _ State.notify_thins _ s).trans State.Thins.same

theorem State.count_thins (s : State) (src : List Source) (o : Option Origin) (x : Option Side) (n : Nat) :
    s.Thins (s.count src o x n) := by
  unfold State.count
  split
  · exact .refl s
  · exact s.applyCounters_thins _

theorem State.passTime_thins (s : State) (ms : Nat) : s.Thins (s.passTime ms) := by
  unfold State.passTime
  dsimp only
  split
  · exact State.Thins.same
  · exact (State.Thins.trans State.Thins.same (State.applyCounters_thins _ _)).trans (State.queueServices_thins _)

theorem State.passTo_thins (s : State) (t : Nat) : s.Thins (s.passTo t) := s.passTime_thins _

theorem State.pumpStart_thins (s : State) (o : Origin) : s.Thins (s.pumpStart o) := by
  unfold State.pumpStart
  exact State.Thins.trans State.Thins.same (State.count_thins _ _ _ _ _)

theorem State.pumpStop_thins (s : State) : s.Thins s.pumpStop := State.Thins.same

theorem State.enterRunning_thins (s : State) (h : Handle) : s.Thins (s.enterRunning h) := by
  unfold State.enterRunning
  split
  · rename_i r run _ _
    dsimp only
    have a := s.upd_thins h (s.startRecord run)
    split
    · exact (a.trans State.Thins.same).trans (State.pumpStart_thins _ _)
    · exact a.trans State.Thins.same
  · exact .refl s

theorem State.storeLoad_thins (s : State) (run : Run) : s.Thins (s.storeLoad run) := by
  unfold State.storeLoad
  split
  · split <;> exact State.Thins.same
  · exact .refl s

theorem State.leaveRun_thins (s : State) : s.Thins s.leaveRun := by
  unfold State.leaveRun
  split
  · dsimp only
    split
    · exact (State.Thins.trans State.Thins.same (State.storeLoad_thins _ _)).trans (State.pumpStop_thins _)
    · exact State.Thins.trans State.Thins.same (State.storeLoad_thins _ _)
  · exact .refl s

theorem State.hold_thins (s : State) (h : Handle) (c : Cond) : s.Thins (s.hold h c) := by
  unfold State.hold
  split
  · dsimp only
    refine State.Thins.trans ?_ (State.count_thins _ _ _ _ _)
    refine State.Thins.trans ?_ (State.notify_thins _ _)
    refine State.Thins.trans ?_ (State.upd_thins _ _ _)
    split
    · exact s.leaveRun_thins
    · exact .refl s
  · exact .refl s

theorem State.coastStop_thins (s : State) (h : Handle) : s.Thins (s.coastStop h) :=
  (s.leaveRun_thins.trans (State.upd_thins _ h fun r => { r with state := .settling, wait := none })).trans
    State.Thins.same

theorem State.proceed_thins (s : State) (r : Record) : s.Thins (s.proceed r) := by
  unfold State.proceed
  split
  · exact s.hold_thins _ _
  · split
    · exact s.upd_thins _ _
    · exact s.enterRunning_thins _

theorem State.setDoor_thins (s : State) (side : Side) (d : Door) : s.Thins (s.setDoor side d) :=
  State.Thins.same (s.setDoor_plan side d)

theorem State.enterPhase_thins (s : State) (side : Side) (p : Phase) : s.Thins (s.enterPhase side p) := by
  unfold State.enterPhase
  cases side <;> exact State.Thins.same

theorem State.stopDoor_thins (s : State) (side : Side) : s.Thins (s.stopDoor side) := s.setDoor_thins _ _

/-! ### Endings -/

theorem State.stopOutputs_thins (s : State) (r : Record) : s.Thins (s.stopOutputs r) := by
  unfold State.stopOutputs
  split
  · split
    · exact s.stopDoor_thins _
    · exact .refl s
  · split
    · exact s.leaveRun_thins
    · exact .refl s

theorem State.release_thins (s : State) (r : Record) (moved : Bool) : s.Thins (s.release r moved) := by
  unfold State.release
  cases r.side with
  | some side =>
    dsimp only
    split
    · cases moved <;> cases side <;> exact State.Thins.same
    · exact .refl s
  | none =>
    dsimp only
    split
    · cases moved <;> exact State.Thins.same
    · exact .refl s

/-- The record found under a handle has that handle and stands in the table. -/
theorem State.find_spec {s : State} {h : Handle} {r : Record} (e : s.find h = some r) :
    r.handle = h ∧ r ∈ s.plan.records := by
  have a := List.find?_some e
  exact ⟨by simpa using a, List.mem_of_find?_eq_some e⟩

/-- A record leaves the table for the recent-outcomes list (R13, R15). -/
theorem State.moveToRecent_thins (s : State) {r : Record} {h : Handle} (hm : h ∈ s.handles) (e : EndData)
    (hr : r.handle = h) :
    s.Thins
      { s with
        plan :=
          { s.plan with
            records := s.plan.records.filter fun x => x.handle ≠ h
            recent := (r.finish e :: s.plan.recent).take Config.recentCap } } := by
  have hl : ∀ l : List Record, (l.filter fun x => x.handle ≠ h).map (·.handle) =
      (l.map (·.handle)).filter fun k => decide (k ≠ h) := by
    intro l
    rw [List.filter_map]
    rfl
  refine ⟨?_, rfl, rfl, rfl, ?_, ?_, ?_⟩
  · exact (List.filter_sublist).map _
  · intro _
    simp [Config.recentCap]
  · intro k hk
    simp only [Plan.used, List.mem_append] at hk ⊢
    rcases hk with hk | hk
    · rw [hl] at hk
      exact .inl (List.mem_of_mem_filter hk)
    · rw [List.map_take] at hk
      have hk := List.mem_of_mem_take hk
      simp only [List.map_cons, List.mem_cons] at hk
      rcases hk with hk | hk
      · left
        rw [hk]
        simpa [State.handles, Record.finish, hr] using hm
      · exact .inr hk
  · intro nd
    simp only [Plan.used] at nd ⊢
    rw [hl]
    have sub : ((s.plan.records.map (·.handle)).filter (fun k => decide (k ≠ h)) ++
        (r.finish e :: s.plan.recent).map (·.handle)).Nodup := by
      rw [List.map_cons, List.nodup_append] at *
      obtain ⟨a, b, c⟩ := nd
      refine ⟨a.filter _, ?_, ?_⟩
      · refine List.nodup_cons.mpr ⟨?_, b⟩
        intro x
        refine c h ?_ h ?_ rfl
        · simpa [State.handles] using hm
        · simpa [Record.finish, hr] using x
      · intro x hx y hy
        have hx' := List.mem_filter.mp hx
        rcases List.mem_cons.mp hy with hy | hy
        · subst hy
          simpa [Record.finish, hr] using hx'.2
        · exact c x hx'.1 y hy
    rw [List.map_take]
    refine sub.sublist (List.Sublist.append (.refl _) (List.take_sublist _ _))

theorem State.find_mem {s : State} {h : Handle} {r : Record} (e : s.find h = some r) : h ∈ s.handles := by
  have a := State.find_spec e
  exact List.mem_map.mpr ⟨r, a.2, a.1⟩

theorem State.stopOutputs_handles (s : State) (r : Record) : (s.stopOutputs r).handles = s.handles := by
  unfold State.stopOutputs
  have lr : s.leaveRun.handles = s.handles := by
    unfold State.leaveRun State.storeLoad
    repeat' split
    all_goals rfl
  split
  · split
    · simp [State.stopDoor, State.handles]
    · rfl
  · split
    · exact lr
    · rfl

theorem State.endOne_thins (s : State) (h : Handle) (o : RecOutcome) (why : Option EndReason) :
    s.Thins (s.endOne h o why) := by
  unfold State.endOne
  cases e : s.find h with
  | none => exact .refl s
  | some r =>
    dsimp only
    refine State.Thins.trans ?_ (State.count_thins _ _ _ _ _)
    refine State.Thins.trans ?_ (State.release_thins _ _ _)
    refine State.Thins.trans ?_ (State.notify_thins _ _)
    refine (s.stopOutputs_thins r).trans (State.moveToRecent_thins _ ?_ _ (State.find_spec e).1)
    rw [State.stopOutputs_handles]
    exact State.find_mem e

theorem State.freePred_thins (s : State) (h : Handle) : s.Thins (s.freePred h) := by
  refine s.upd_thins h _ fun r => ?_
  unfold State.compete State.entry
  dsimp only
  split <;> rfl

theorem State.endChain_thins :
    ∀ (fuel : Nat) (s : State) (h : Handle) (o : RecOutcome) (why : Option EndReason),
      s.Thins (s.endChain fuel h o why)
  | 0, s, _, _, _ => .refl s
  | fuel + 1, s, h, o, why => by
    unfold State.endChain
    refine (s.endOne_thins h o why).trans ?_
    cases o with
    | done => exact State.Thins.foldl _ State.freePred_thins _ _
    | stopped => exact State.Thins.foldl _ (fun t k => State.endChain_thins fuel t k _ _) _ _
    | failed => exact State.Thins.foldl _ (fun t k => State.endChain_thins fuel t k _ _) _ _
    | cancelled => exact State.Thins.foldl _ (fun t k => State.endChain_thins fuel t k _ _) _ _

theorem State.endTree_thins (s : State) (h : Handle) (o : RecOutcome) (why : Option EndReason) :
    s.Thins (s.endTree h o why) := State.endChain_thins _ _ _ _ _

theorem State.endEach_thins (s : State) (hs : List Handle) (o : RecOutcome) (why : Option EndReason) :
    s.Thins (s.endEach hs o why) := State.Thins.foldl _ (fun t h => t.endOne_thins h o why) _ _

theorem State.endLost_thins (s : State) (h : Handle) (o : RecOutcome) : s.Thins (s.endLost h o) := by
  unfold State.endLost
  exact (s.endOne_thins _ _ _).trans (State.Thins.foldl _ (fun t k => t.endTree_thins k _ _) _ _)

theorem State.linkLostEnds_thins (s : State) : s.Thins s.linkLostEnds := by
  unfold State.linkLostEnds
  refine State.Thins.foldl _ (fun t r => ?_) _ _
  cases r.origin with
  | link => exact t.endLost_thins _ _
  | station i => exact .refl t

/-! ### Grants and looks -/

theorem State.setWait_thins (s : State) (h : Handle) (w : WaitReason) : s.Thins (s.setWait h w) := s.upd_thins _ _

theorem State.setWaits_thins (s : State) (rs : List Record) (w : WaitReason) : s.Thins (s.setWaits rs w) :=
  State.Thins.foldl _ (fun t (r : Record) => t.setWait_thins r.handle w) _ _

theorem State.afterGrant_thins (s : State) (h : Handle) (pump : Bool) : s.Thins (s.afterGrant h pump) := by
  unfold State.afterGrant
  split
  · split
    · exact State.Thins.trans (s.upd_thins h fun r => { r with state := .lead, wait := some .rest, leadEnd := none })
        State.Thins.same
    · exact s.enterRunning_thins _
  · exact s.upd_thins _ _

theorem State.grantPack_thins (s : State) (r : Record) : s.Thins (s.grantPack r) := by
  unfold State.grantPack
  dsimp only
  have a := s.upd_thins r.handle (s.grantRecord (s.provisional r))
  split
  · exact (a.trans State.Thins.same).trans (State.endTree_thins _ _ _ _)
  · exact (a.trans State.Thins.same).trans (State.afterGrant_thins _ _ _)

theorem State.lookPack_thins (s : State) : s.Thins s.lookPack := by
  unfold State.lookPack
  split
  · exact .refl s
  · dsimp only
    split
    · exact (s.setWaits_thins _ _).trans (State.setWait_thins _ _ _)
    · split
      · exact (s.setWaits_thins _ _).trans (State.setWait_thins _ _ _)
      · split
        · exact (s.setWaits_thins _ _).trans (State.setWait_thins _ _ _)
        · exact (s.setWaits_thins _ _).trans (State.grantPack_thins _ _)

theorem State.grantDoor_thins (s : State) (side : Side) (r : Record) : s.Thins (s.grantDoor side r) := by
  unfold State.grantDoor
  dsimp only
  have a := s.upd_thins r.handle fun r =>
    { r with state := .running, wait := none, start := some (.door (s.door side).state) }
  split
  · exact (a.trans State.Thins.same).trans (State.enterPhase_thins _ _ _)
  · exact (a.trans State.Thins.same).trans (State.endTree_thins _ _ _ _)

theorem State.lookDoor_thins (s : State) (side : Side) : s.Thins (s.lookDoor side) := by
  unfold State.lookDoor
  split
  · exact .refl s
  · dsimp only
    split
    · exact (s.setWaits_thins _ _).trans (State.setWait_thins _ _ _)
    · split
      · exact (s.setWaits_thins _ _).trans (State.setWait_thins _ _ _)
      · exact (s.setWaits_thins _ _).trans (State.grantDoor_thins _ _ _)

theorem State.lookOnce_thins (s : State) : s.Thins s.lookOnce :=
  (s.lookPack_thins.trans (State.lookDoor_thins _ _)).trans (State.lookDoor_thins _ _)

theorem State.looks_thins : ∀ (fuel : Nat) (s : State), s.Thins (s.looks fuel)
  | 0, s => .refl s
  | fuel + 1, s => by
    unfold State.looks
    dsimp only
    split
    · exact s.lookOnce_thins.trans (State.looks_thins fuel _)
    · exact s.lookOnce_thins

theorem State.look_thins (s : State) : s.Thins s.look := State.looks_thins _ _

/-! ### The close of an event -/

theorem State.entry_handle (s : State) (r : Record) : (s.entry r).handle = r.handle := by
  unfold State.entry
  split <;> rfl

theorem State.judge_thins (s : State) (h : Handle) : s.Thins (s.judge h) := by
  unfold State.judge
  cases s.find h with
  | none => exact .refl s
  | some r =>
    dsimp only
    cases r.state <;> dsimp only <;> repeat' split
    all_goals
      first
      | exact .refl s
      | exact s.upd_thins _ _ s.entry_handle
      | exact s.endTree_thins _ _ _
      | exact s.hold_thins _ _
      | exact s.proceed_thins _
      | exact s.setWait_thins _ _
      | exact s.enterRunning_thins _

theorem State.report_thins (s : State) : s.Thins s.report := State.Thins.foldl _ State.judge_thins _ _

theorem State.driveAway_thins (s : State) : s.Thins s.driveAway := by
  unfold State.driveAway
  dsimp only
  split
  · exact State.Thins.same
  · exact State.Thins.same

/-- The close of an event admits no record. -/
theorem State.conclude_thins (s : State) : s.Thins s.conclude :=
  (((s.report_thins.trans (State.look_thins _)).trans (State.driveAway_thins _)).trans
    (State.Thins.same (t := State.resolveAll _))).trans (State.queueServices_thins _)

theorem State.endDoor_thins (s : State) (side : Side) (o : RecOutcome) (why : Option EndReason) :
    s.Thins (s.endDoor side o why) := by
  unfold State.endDoor
  split
  · exact s.endTree_thins _ _ _
  · exact .refl s

/-! ### Handles that are gone -/

/-- A record that has ended is not in the table. -/
theorem State.endOne_gone (s : State) (h : Handle) (o : RecOutcome) (why : Option EndReason) :
    h ∉ (s.endOne h o why).handles := by
  unfold State.endOne
  cases e : s.find h with
  | none =>
    intro m
    obtain ⟨r, hr, rfl⟩ := List.mem_map.mp m
    have := List.find?_eq_none.mp e r hr
    simp at this
  | some r =>
    dsimp only
    refine State.Thins.gone (State.count_thins _ _ _ _ _) ?_
    refine State.Thins.gone (State.release_thins _ _ _) ?_
    intro m
    obtain ⟨x, hx, hxe⟩ := List.mem_map.mp m
    have := List.mem_filter.mp hx
    simp [hxe] at this

theorem State.endTree_gone (s : State) (h : Handle) (o : RecOutcome) (why : Option EndReason) :
    h ∉ (s.endTree h o why).handles := by
  unfold State.endTree Config.tableCap State.endChain
  have g := s.endOne_gone h o why
  dsimp only
  cases o with
  | done => exact (State.Thins.foldl _ State.freePred_thins _ _).gone g
  | stopped => exact (State.Thins.foldl _ (fun t k => State.endChain_thins _ t k _ _) _ _).gone g
  | failed => exact (State.Thins.foldl _ (fun t k => State.endChain_thins _ t k _ _) _ _).gone g
  | cancelled => exact (State.Thins.foldl _ (fun t k => State.endChain_thins _ t k _ _) _ _).gone g

/-- Records ended one by one are not in the table. -/
theorem State.endEach_gone :
    ∀ (hs : List Handle) (s : State) (o : RecOutcome) (why : Option EndReason),
      ∀ h ∈ hs, h ∉ (s.endEach hs o why).handles
  | [], _, _, _, _, m => nomatch m
  | k :: hs, s, o, why, h, m => by
    rcases List.mem_cons.mp m with rfl | m
    · exact State.Thins.gone (State.endEach_thins _ hs o why) (s.endOne_gone h o why)
    · exact State.endEach_gone hs (s.endOne k o why) o why h m

/-- With every record ended the table is empty. -/
theorem State.endEach_all (s : State) (o : RecOutcome) (why : Option EndReason) :
    (s.endEach s.handles o why).plan.records = [] := by
  have sub := (s.endEach_thins s.handles o why).handles
  have g := State.endEach_gone s.handles s o why
  have e : (s.endEach s.handles o why).handles = [] := by
    refine List.eq_nil_iff_forall_not_mem.mpr fun h m => g h (sub.subset m) m
  simpa [State.handles] using e

end Sys2Proof.Machine
end

