-- ==== Sys2Proof/Laws/Events.lean ====
section
/-!
SUPPORT. What a reply, the passing of time and an ending do, each said once: the lemmas that a statement about an event
cites in place of unfolding the operations.
-/

namespace Sys2Proof.Machine

/-! ### Requests and replies -/

/-- A request that can be taken at once is taken. -/
theorem State.deliver_ready {s : State} {r : Request} (h : s.ready r) : s.deliver r = s.serve r := by
  obtain ⟨w, a, l⟩ := h
  have sup : s.link.supplant = s.link := by simp [Link.supplant, a]
  simp [State.deliver, w, sup, Nat.not_lt.mpr l]

/-- Where processing does not wait no reply is being fed and at most 16 characters are queued (R182). -/
theorem State.waits_false {s : State} (h : s.waits = false) :
    s.link.feed = [] ∧ s.link.tx.length ≤ 16 ∧ s.link.calp = none ∧ s.startup.reading = false := by
  simp only [State.waits, Bool.or_eq_false_iff, Link.room, Config.txCap, Config.txRoom] at h
  obtain ⟨⟨⟨a, b⟩, c⟩, d⟩ := h
  have d := of_decide_eq_false d
  exact ⟨by simpa using c, by omega, by simpa using b, a⟩

/-- A reply is placed behind what the queue held (R183). -/
theorem State.answer_answers {s : State} (ht : s.link.tx.length ≤ 256) (t : Tag) (n : ReqName)
    (w : String) (fs : List Field) : s.replies (s.answer t n w fs) t n w fs := by
  refine ⟨rfl, ?_, ?_⟩
  · simp [State.answer, Link.place]
  · simp only [State.answer, Link.place, Link.room, Config.txCap]
    by_cases h : (replyText t (chars (reqWord n)) w fs).length ≤ 256 - s.link.tx.length
    · exact .inl (List.drop_eq_nil_of_le h)
    · right
      simp only [List.length_append, List.length_take]
      omega

/-- A reply to a request that can be taken at once, from a state with the same link. -/
theorem State.answer_ready {s x : State} {r : Request} (h : s.ready r) (hx : x.link = s.link) (t : Tag) (n : ReqName)
    (w : String) (fs : List Field) : x.replies (x.answer t n w fs) t n w fs := by
  obtain ⟨_, b, _⟩ := State.waits_false h.1
  exact State.answer_answers (by rw [hx]; omega) t n w fs

/-! ### The drain (R182) -/

/-- Whether processing waits depends on the image read, the waiting `CALP`, the rest of a reply and the transmit queue
alone. -/
theorem State.waits_congr {s t : State} (r : t.startup.reading = s.startup.reading) (c : t.link.calp = s.link.calp)
    (f : t.link.feed = s.link.feed) (x : t.link.tx = s.link.tx) : t.waits = s.waits := by
  unfold State.waits Link.room
  rw [r, c, f, x]

/-- While processing waits nothing is taken. -/
theorem State.drainFor_waits {s : State} (h : s.waits = true) : ∀ n, s.drainFor n = s
  | 0 => rfl
  | n + 1 => by
    unfold State.drainFor
    rw [if_pos h]

/-- With an empty FIFO and no complete record nothing is taken. -/
theorem State.drainFor_empty {s : State} (hf : s.link.fifo = []) (hc : s.link.complete = none) :
    ∀ n, s.drainFor n = s
  | 0 => rfl
  | n + 1 => by
    unfold State.drainFor
    rw [hf, hc]
    split <;> rfl

theorem State.drain_waits {s : State} (h : s.waits = true) : s.drain = s := State.drainFor_waits h _

theorem State.drain_empty {s : State} (hf : s.link.fifo = []) (hc : s.link.complete = none) : s.drain = s :=
  State.drainFor_empty hf hc _

/-- A turn that takes a character. -/
theorem State.drainFor_char {s : State} {x : RxChar} {rest : List RxChar} (w : s.waits = false)
    (hc : s.link.complete = none) (hf : s.link.fifo = x :: rest) (n : Nat) :
    s.drainFor (n + 1) =
      State.drainFor n { s with link := ({ s.link with fifo := rest } : Link).assemble x } := by
  rw [State.drainFor]
  simp only [w, hc, hf]
  rfl

/-- A turn that takes a complete record. -/
theorem State.drainFor_record {s : State} {text : List Ch} (w : s.waits = false) (hc : s.link.complete = some text)
    (n : Nat) :
    s.drainFor (n + 1) =
      State.drainFor n ({ s with link := { s.link with complete := none } }.process text) := by
  rw [State.drainFor]
  simp only [w, hc]
  rfl

/-! ### Time -/

theorem State.slowRun_now (s : State) : s.slowRun.now = s.now := by
  unfold State.slowRun
  repeat' split
  all_goals rfl

theorem State.decideDerating_now (s : State) : s.decideDerating.now = s.now := by
  unfold State.decideDerating
  dsimp only
  split
  · exact State.slowRun_now _
  · rfl

theorem State.notify_foldl_now : ∀ (ns : List Notice) (s : State), (ns.foldl State.notify s).now = s.now
  | [], _ => rfl
  | n :: ns, s => by
    rw [List.foldl_cons, State.notify_foldl_now ns]
    rfl

theorem State.applyCounters_now (s : State) (f : Fin 8 → Counter → Counter × Option Nat) :
    (s.applyCounters f).now = s.now := by
  unfold State.applyCounters
  dsimp only
  rw [State.decideDerating_now]

theorem State.queueServices_now (s : State) : s.queueServices.now = s.now := State.notify_foldl_now _ s

theorem State.passTime_now (s : State) (ms : Nat) : (s.passTime ms).now = s.now + ms := by
  unfold State.passTime
  dsimp only
  split
  · rfl
  · rw [State.queueServices_now, State.applyCounters_now]

/-- Time has come to the time named, or stays past it. -/
theorem State.passTo_now (s : State) (t : Nat) : (s.passTo t).now = max s.now t := by
  unfold State.passTo
  rw [State.passTime_now]
  omega

/-! ### The close of an event -/

theorem State.notify_foldl_notes : ∀ (ns : List Notice) (s : State), (ns.foldl State.notify s).notes = s.notes.pushAll ns
  | [], _ => rfl
  | n :: ns, s => by
    rw [List.foldl_cons, State.notify_foldl_notes ns]
    rfl

/-- The `SERVICE` notices of the event's crossings join the queue in index order, and none is left over (R168). -/
theorem State.queueServices_notes (s : State) :
    s.queueServices.notes = s.notes.pushAll s.cnt.notices ∧ ∀ i : Fin 8, s.queueServices.cnt.service[i] = none := by
  refine ⟨State.notify_foldl_notes _ _, fun i => ?_⟩
  simp [State.queueServices]

/-- The close of an event queues its `SERVICE` notices after all the others (R47, R168). -/
theorem State.conclude_notes (s : State) :
    s.conclude.notes = s.report.look.driveAway.notes.pushAll s.report.look.driveAway.cnt.notices :=
  State.notify_foldl_notes _ _

/-! ### Switches, lamps and clocks -/

/-- A switch is counted when a new level has been steady for its debounce time, and is as it was before that (R31). -/
theorem Debounced.countDue_counted (d : Debounced) (now : Nat) :
    (d.countDue now).counted = if d.since + Config.debounceMs ≤ now then some d.raw else d.counted := by
  unfold Debounced.countDue Debounced.moving Debounced.count
  by_cases h : d.since + Config.debounceMs ≤ now <;> by_cases e : d.counted = some d.raw <;> simp [h, e]

/-- A channel driven has the level named; where it had it already nothing else has changed (R148). -/
theorem LampCh.drive_level (c : LampCh) (on : Bool) (now : Nat) :
    (c.drive on now).level = on ∧ (c.level = on → c.drive on now = c) := by
  unfold LampCh.drive
  by_cases h : c.level = on
  · simp [h]
  · cases on <;> simp [h]

/-- A read-back gives its level, and one that does not differ from the last changes nothing (R156). -/
theorem LampCh.sampleBack_readBack (c : LampCh) (level : Bool) (now : Nat) :
    (c.sampleBack level now).readBack = level ∧ (c.readBack = level → c.sampleBack level now = c) := by
  unfold LampCh.sampleBack
  by_cases h : c.readBack = level <;> simp [h]

/-- The next event of a periodic clock lies after now, within one period of it, and on the clock's grid (R129, R147). -/
theorem nextDue_grid {due period now : Nat} (hp : 0 < period) (h : due ≤ now) :
    now < nextDue due period now ∧ nextDue due period now ≤ now + period ∧
      (nextDue due period now - due) % period = 0 := by
  unfold nextDue
  have e := Nat.div_add_mod (now - due) period
  have l := Nat.mod_lt (now - due) hp
  have m : ((now - due) / period + 1) * period = period * ((now - due) / period) + period := by
    rw [Nat.add_mul, Nat.mul_comm]; omega
  refine ⟨by omega, by omega, ?_⟩
  rw [Nat.add_sub_cancel_left]
  exact Nat.mul_mod_left _ _

/-! ### Records under a handle -/

/-- A record changed keeps its handle, so it is found under it. -/
theorem State.find_upd {s : State} {h : Handle} {r : Record} (e : s.find h = some r) (f : Record → Record)
    (hf : (f r).handle = h) : (s.upd h f).find h = some (f r) := by
  unfold State.find State.upd at *
  simp only
  generalize s.plan.records = xs at *
  induction xs with
  | nil => simp at e
  | cons x xs ih =>
    by_cases hx : x.handle = h
    · have : x = r := by simpa [hx] using e
      subst this
      simp [hx, hf]
    · have hb : (x.handle == h) = false := by simp [hx]
      rw [List.find?_cons, hb] at e
      simp only [List.map_cons, hx, if_false]
      rw [List.find?_cons, hb]
      exact ih e

/-! ### Endings -/

/-- What the outputs going off leaves of the conversions and switches, from which a final position is read. -/
theorem State.stopOutputs_pos {s : State} {r : Record} : (s.stopOutputs r).posOf r = s.endPos r := by
  have f := s.stopOutputs_follows r
  unfold State.posOf State.endPos
  cases e : r.side with
  | none => simp [State.reported, State.chanValue, f.conv]
  | some side =>
    simp only [State.stopOutputs, e]
    split
    · cases side <;> rfl
    · rfl

/-- A record that ends queues its `ENDED` notice with its final position (R13). -/
theorem State.endOne_noted {s : State} {h : Handle} {r : Record} (e : s.find h = some r) (o : RecOutcome)
    (why : Option EndReason) : s.queued (s.endOne h o why) (.ended h r.kind o why (s.endPos r)) := by
  unfold State.endOne
  rw [e]
  dsimp only
  refine State.queued_mid (State.stopOutputs_follows s r) ?_
    ((State.release_follows _ _ _).trans (State.count_follows _ _ _ _ _))
  rw [← State.stopOutputs_pos]
  rfl

/-- A record that ends with its successors queues its own notice first among them (R7, R13). -/
theorem State.endTree_noted {s : State} {h : Handle} {r : Record} (e : s.find h = some r) (o : RecOutcome)
    (why : Option EndReason) : s.queued (s.endTree h o why) (.ended h r.kind o why (s.endPos r)) := by
  unfold State.endTree Config.tableCap State.endChain
  have q := State.endOne_noted e o why
  dsimp only
  cases o with
  | done => exact q.follows (State.Follows.foldl _ State.freePred_follows _ _)
  | stopped => exact q.follows (State.Follows.foldl _ (fun t k => State.endChain_follows _ t k _ _) _ _)
  | failed => exact q.follows (State.Follows.foldl _ (fun t k => State.endChain_follows _ t k _ _) _ _)
  | cancelled => exact q.follows (State.Follows.foldl _ (fun t k => State.endChain_follows _ t k _ _) _ _)

/-- What an ending is, of a record and its successors. -/
theorem State.endTree_ends {s : State} {r : Record} (e : s.find r.handle = some r) (o : RecOutcome)
    (why : Option EndReason) : s.Ends (s.endTree r.handle o why) r o why where
  gone := s.endTree_gone _ _ _
  stays := (State.conclude_thins _).gone (s.endTree_gone _ _ _)
  noted := (State.endTree_noted e o why).follows (State.conclude_follows _)
  follows := (s.endTree_follows _ _ _).trans (State.conclude_follows _)

/-- A halt event with the latch clear leaves no record, the latch set and its cause the first one (R28). -/
theorem State.raiseHalt_clear {s : State} (h : s.halt.set = false) (c : Cause) :
    (s.raiseHalt c).plan.records = [] ∧ (s.raiseHalt c).halt = { s.halt with set := true, first := some c }.mark c true ∧
      s.queued (s.raiseHalt c) (.halted c) := by
  unfold State.raiseHalt
  rw [h]
  dsimp only
  set s1 := { s with halt := { s.halt with set := true, first := some c }.mark c true }.notify (.halted c) with d1
  have f := (s1.endEach_follows s1.handles .cancelled (some .halted)).trans
    (State.count_follows (s1.endEach s1.handles .cancelled (some .halted)) [.halts] c.origin none
      (s1.endEach s1.handles .cancelled (some .halted)).axis.lastLoad)
  refine ⟨?_, f.halt, ?_⟩
  · have g := State.count_thins (s1.endEach s1.handles .cancelled (some .halted)) [.halts] c.origin none
      (s1.endEach s1.handles .cancelled (some .halted)).axis.lastLoad
    have l := g.length
    rw [s1.endEach_all] at l
    exact List.eq_nil_of_length_eq_zero (Nat.le_zero.mp l)
  · obtain ⟨ns, hn⟩ := f.notes
    exact ⟨[], ns, hn⟩

/-! ### The polls of the station bus (R129, R135) -/

/-- What a poll's judgement leads to: its event closes and the next poll begins, or, at the end of the cycle, the cycle is
judged in the event, which then closes. -/
theorem State.advance_cases (s : State) (n : Nat) :
    (∃ i e, s.bus.next n = some (i, e) ∧ s.advance n = s.conclude.poll i e) ∨
      (s.bus.next n = none ∧ s.advance n = s.judgeCycle.conclude) := by
  unfold State.advance
  rcases h : s.bus.next n with _ | ⟨i, e⟩
  · exact .inr ⟨rfl, rfl⟩
  · exact .inl ⟨i, e, rfl, rfl⟩

/-- The end of a poll of a configured station is the judgement, and then what that leads to. -/
theorem State.endPoll_eq {s : State} {i : Fin 6} {e : StationCfg} (hc : s.bus.current = some i)
    (he : s.bus.stations[i].entry = some e) (f : State → Fin 6 → StationCfg → State) :
    s.endPoll f = (f s i e).advance (i.val + 1) := by
  unfold State.endPoll
  rw [hc]
  dsimp only
  rw [he]

/-- With no poll outstanding there is none to end. -/
theorem State.endPoll_none {s : State} (hc : s.bus.current = none) (f : State → Fin 6 → StationCfg → State) :
    s.endPoll f = s := by
  unfold State.endPoll
  rw [hc]

end Sys2Proof.Machine
end

