-- ==== Sys2Proof/Laws/PerInstr.lean ====
section
/-!
SUPPORT. Statements made for each command: a well-formed command that is a request has fields that can be written, in a
record that the assembler can hold (R177, R179).
-/

namespace Sys2Proof.Laws.Fit

/-- The record of a well-formed request is no longer than 96 characters and its fields fit the grammar. -/
def Statement (i : Instr) : Prop :=
  i.wf = true → ∀ r, i.request = some r → (∀ f ∈ r.fields, f.fits = true) ∧ (Machine.recordText r).length ≤ 96

theorem of_wf (i : Instr) : Statement i := by
  intro w r e
  have h : r.fits = true := by
    unfold Instr.wf at w
    rw [e] at w
    exact (Bool.and_eq_true_iff.mp w).1
  have h := Bool.and_eq_true_iff.mp h
  exact ⟨List.all_eq_true.mp h.1, of_decide_eq_true h.2⟩

theorem powerOnReset : ∀ strap, Statement (.powerOnReset strap) := fun _ => of_wf _

theorem resetPin : ∀ strap, Statement (.resetPin strap) := fun _ => of_wf _

theorem imageReadEnd : Statement .imageReadEnd := of_wf _

theorem characterReceived : ∀ c framing, Statement (.characterReceived c framing) := fun _ _ => of_wf _

theorem haltCharacter : Statement .haltCharacter := of_wf _

theorem lineBreak : Statement .lineBreak := of_wf _

theorem rejectedRecord : ∀ text, Statement (.rejectedRecord text) := fun _ => of_wf _

theorem transmitCharacterSent : Statement .transmitCharacterSent := of_wf _

theorem move : ∀ t fs, Statement (.move t fs) := fun _ _ => of_wf _

theorem seqn : ∀ t fs, Statement (.seqn t fs) := fun _ _ => of_wf _

theorem canc : ∀ t fs, Statement (.canc t fs) := fun _ _ => of_wf _

theorem cancAll : ∀ t fs, Statement (.cancAll t fs) := fun _ _ => of_wf _

theorem halt : ∀ t fs, Statement (.halt t fs) := fun _ _ => of_wf _

theorem resm : ∀ t fs, Statement (.resm t fs) := fun _ _ => of_wf _

theorem qrec : ∀ t fs, Statement (.qrec t fs) := fun _ _ => of_wf _

theorem plan : ∀ t fs, Statement (.plan t fs) := fun _ _ => of_wf _

theorem calp : ∀ t fs, Statement (.calp t fs) := fun _ _ => of_wf _

theorem calpCompletion : ∀ codes, Statement (.calpCompletion codes) := fun _ => of_wf _

theorem beac : ∀ t fs, Statement (.beac t fs) := fun _ _ => of_wf _

theorem beacClear : ∀ t lamp fs, Statement (.beacClear t lamp fs) := fun _ _ _ => of_wf _

theorem cntrRead : ∀ t fs, Statement (.cntrRead t fs) := fun _ _ => of_wf _

theorem cntrClear : ∀ t fs, Statement (.cntrClear t fs) := fun _ _ => of_wf _

theorem cntrSetup : ∀ t fs, Statement (.cntrSetup t fs) := fun _ _ => of_wf _

theorem cntrFreeze : ∀ t fs, Statement (.cntrFreeze t fs) := fun _ _ => of_wf _

theorem cntrThaw : ∀ t fs, Statement (.cntrThaw t fs) := fun _ _ => of_wf _

theorem note : ∀ t fs, Statement (.note t fs) := fun _ _ => of_wf _

theorem getv : ∀ t fs, Statement (.getv t fs) := fun _ _ => of_wf _

theorem setv : ∀ t fs, Statement (.setv t fs) := fun _ _ => of_wf _

theorem save : ∀ t fs, Statement (.save t fs) := fun _ _ => of_wf _

theorem link : ∀ t fs, Statement (.link t fs) := fun _ _ => of_wf _

theorem live : ∀ t fs, Statement (.live t fs) := fun _ _ => of_wf _

theorem statAxes : ∀ t fs, Statement (.statAxes t fs) := fun _ _ => of_wf _

theorem statDoors : ∀ t fs, Statement (.statDoors t fs) := fun _ _ => of_wf _

theorem statSupply : ∀ t fs, Statement (.statSupply t fs) := fun _ _ => of_wf _

theorem statCond : ∀ t fs, Statement (.statCond t fs) := fun _ _ => of_wf _

theorem statPlan : ∀ t fs, Statement (.statPlan t fs) := fun _ _ => of_wf _

theorem statStations : ∀ t fs, Statement (.statStations t fs) := fun _ _ => of_wf _

theorem statBeacons : ∀ t fs, Statement (.statBeacons t fs) := fun _ _ => of_wf _

theorem statPart : ∀ t fs, Statement (.statPart t fs) := fun _ _ => of_wf _

theorem statLink : ∀ t fs, Statement (.statLink t fs) := fun _ _ => of_wf _

theorem supervisionTimerExpiry : Statement .supervisionTimerExpiry := of_wf _

theorem waitLimitExpiry : ∀ h, Statement (.waitLimitExpiry h) := fun _ => of_wf _

theorem leadTimeExpiry : ∀ h, Statement (.leadTimeExpiry h) := fun _ => of_wf _

theorem holdTimerExpiry : ∀ h, Statement (.holdTimerExpiry h) := fun _ => of_wf _

theorem inputCountedChange : ∀ ins, Statement (.inputCountedChange ins) := fun _ => of_wf _

theorem estopActive : Statement .estopActive := of_wf _

theorem estopReleaseCounted : Statement .estopReleaseCounted := of_wf _

theorem speedComputation : Statement .speedComputation := of_wf _

theorem contactorMade : Statement .contactorMade := of_wf _

theorem contactorMakeTimeout : Statement .contactorMakeTimeout := of_wf _

theorem contactorDropout : Statement .contactorDropout := of_wf _

theorem weldedContactor : Statement .weldedContactor := of_wf _

theorem pumpRestPassed : Statement .pumpRestPassed := of_wf _

theorem pumpOvercurrent : Statement .pumpOvercurrent := of_wf _

theorem supplyStateChange : Statement .supplyStateChange := of_wf _

theorem scanResult : ∀ codes, Statement (.scanResult codes) := fun _ => of_wf _

theorem settleTimerExpiry : Statement .settleTimerExpiry := of_wf _

theorem stall : Statement .stall := of_wf _

theorem runLimitTimeout : Statement .runLimitTimeout := of_wf _

theorem groundTimeExpiry : Statement .groundTimeExpiry := of_wf _

theorem overload : Statement .overload := of_wf _

theorem unlatchWindowExpiry : ∀ side, Statement (.unlatchWindowExpiry side) := fun _ => of_wf _

theorem doortimeExpiry : ∀ side, Statement (.doortimeExpiry side) := fun _ => of_wf _

theorem pullinWindowExpiry : ∀ side, Statement (.pullinWindowExpiry side) := fun _ => of_wf _

theorem obstruction : ∀ side, Statement (.obstruction side) := fun _ => of_wf _

theorem reverseEnd : ∀ side, Statement (.reverseEnd side) := fun _ => of_wf _

theorem pollCycleStart : Statement .pollCycleStart := of_wf _

theorem pollAbort : Statement .pollAbort := of_wf _

theorem replyReceived : ∀ c1 c2 c3 c4 framing, Statement (.replyReceived c1 c2 c3 c4 framing) := fun _ _ _ _ _ => of_wf _

theorem replyWindowClose : ∀ started, Statement (.replyWindowClose started) := fun _ => of_wf _

theorem resetTimerExpiry : ∀ i, Statement (.resetTimerExpiry i) := fun _ => of_wf _

theorem patternSlot : Statement .patternSlot := of_wf _

theorem lampCheck : ∀ lamp d, Statement (.lampCheck lamp d) := fun _ _ => of_wf _

theorem readbackMismatch : ∀ lamp, Statement (.readbackMismatch lamp) := fun _ => of_wf _

theorem rearTrailExpiry : Statement .rearTrailExpiry := of_wf _

theorem sideTrailExpiry : ∀ side, Statement (.sideTrailExpiry side) := fun _ => of_wf _

theorem durationCount : ∀ i, Statement (.durationCount i) := fun _ => of_wf _

theorem saveEnd : Statement .saveEnd := of_wf _

theorem roadSpeedEdge : Statement .roadSpeedEdge := of_wf _

theorem inputRawChange : ∀ input level, Statement (.inputRawChange input level) := fun _ _ => of_wf _

end Sys2Proof.Laws.Fit
end

