-- ==== Sys2Proof/Tests/Slice0.lean ====
section
/-!
SUPPORT. Tests of the model: ill-formed commands that `Instr.wf` refuses, worked values of the manual, small events, and
for each statement with hypotheses a state that meets them.
-/

namespace Sys2Proof.Tests

open Sys2Proof.Machine

/-! ### Well-formed commands -/

theorem test_wf_word_too_long : (Instr.getv 0 [.word "ABCDEFGHIJKLM"]).wf = false := by decide
theorem test_wf_word_lower_case : (Instr.getv 0 [.word "ppk"]).wf = false := by decide
theorem test_wf_number_of_seven_digits : (Instr.link 0 [.num 1000000]).wf = false := by decide
theorem test_wf_wnum_without_name : (Instr.move 0 [.wnum "" 3]).wf = false := by decide
theorem test_wf_bad_field_that_is_a_number : (Instr.link 0 [.bad (chars "12")]).wf = false := by decide
theorem test_wf_bad_field_with_comma : (Instr.link 0 [.bad (chars "1,-")]).wf = false := by decide
theorem test_wf_record_too_long : (Instr.note 0 (List.replicate 12 (.num (-100000)))).wf = false := by
  set_option maxRecDepth 4000 in decide
theorem test_wf_canc_with_all : (Instr.canc 0 [.word "ALL"]).wf = false := by decide
theorem test_wf_beac_with_clear : (Instr.beac 0 [.word "B0", .word "CLEAR"]).wf = false := by decide
theorem test_wf_halt_character_as_character : (Instr.characterReceived 0x21#8 false).wf = false := by decide
theorem test_wf_rejected_text_without_start : (Instr.rejectedRecord (chars "07MOVE*00")).wf = false := by decide
theorem test_wf_rejected_text_that_is_a_request : (Instr.rejectedRecord (chars "@1ERESM*AD")).wf = false := by decide
theorem test_wf_handle_zero : (Instr.leadTimeExpiry 0).wf = false := by decide
theorem test_wf_handle_above_255 : (Instr.waitLimitExpiry 256).wf = false := by decide
theorem test_wf_no_input_counted : (Instr.inputCountedChange []).wf = false := by decide
theorem test_wf_input_counted_twice : (Instr.inputCountedChange [.park, .park]).wf = false := by decide
theorem test_wf_accepts :
    (Instr.move 7 [.word "LIFT", .num 1250, .wnum "AFTER" 17, .word "CREEP"]).wf = true ∧
      (Instr.rejectedRecord (chars "@1ERESM*AC")).wf = true ∧ (Instr.link 0 [.bad (chars "12-")]).wf = true := by
  decide

/-! ### Values of the manual -/

/-- R178 and the worked session of The Host Link. -/
theorem test_records :
    recordText ⟨0x07, .move, [.word "LIFT", .num 1250]⟩ = chars "@07MOVE,LIFT,1250*ED" ∧
      recordText ⟨0x19, .stat, [.word "STATIONS"]⟩ = chars "@19STAT,STATIONS*47" ∧
      recordText ⟨0x1B, .live, [.num 8]⟩ = chars "@1BLIVE,8*07" ∧
      judgeText (chars "@1CMOVE,DOOROPEN,NEAR*8F") =
        .request ⟨0x1C, .move, [.word "DOOROPEN", .word "NEAR"]⟩ := by decide

/-- R183, the replies of the worked session. -/
theorem test_replies :
    replyText 0x1D (chars "LIVE") "OK" [.num 8] = chars "=1DLIVE,OK,8*CF" ++ [0x0D#8, 0x0A#8] ∧
      replyText 0x1E (chars "RESM") "OK" [] = chars "=1ERESM,OK*73" ++ [0x0D#8, 0x0A#8] ∧
      replyText 0x1F (chars "MOVE") "OK" [.num 201] = chars "=1FMOVE,OK,201*33" ++ [0x0D#8, 0x0A#8] := by decide

/-- R178: a broken check, a tag that is none, a bad name, an unknown name. -/
theorem test_rejections :
    judgeText (chars "@1ERESM*AC") = .csum 0x1E ∧ judgeText (chars "@G0RESM*00") = .silent ∧
      judgeText (chars "@00RES*4A") = .badName 0 ∧ judgeText (chars "@00RESX*A2") = .unknown 0 (chars "RESX") := by decide

/-- R113 and R114, their tables. -/
theorem test_conversion :
    ([(0, 2100), (0, 3407), (0, 300), (1, 318), (1, 791), (4, 2300), (5, 2980), (7, 4095)] : List (Fin 9 × Nat)).map
        (fun x => Settings.defaultCal[x.1].convert x.1 x.2) = [700, 1238, 0, -145, 0, 1442, 2401, 300] ∧
      meanOf [2100, 2100, 2100, 2101] = 2100 ∧ meanOf [2100, 2100, 2101, 2101] = 2101 := by decide

/-- R122, its table and the negative example. -/
theorem test_incline_filter :
    let s1 := 1088 + 40 - roundDiv 1088 32
    let s2 := s1 + 40 - roundDiv s1 32
    let s3 := s2 + 40 - roundDiv s2 32
    [s1, s2, s3, roundDiv s3 32, -3520 - 127 - roundDiv (-3520) 32, roundDiv (-3537) 32] =
      [1094, 1100, 1106, 35, -3537, -111] := by decide

/-- R88 and R165. -/
theorem test_load :
    ([1420, 1423, 1520, 300] : List Int).map Plain.default.load = [936, 938, 1026, 0] ∧
      [936, 1000, 1001, 0, 100].map (Counter.amount (.plain .liftCyc false true .any)) = [10, 10, 11, 1, 1] := by decide

/-- R131: a sum of 300 and a sum of 255. -/
theorem test_frame_check : frameCheck [0xFF#8, 0x2D#8] = 211#8 ∧ frameCheck [0xFE#8, 0x01#8] = 0#8 := by decide

/-- R34. -/
theorem test_speed : [4, 5, 11, 12].map (fun n => speedOf n 8000) = [18, 22, 49, 54] ∧ speedOf 2000 1000 = 2550 := by
  decide

/-! ### States for the events -/

/-- The state that a command answers. -/
def after (c : Instr) (s : State) : State :=
  match exec c s with
  | .next t => t
  | .fault _ => s
  | .refused _ => s

/-- The part past its start-up, with nothing sampled yet. -/
def idle : State :=
  { State.reset with
    startup := ⟨false, .pin, false⟩, conv := { State.reset.conv with scanning := true }
    bus := { State.reset.bus with polling := true } }

/-- A link record with this handle, kind, side and state. -/
def rec (h : Handle) (k : Kind) (side : Option Side) (st : RecState) : Record :=
  { handle := h, kind := k, side := side, origin := .link, target := none, pred := none, seq := none, creep := false,
    state := st, wait := none, flags := ⟨false, false, false, false, false⟩, pump := some true, holds := 0, nudges := 0,
    start := some (.value 0), ended := none, waitFrom := some 0, leadEnd := some 1500, holdFrom := some 0, key := none }

/-- One `LIFT` that holds the pack in this state, with this run; the outputs are those of the run's class. -/
def driving (st : RecState) (run : Run) : State :=
  { idle with
    plan := { State.reset.plan with records := [rec 1 .lift none st], peak := 1, nextHandle := 2 }
    arb :=
      { State.reset.arb with
        pack := some ⟨1, 150⟩, contactor := if st = .running then .made else .opened, fbOpenSince := some 0
        overSince := some 0 }
    axis := { State.reset.axis with run := some run, valves := valvesFor run.lift run.dir run.cls } }

/-- The run data of a granted upward `LIFT` to 500 mm. -/
def granted : Run := { Run.fresh 500 true true with settleEnd := some 300, groundSince := some 0, overSince := some 0 }

/-- The same in a FAST run. -/
def fast : Run := { granted with runKind := some .ordinary, lastRun := some .ordinary, cls := some .fast, runs := 1 }

/-- A granted `LIFT` with its run on. -/
def running : State := driving .running fast

/-- A door record that drives NEAR in this phase, with the outputs of the phase. -/
def moving (p : Phase) : State :=
  { idle with
    plan := { State.reset.plan with records := [rec 1 .doorOpen (some .near) .running], peak := 1, nextHandle := 2 }
    arb := { State.reset.arb with near := some ⟨1, 18⟩ }
    near := { Door.reset.enter p 0 with obsSince := some 0 } }

/-- A state with this height and a CH0 that is OK. -/
def atHeight (s : State) (n : Int) : State :=
  { s with
    conv := { s.conv with chans := modAt s.conv.chans 0 fun c => { c with status := .ok, value := some n } } }

/-- The halt latch set by a request. -/
def halted (s : State) : State := { s with halt := { s.halt with set := true, first := some .request } }

/-- The characters that the link holds for the line. -/
def sent (s : State) : List Ch := s.link.tx ++ s.link.feed

/-! ### Small events -/

/-- The last command of the worked session of The Host Link. -/
theorem test_move_reply :
    sent (after (.move 0x1F [.word "DOOROPEN", .word "NEAR"]) { idle with plan := { idle.plan with nextHandle := 201 } }) =
      chars "=1FMOVE,OK,201*33" ++ [0x0D#8, 0x0A#8] := by decide

/-- R16 and R18. -/
theorem test_move_clamps :
    let s := after (.move 0 [.word "LIFT", .num 2000]) idle
    s.plan.records.map (fun r => (r.target, r.flags.clamped, r.state, r.wait)) =
      [(some 1350, true, .blocked, some (.cond .parked))] := by decide

/-- R20: `SECURE` with a tilt of 0 makes five records. -/
theorem test_secure :
    let s : State :=
      { idle with
        conv := { idle.conv with chans := modAt idle.conv.chans 1 fun c => { c with status := .ok, value := some 0 } } }
    (after (.seqn 0 [.word "SECURE"]) { s with near.state := .opened, off.state := .opened }).plan.records.map
        (fun r => (r.kind, r.pred, r.seq)) =
      [(.doorShut, none, some 1), (.doorShut, none, some 1), (.lift, none, some 1), (.tilt, some 3, some 1),
        (.stow, some 4, some 1)] := by decide

/-- R28, R29, R30. -/
theorem test_halt_and_resume :
    let s := after (.halt 0x1E []) running
    s.plan.records = [] ∧ s.outputsOff = true ∧ s.halt.first = some .request ∧
      s.notes.entries.map noticeFields =
        [[.word "HALTED", .word "REQUEST"],
          [.word "ENDED", .num 1, .word "LIFT", .word "CANCELLED", .word "HALT", .num (-9999)]] := by decide

theorem test_resume : sent (after (.resm 0x1E []) (halted idle)) = chars "=1ERESM,OK*73" ++ [0x0D#8, 0x0A#8] := by decide

/-- R60, R84: a stall stops the pump and starts pump rest. -/
theorem test_stall :
    let s := after .stall running
    s.now = 1500 ∧ s.arb.contactor = .opened ∧ s.arb.restUntil = some 2000 ∧ s.axis.valves = .off ∧
      s.plan.recent.map (fun r => r.ended.map (·.reason)) = [some (some .stall)] := by decide

/-- R81: 494 against 500 is within the tolerance of 10, 489 is short and asks for a nudge, 511 is past it. -/
theorem test_judgement :
    [494, 489, 511].map (fun n => (granted.verdict Plain.default.liftTol n)) = [.done, .short, .over] := by decide

/-- R98: a latch that does not let go. -/
theorem test_unlatch_window :
    let s := after (.unlatchWindowExpiry .near) (moving .unlatch)
    s.now = 800 ∧ s.near.latch = false ∧ s.near.phase = none ∧
      s.plan.recent.map (fun r => r.ended.map (·.reason)) = [some (some .latch)] := by decide

/-- R104: an obstructed leaf that opens fails. -/
theorem test_obstruction :
    let s := after (.obstruction .near) (moving .opening)
    s.now = 120 ∧ s.near.motorOpen = false ∧
      s.plan.recent.map (fun r => r.ended.map (·.reason)) = [some (some .obstruct)] := by decide

/-- R130, R131: the first poll of the default table, at station 1: 0x41, FAULT and READY clear, 255 - 0x41. -/
theorem test_first_poll : (after .pollCycleStart idle).bus.frame = [0x41#8, 0#8, 0xBE#8] := by decide

/-- R133, R134: a reply of station 1 with no key pressed. -/
theorem test_good_reply :
    let s := after (.replyReceived 0x61#8 0 0 0x9E#8 false) (after .pollCycleStart idle)
    (s.bus.stations[0]).goodRun = 1 ∧ (s.bus.stations[0]).state = .absent ∧ s.bus.current = some 1 := by decide

/-- R133: the same reply with a wrong check character. -/
theorem test_bad_check :
    let s := after (.replyReceived 0x61#8 0 0 0x9F#8 false) (after .pollCycleStart idle)
    (s.bus.stations[0]).missRun = 1 ∧ (s.bus.stations[0]).lastMiss = some .badCheck := by decide

/-- R185, R186. -/
theorem test_live :
    let s := after (.live 0x1D [.num 1]) { idle with link := { idle.link with
      sup := ⟨.armed, some 1000, 0, some 900, true⟩ } }
    s.link.sup.live = 1 ∧ s.link.sup.deadline = some 1000 := by decide

/-- R187, R24: the link record ends `FAILED` and the count of ended records stands in the notice. -/
theorem test_supervision_expires :
    let s := after .supervisionTimerExpiry { running with link := { running.link with
      sup := ⟨.armed, some 1000, 7, some 1000, true⟩ } }
    s.plan.records = [] ∧ s.now = 1000 ∧
      s.notes.entries.map noticeFields =
        [[.word "LINKLOST", .word "TIME", .num 7, .num 1],
          [.word "ENDED", .num 1, .word "LIFT", .word "FAILED", .word "LINKLOST", .num (-9999)]] := by decide

/-- R199: an invalid image gives the defaults and their notice. -/
theorem test_image_read :
    let s := after .imageReadEnd State.reset
    s.now = 25 ∧ s.startup.defaults = true ∧ s.notes.entries.map noticeFields = [[.word "DEFAULTS", .word "POWERON"]] ∧
      s.notes.attn = true ∧ s.conv.nextAt = 30 := by decide

/-- R31: PARK is counted 30 ms after it was sampled. -/
theorem test_park_counted :
    let s := after (.inputCountedChange [.park]) (after (.inputRawChange (.debounced .park) true) idle)
    s.now = 30 ∧ s.inputs.park.counted = some true := by decide

/-- R155, R157: a short found by the check forces the channel off. -/
theorem test_lamp_short :
    let s := after (.lampCheck .b0 .short) { idle with beac := { idle.beac with
      lamps := modAt idle.beac.lamps 0 fun c => { c with level := true, checkAt := some 50 } } }
    (s.beac.lamps[0]).forced = true ∧ (s.beac.lamps[0]).level = false ∧
      s.notes.entries.map noticeFields = [[.word "LAMP", .word "B0", .word "SHORT"]] := by decide

/-- R166: 100 ms of a running pump are one count of `PUMPRUN` in `DURATION` mode. -/
theorem test_duration_count :
    let s := after (.durationCount 2) running
    (s.cnt.recs[2]).value = 1 ∧ (s.cnt.recs[2]).residue = 0 ∧ s.now = 100 := by decide

/-- R156: a read-back that has differed from the commanded level for 20 ms latches `STUCK`. -/
theorem test_lamp_stuck :
    let on := { idle with now := 100, beac := { idle.beac with
      lamps := modAt idle.beac.lamps 0 fun c =>
        { c with host := .steady, level := true, readBack := true, compareFrom := 50 } } }
    let s := after (.readbackMismatch .b0) (after (.inputRawChange (.readBack .b0) false) on)
    s.now = 120 ∧ (s.beac.lamps[0]).stuckF = true ∧ s.notes.entries.map noticeFields =
      [[.word "LAMP", .word "B0", .word "STUCK"]] := by decide

/-- R147: a slot taken late is that of the time, and the clock stays on its grid from the reset. -/
theorem test_slot_taken_late :
    let s := after .patternSlot { idle with now := 2350 }
    s.beac.slot = 3 ∧ s.beac.nextAt = 2400 := by decide

/-- R59, R200: a `PUMP_FB` that is closed from the reset on halts 150 ms after it. -/
theorem test_welded_from_reset :
    let s := after .weldedContactor idle
    s.now = 150 ∧ s.halt.set = true ∧ s.halt.first = some .welded := by decide

/-- R99: `OPEN` due at the moment of `DOORTIME` is counted with it, so the door ends OPEN and no `DOORMOVED` follows. -/
theorem test_doortime_counts_open :
    let sw (raw : Bool) (was : Bool) : Debounced := ⟨raw, 11970, some was⟩
    let s := after (.doortimeExpiry .near) { moving .opening with
      inputs := { idle.inputs with near := ⟨sw false false, sw false false, sw true false⟩ } }
    s.now = 12000 ∧ s.near.state = .opened ∧ s.inputs.near.opened.counted = some true ∧
      s.plan.recent.map (fun r => r.ended.map fun e => (e.reason, e.pos)) = [some (some .timeout, .door .opened)] ∧
      after (.inputCountedChange [.door .near .opened]) s = s := by decide

/-- R168: the `SERVICE` notice of a crossing stands after the `ENDED` notices of its event. -/
theorem test_service_after_ended :
    let s := after .stall { running with cnt := { running.cnt with
      recs := modAt running.cnt.recs 7 fun _ => { Counter.plain .fails false false .any with threshold := 1 } } }
    s.notes.entries.map (fun n => (noticeFields n).head?) = [some (.word "ENDED"), some (.word "SERVICE")] := by decide

/-! ### States that meet the hypotheses of the statements

One theorem for each statement that has hypotheses: for each of its clauses a state and operands that meet the hypotheses
of that clause together, at the ends of the ranges it names. -/

/-- Whether a command answers a next state. -/
def nexts (c : Instr) (s : State) : Bool :=
  match exec c s with
  | .next _ => true
  | .fault _ => false
  | .refused _ => false

/-- A table of this many link records that wait. -/
def full (n : Nat) : State :=
  { idle with
    plan := { State.reset.plan with records := (List.range n).map fun i => rec (i + 1) .lift none .waiting, peak := n } }

/-- A recent outcome of this handle. -/
def ended (h : Handle) (o : RecOutcome) : Record :=
  { rec h .lift none .settling with ended := some ⟨o, if o = .done then none else some .stall, .value 0⟩ }

/-- Every PAUSE-class condition of a pump-driven `LIFT` is true, and no pump rest runs. -/
def clear (s : State) : State :=
  { s with
    supply := { s.supply with state := .normal }
    inputs := { s.inputs with oilhot := ⟨false, 0, some false⟩ }
    arb := { s.arb with restUntil := none }
    bus := { s.bus with
      stations := modAt s.bus.stations 0 fun x =>
        { x with state := .present, keys := modAt x.keys 1 fun k => { k with pressed := true } } } }

/-- Every STOP-class condition of a `LIFT` is true. -/
def sensed (s : State) : State :=
  let ok (v : Int) : Channel := ⟨.ok, [2000], 0, 20, some v, true⟩
  { s with
    inputs := { s.inputs with park := ⟨true, 0, some true⟩, master := ⟨true, 0, some true⟩ }
    eval := { s.eval with speed := some 0 }
    settings := { s.settings with cal := modAt (modAt s.settings.cal 0 fun c => { c with mark := true }) 1 fun c =>
      { c with mark := true } }
    conv := { s.conv with
      chans := modAt (modAt (modAt s.conv.chans 0 fun _ => ok 400) 1 fun _ => ok 0) 4 fun _ => ok 900 } }

/-- A `LIFT` to 500 that waits for the pack, seen from this height. -/
def aiming (n : Int) : State :=
  let s := atHeight (clear idle) n
  { s with plan := { s.plan with
      records := [{ rec 1 .lift none .waiting with target := some 500, pump := none }], peak := 1, nextHandle := 2 } }

/-- R86: a `LIFT` down that begins its run on the ground already counts the ground time from its start. -/
theorem test_ground_time_starts :
    let down := sensed (clear (driving .lead { Run.fresh 0 false true with lift := true }))
    let s := after (.leadTimeExpiry 1) { down with conv := { down.conv with
      chans := modAt down.conv.chans 4 fun c => { c with value := some 59 } } }
    s.now = 1500 ∧ (s.axis.run.map (·.groundSince)) = some (some 1500) := by decide

/-- Records of the doors that wait. -/
def doors (rs : List Record) (limit : Int) : State :=
  { idle with
    settings := { idle.settings with plain := { idle.settings.plain with limBat := limit } }
    plan := { idle.plan with records := rs } }

/-- The link in this condition of its assembler. -/
def assembler (a : Assembler) : State := { idle with link := { idle.link with asm := a } }

/-- A record in assembly of this many characters. -/
def longText (n : Nat) (damaged : Bool) : State := assembler (.assembling (List.replicate n 0x41#8) damaged)

/-- The part in its image read with this many characters in the FIFO, the last with this loss mark. -/
def held (n : Nat) (loss : Bool) : State :=
  { State.reset with
    link := { State.reset.link with fifo := List.replicate n ⟨0x41#8, false, false⟩ ++ [⟨0x41#8, false, loss⟩] } }

/-- Supervision in this state with this live count. -/
def supervised (st : SupState) (live : Nat) (s : State) : State :=
  { s with
    link := { s.link with sup := ⟨st, some 1000, live, if st = .armed then some 1000 else none, true⟩ } }

/-- What is asked for by a `LIFT` or a `TILT` to this target. -/
def ask (k : Kind) (n : Int) : Ask := ⟨k, none, some n, false, .link, none, none, none⟩

theorem test_witness_StepTakesFrontCommand : State.reset.pending = [] := rfl

theorem test_witness_StepKeepsBounds :
    running.inv = true ∧ running.halt.set = false ∧ ∃ t, step { running with pending := [.stall] } = .next t :=
  ⟨by decide, by decide, _, rfl⟩

theorem test_witness_StepKeepsHandles :
    running.inv = true ∧ running.plan.handlesGood = true ∧ ∃ t, step { running with pending := [.stall] } = .next t :=
  ⟨by decide, by decide, _, rfl⟩

theorem test_witness_StepKeepsDrives :
    running.inv = true ∧ running.plan.handlesGood = true ∧ running.sound = true ∧
      ∃ t, step { running with pending := [.stall] } = .next t := ⟨by decide, by decide, by decide, _, rfl⟩

theorem test_witness_HaltedMeansStill :
    (halted idle).inv = true ∧ (halted idle).sound = true ∧ (halted idle).halt.set = true := by decide

theorem test_witness_FewEventsChangeSettings : ∃ t, exec .patternSlot idle = .next t := ⟨_, rfl⟩

/-- For the power pack: no candidate, a held pack, `RESERVE`, `BUDGET` 1 short and the last that fits, there at both ends of
the tolerance and not 1 beyond them, with and without the rear trail and pump rest. For a door: none, a held channel, `BUDGET`
by the limit and by the pack's candidate, and a grant. -/
theorem test_witness_LookKeepsBudget :
    let first (s : State) :=
      let waiting := s.plan.records.filter fun r => r.kind.isLift && r.state == .waiting
      (waiting.find? fun r => r.origin != .link).or waiting.head?
    let lift : Record := { rec 1 .lift none .waiting with target := some 500, pump := none }
    let limit (n : Int) (s : State) : State :=
      { s with settings := { s.settings with plain := { s.settings.plain with limBat := n } } }
    let trail (s : State) : State := { s with beac := { s.beac with rearTrail := some 3000 } }
    let rest (s : State) : State := { s with arb := { s.arb with restUntil := some 500 } }
    let door : Record := rec 1 .doorShut (some .near) .waiting
    let ahead : Record := { rec 2 .lift none .waiting with wait := some .budget }
    first idle = none ∧ idle.plan.handlesGood = true ∧
    (∀ n ∈ [489, 490, 510, 511], (aiming n).plan.handlesGood = true ∧ first (aiming n) = some lift ∧
      (aiming n).aim lift = some 500 ∧ (aiming n).arb.pack = none ∧ (aiming n).sound = true ∧
      (aiming n).provisional lift = decide (n < 500) ∧ (aiming n).reported 0 = n ∧ (aiming n).supply.state = .normal) ∧
    Plain.default.liftTol = 10 ∧
    ({ aiming 489 with arb := { (aiming 489).arb with pack := some ⟨7, 1⟩ } }.arb.pack.isSome = true) ∧
    first (full 1) = some (rec 1 .lift none .waiting) ∧ (full 1).supply.state ≠ .normal ∧
    (limit 157 (aiming 489)).limit < ((limit 157 (aiming 489)).committed + 150 : Nat) ∧
    (((limit 158 (aiming 489)).committed + 150 : Nat) : Int) ≤ (limit 158 (aiming 489)).limit ∧
    Plain.default.pumpDraw = 150 ∧ (aiming 489).beac.rearTrail = none ∧ (trail (aiming 489)).beac.rearTrail.isSome = true ∧
    (rest (trail (aiming 489))).resting = true ∧ (trail (aiming 489)).resting = false ∧
    (doors [door] 26).plan.handlesGood = true ∧ ((doors [door] 26).arb.channel .near = none) ∧
    (((doors [door] 26).committed + 18 : Nat) : Int) ≤ (doors [door] 26).limit ∧ (doors [door] 26).budgetHeld = false ∧
    (doors [door] 25).limit < ((doors [door] 25).committed + 18 : Nat) ∧ Plain.default.doorDraw = 18 ∧
    (doors [ahead, door] 26).plan.handlesGood = true ∧ (doors [ahead, door] 26).budgetHeld = true ∧
    (moving .opening).plan.handlesGood = true ∧ ((moving .opening).arb.channel .near).isSome = true := by decide

/-- The second is a record of 96 characters. -/
theorem test_witness_RequestRecordsReadBack :
    (⟨0, .resm, []⟩ : Request).fits = true ∧
      (⟨0xFF, .getv, List.replicate 6 (.word "ABCDEFGHIJKL") ++ [.word "ABCDEFG"]⟩ : Request).fits = true := by
  set_option maxRecDepth 4000 in decide

theorem test_witness_WaitingLinkFillsFifo :
    State.reset.waits = true ∧ ((0x21#8 : Ch) = 0x21#8 ∧ true = false → False) ∧
      (held 126 false).waits = true ∧ (held 126 false).link.fifo.length = 127 ∧
      (held 127 false).waits = true ∧ (held 127 false).link.fifo.length = 128 ∧
      (held 127 true).waits = true ∧ lastLost (held 127 true).link.fifo = true ∧
      (Instr.resm 0 []).request = some ⟨0, .resm, []⟩ ∧ (held 116 false).waits = true ∧
      (held 116 false).link.fifo.length + (recordText ⟨0, .resm, []⟩).length + 1 = 128 := by
  set_option maxRecDepth 4000 in decide

theorem test_witness_CharacterAssembled :
    (∀ s ∈ [idle, longText 0 false, longText 1 true, longText 95 false, longText 96 false],
      s.waits = false ∧ s.link.fifo = [] ∧ s.link.complete = none) ∧
    idle.link.asm = .hunting ∧
    (∀ c ∈ [0x40#8, 0x0A#8, 0x1F#8, 0x20#8, 0x7F#8, 0x80#8, 0x41#8], c ≠ 0x0D#8 ∧ c ≠ 0x21#8) := by
  set_option maxRecDepth 4000 in decide

theorem test_witness_RecordEndServesRequest :
    let s := assembler (.assembling (recordText ⟨0xFF, .resm, []⟩) false)
    (Instr.resm 0xFF []).request = some ⟨0xFF, .resm, []⟩ ∧ (⟨0xFF, .resm, []⟩ : Request).fits = true ∧
      s.waits = false ∧ s.link.fifo = [] ∧ s.link.complete = none ∧
      (longText 1 true).waits = false ∧ (longText 1 true).link.fifo = [] ∧ (longText 1 true).link.complete = none := by
  decide

theorem test_witness_HaltCharacterAndBreak : (halted idle).halt.set = true ∧ running.halt.set = false := by decide

theorem test_witness_RejectedRecordAnswered :
    let main (b : List Ch) := b.take (b.length - 3)
    let good (b : List Ch) := checks (main b) (b.drop (b.length - 3))
    idle.waits = false ∧ idle.link.asm = .hunting ∧ (List.replicate 95 (0x47#8 : Ch)).length + 1 = 96 ∧
      good (List.replicate 95 0x47#8) = false ∧ readTag (List.replicate 95 0x47#8) = none ∧
      good (chars "1ERESM*AC") = false ∧ readTag (chars "1ERESM*AC") = some 0x1E ∧
      good (chars "G0RESM*AE") = true ∧ readTag (chars "G0RESM") = none ∧
      good (chars "00RES*4A") = true ∧ readTag (chars "00RES") = some 0 ∧ judgeName 0 (chars "RES") = .badName 0 ∧
      good (chars "00RESX*A2") = true ∧ judgeName 0 (chars "RESX") = .unknown 0 (chars "RESX") ∧
      (let b := (framed 0x40#8 (chars "1ELINK,1x-")).drop 1
       good b = true ∧ readTag (main b) = some 0x1E ∧
         judgeName 0x1E ((main b).drop 2) = .request ⟨0x1E, .link, [.bad (chars "1x-")]⟩) := by
  set_option maxRecDepth 4000 in decide

theorem test_witness_RejectedRecordAnswered_rows :
    (Instr.cntrRead 0 [.bad (chars "-")]).request = some ⟨0, .cntr, [.word "READ", .bad (chars "-")]⟩ ∧
      idle.ready ⟨0, .cntr, [.word "READ", .bad (chars "-")]⟩ := by
  unfold State.ready; decide

/-- A text with no tag, one with another check, one with no name, one with a name unknown, and one with a field of no form. -/
theorem test_witness_RejectedRecordAnswered_steps :
    let capital (c : Ch) : Prop := 0x41 ≤ c.toNat ∧ c.toNat ≤ 0x5A
    let digit (c : Ch) : Prop := 0x30 ≤ c.toNat ∧ c.toNat ≤ 0x39
    let hex (c : Ch) : Prop := digit c ∨ (0x41 ≤ c.toNat ∧ c.toNat ≤ 0x46)
    let value (a b : Ch) : Nat :=
      let v (c : Ch) : Nat := if c.toNat ≤ 0x39 then c.toNat - 0x30 else c.toNat - 0x37
      16 * v a + v b
    let checked (body main : List Ch) : Prop :=
      ∃ a b, body = main ++ [0x2A#8, a, b] ∧ hex a ∧ hex b ∧ value a b = (main.map (·.toNat)).sum % 256
    (∀ x y rest, ([] : List Ch) = x :: y :: rest → ¬(hex x ∧ hex y)) ∧
    (∀ x y rest, chars "G0RESM*AE" = x :: y :: rest → ¬(hex x ∧ hex y)) ∧
    (hex 0x31#8 ∧ hex 0x45#8 ∧ value 0x31#8 0x45#8 = 0x1E ∧ ∀ main, ¬checked (chars "1ERESM*AC") main) ∧
    (checked (chars "00RES*4A") (chars "00RES") ∧
      ∀ name tail, chars "00RES" = 0x30#8 :: 0x30#8 :: (name ++ tail) → name.length ≠ 4) ∧
    (checked (chars "00RESX*A2") (chars "00RESX") ∧ chars "00RESX" = 0x30#8 :: 0x30#8 :: (chars "RESX" ++ []) ∧
      ∀ c ∈ chars "RESX", capital c) ∧
    (framed 0x40#8 (chars "1ELINK,1x-") = 0x40#8 :: chars "1ELINK,1x-*A6" ∧
      checked (chars "1ELINK,1x-*A6") (chars "1ELINK,1x-") ∧ chars ",1x-" = [] ++ 0x2C#8 :: (chars "1x-" ++ []) ∧
      (0x2C#8 : Ch) ∉ chars "1x-" ∧ (0x3D#8 : Ch) ∉ chars "1x-" ∧ ¬digit 0x78#8 ∧ ¬capital 0x31#8) := by
  refine ⟨nofun, ?_, ⟨by decide, by decide, by decide, ?_⟩, ⟨⟨0x34#8, 0x41#8, by decide⟩, ?_⟩,
    ⟨⟨0x41#8, 0x32#8, by decide⟩, by decide⟩, by decide, ⟨0x41#8, 0x36#8, by decide⟩, by decide⟩
  · rintro x y rest h ⟨hx, -⟩
    obtain rfl : (0x47#8 : Ch) = x := (List.cons.inj h).1
    exact absurd hx (by decide)
  · rintro main ⟨a, b, h, -, -, hv⟩
    obtain ⟨rfl, h⟩ := List.append_inj' (s₁ := chars "1ERESM") (t₁ := chars "*AC") h rfl
    obtain ⟨ha, hb⟩ : (0x41#8 : Ch) = a ∧ (0x43#8 : Ch) = b := by simpa [chars] using h
    subst ha hb
    exact absurd hv (by decide)
  · intro name tail h hn
    have := congrArg List.length h
    simp [chars, hn] at this
    omega

theorem test_witness_TransmitterSendsHead :
    let s := { idle with link := { idle.link with tx := chars "=", feed := [] } }
    let t := { idle with link := { idle.link with tx := List.replicate 256 0x41#8, feed := chars "A" } }
    s.inv = true ∧ s.link.fifo = [] ∧ s.link.complete = none ∧ s.link.tx = [0x3D#8] ∧
      t.inv = true ∧ t.link.fifo = [] ∧ t.link.complete = none ∧ t.link.tx = 0x41#8 :: List.replicate 255 0x41#8 ∧
      idle.link.tx = [] := by
  set_option maxRecDepth 8000 in decide

/-- The last character at which the link waits and the first at which it does not, with a character, a CR and a whole record
of `PLAN` in the FIFO, and the two other waits. -/
theorem test_witness_TransmitterSendsHead_waiting :
    let sending (n : Nat) (cs : List Ch) : State :=
      { idle with link := { idle.link with
          tx := 0x41#8 :: List.replicate n 0x41#8, fifo := cs.map fun x => ⟨x, false, false⟩ } }
    let r : Request := ⟨0, .plan, []⟩
    (∀ n ∈ [16, 17], ∀ cs ∈ [[0x40#8], [0x0D#8], recordText r ++ [0x0D#8]],
      (sending n cs).inv = true ∧ (sending n cs).link.complete = none ∧
        (16 < (List.replicate n 0x41#8 ++ (sending n cs).link.feed).length ↔ n = 17) ∧
        (sending n cs).startup.reading = false ∧ (sending n cs).link.calp = none) ∧
      (Instr.plan 0 []).request = some r ∧ r.fits = true ∧ (0x40#8 : Ch) ≠ 0x21#8 ∧ (0x0D#8 : Ch) ≠ 0x21#8 ∧
      State.reset.startup.reading = true ∧
      ({ idle with link := { idle.link with calp := some ⟨0, 0, true, 0⟩ } }.link.calp.isSome = true) := by decide

/-- R182: with 17 left a whole record stays in the FIFO, with 16 left it is taken and answered. -/
theorem test_waiting_record_taken :
    let sending (n : Nat) : State :=
      { idle with link := { idle.link with
          tx := List.replicate (n + 1) 0x41#8, fifo := (recordText ⟨0, .plan, []⟩ ++ [0x0D#8]).map fun x => ⟨x, false, false⟩ } }
    (after .transmitCharacterSent (sending 17)).link.fifo.length = 11 ∧
      (after .transmitCharacterSent (sending 16)).link.fifo = [] ∧
      (after .transmitCharacterSent (sending 16)).link.tx =
        List.replicate 16 0x41#8 ++ replyText 0 (chars "PLAN") "OK" [.num 0] := by decide

theorem test_witness_MotionFormsRead :
    readMove [.word "LIFT", .num 0, .wnum "AFTER" 255, .word "CREEP"] = some ⟨.lift, none, some 0, some 255, true⟩ ∧
      readMove [.word "DOORSHUT", .word "OFF"] = some ⟨.doorShut, some .off, none, none, false⟩ := by decide

/-- With what R18 makes of each. -/
theorem test_witness_AdmissionClamps :
    idle.settings.plain.liftTop = 1350 ∧
      ([-1, 0, 1350, 1351].map fun n => let r := idle.make (ask .lift n); (r.target, r.flags.clamped)) =
        [(some 0, true), (some 0, false), (some 1350, false), (some 1350, true)] ∧
      ([-101, -100, 150, 151].map fun n => let r := idle.make (ask .tilt n); (r.target, r.flags.clamped)) =
        [(some (-100), true), (some (-100), false), (some 150, false), (some 150, true)] := by decide

/-- A fresh table, and one in which 255 is used and next. -/
theorem test_witness_HandlesAllocated :
    let s := { idle with plan := ⟨[rec 255 .lift none .waiting], 1, 255, 1, []⟩ }
    idle.inv = true ∧ idle.plan.handlesGood = true ∧ idle.plan.newHandle = (idle.plan.nextHandle - 1 + 0) % 255 + 1 ∧
      s.inv = true ∧ s.plan.handlesGood = true ∧ s.plan.newHandle = (s.plan.nextHandle - 1 + 1) % 255 + 1 := by decide

theorem test_witness_MoveAdmits :
    let lift : List Field := [.word "LIFT", .num 0]
    let shut : List Field := [.word "DOORSHUT", .word "NEAR"]
    let behind : List Field := [.word "LIFT", .num 0, .wnum "AFTER" 11]
    (idle.ready ⟨0, .move, lift⟩ ∧ readMove lift = some ⟨.lift, none, some 0, none, false⟩ ∧
      MoveForm.inRange ⟨.lift, none, some 0, none, false⟩ = true ∧ idle.refusal = none ∧
      idle.movePred none = .inr none ∧ idle.plan.records.length < 12 ∧
      (let r := idle.make (ask .lift 0)
       idle.firstFalse r (idle.required r) = some .parked)) ∧
    (idle.ready ⟨0, .move, shut⟩ ∧ readMove shut = some ⟨.doorShut, some .near, none, none, false⟩ ∧
      MoveForm.inRange ⟨.doorShut, some .near, none, none, false⟩ = true ∧
      (let r := rec 1 .doorShut (some .near) .waiting
       idle.firstFalse r (idle.required r) = none)) ∧
    ((full 11).ready ⟨0, .move, behind⟩ ∧ readMove behind = some ⟨.lift, none, some 0, some 11, false⟩ ∧
      MoveForm.inRange ⟨.lift, none, some 0, some 11, false⟩ = true ∧ (full 11).refusal = none ∧
      (full 11).movePred (some 11) = .inr (some 11) ∧ (full 11).plan.records.length = 11) := by
  unfold State.ready; decide

theorem test_witness_MotionRefused :
    let after (n : Int) : List Field := [.word "LIFT", .num 0, .wnum "AFTER" n]
    let form (n : Int) : MoveForm := ⟨.lift, none, some 0, some n, false⟩
    let unsupervised :=
      { idle with settings := { idle.settings with plain := { idle.settings.plain with supReq := 1 } } }
    let old (o : RecOutcome) := { idle with plan := { idle.plan with recent := [ended 255 o] } }
    let stands (s : State) := s.halt.set = false ∧ s.link.sup.state ≠ .expired ∧ s.settings.plain.supReq ≠ 1
    (∀ fs ∈ [[], after 0, after 1, after 255, after 256],
      ∀ s ∈ [idle, halted idle, supervised .expired 0 idle, unsupervised],
      s.ready ⟨0, .move, fs⟩) ∧
    readMove [] = none ∧ (∀ n ∈ [0, 1, 255, 256], readMove (after n) = some (form n)) ∧
    (halted idle).halt.set = true ∧ (supervised .expired 0 idle).halt.set = false ∧
    (supervised .expired 0 idle).link.sup.state = .expired ∧
    unsupervised.settings.plain.supReq = 1 ∧ unsupervised.link.sup.taken = false ∧ unsupervised.halt.set = false ∧
    unsupervised.link.sup.state ≠ .expired ∧
    stands idle ∧ idle.find 255 = none ∧ idle.plan.recent = [] ∧
    stands (old .failed) ∧ (old .failed).ready ⟨0, .move, after 255⟩ ∧ (old .failed).find 255 = none ∧
    (old .failed).plan.recent = [ended 255 .failed] ∧
    (let s := { full 12 with plan := { (full 12).plan with recent := [ended 255 .done] } }
     stands s ∧ s.ready ⟨0, .move, after 255⟩ ∧ s.find 255 = none ∧ (s.find 12).isSome = true ∧
       (ended 255 .done).ended = some ⟨.done, none, .value 0⟩ ∧ s.plan.records.length = 12) ∧
    (∀ fs ∈ [[], [.word "TOBED"], [.word "STOWALL"]],
      ∀ s ∈ [idle, halted idle, supervised .expired 0 idle, unsupervised, full 11],
      s.ready ⟨0, .seqn, fs⟩) ∧
    readSeqn [] = none ∧ readSeqn [.word "TOBED"] = some .toBed ∧ readSeqn [.word "STOWALL"] = some .stowAll ∧
    idle.refusal = none ∧ idle.chanValue 1 = none ∧ (full 11).refusal = none ∧
    12 < (full 11).plan.records.length + ((full 11).expand .toBed).length := by
  unfold State.ready; decide

/-- A `TOBED` that fills the table, and a `STOWALL` of no records. -/
theorem test_witness_SeqnAdmits :
    let stowed : State :=
      { idle with conv := { idle.conv with chans := modAt idle.conv.chans 1 fun c => { c with value := some 800 } } }
    (full 10).inv = true ∧ (full 10).plan.handlesGood = true ∧ (full 10).ready ⟨0, .seqn, [.word "TOBED"]⟩ ∧
      readSeqn [.word "TOBED"] = some .toBed ∧ (full 10).refusal = none ∧
      (full 10).plan.records.length + ((full 10).expand .toBed).length = 12 ∧
    stowed.inv = true ∧ stowed.plan.handlesGood = true ∧ stowed.ready ⟨0, .seqn, [.word "STOWALL"]⟩ ∧
      readSeqn [.word "STOWALL"] = some .stowAll ∧ stowed.refusal = none ∧ (stowed.chanValue 1).isSome = true ∧
      stowed.expand .stowAll = [] := by
  unfold State.ready; decide

theorem test_witness_CancEnds :
    running.ready ⟨0, .canc, [.num 1]⟩ ∧ running.find 1 = some (rec 1 .lift none .running) ∧ running.sound = true ∧
      running.inv = true ∧ running.plan.handlesGood = true ∧ running.holdsPack 1 = true ∧ running.successors 1 = [] ∧
      running.ready ⟨0, .canc, [.num 0]⟩ ∧ running.ready ⟨0, .canc, [.num 2]⟩ ∧ running.find 2 = none ∧
      running.ready ⟨0, .canc, [.word "ALL"]⟩ ∧ running.ready ⟨0, .canc, [.word "ALL", .num 1]⟩ := by
  unfold State.ready; decide

/-- A record with a successor, and the successor's own. -/
theorem test_witness_CancEnds_successors :
    let next (h k : Handle) : Record := { rec h .tilt none .pending with pred := some k }
    let s := { running with plan := { running.plan with
      records := [rec 1 .lift none .running, next 2 1, next 3 2], nextHandle := 4 } }
    s.ready ⟨0, .canc, [.num 1]⟩ ∧ s.find 1 = some (rec 1 .lift none .running) ∧ s.inv = true ∧
      s.plan.handlesGood = true ∧ s.successors 1 = [2] ∧ s.successors 2 = [3] ∧
      (s.endTree 1 .cancelled (some .request)).handles = [] := by
  unfold State.ready; decide

theorem test_witness_HaltRequestHalts :
    running.ready ⟨0, .halt, []⟩ ∧ (halted idle).ready ⟨0, .halt, []⟩ ∧ running.ready ⟨0, .halt, [.num 1]⟩ := by
  unfold State.ready; decide

theorem test_witness_HaltEventStopsEverything :
    let pressed := { halted idle with halt := { (halted idle).halt with estop := true } }
    running.halt.set = false ∧ running.plan.handlesGood = true ∧ running.inv = true ∧ running.sound = true ∧
      Cause.estop.lasting = true ∧ (halted idle).halt.set = true ∧ (halted idle).halt.has .estop = false ∧
      Cause.request.lasting = false ∧ pressed.halt.set = true ∧ pressed.halt.has .estop = true := by decide

theorem test_witness_ResmAnswers :
    let latch := (halted idle).halt
    let present := { idle with halt := { latch with stations := modAt latch.stations 5 fun _ => true } }
    idle.ready ⟨0, .resm, []⟩ ∧ idle.halt.set = false ∧
      present.ready ⟨0, .resm, []⟩ ∧ present.halt.set = true ∧ (∃ i : Fin 6, present.halt.stations[i] = true) ∧
      (halted idle).ready ⟨0, .resm, []⟩ ∧ (halted idle).halt.set = true ∧ (halted idle).halt.estop = false ∧
      (halted idle).halt.welded = false ∧ (∀ i : Fin 6, (halted idle).halt.stations[i] = false) := by
  unfold State.ready; decide

theorem test_witness_QueriesAnswer :
    let s := { running with plan := { running.plan with recent := [ended 2 .done] } }
    (∀ n ∈ [1, 2, 3], s.ready ⟨0, .qrec, [.num n]⟩) ∧ s.find 1 = some (rec 1 .lift none .running) ∧
      s.find 2 = none ∧ (s.plan.recent.find? fun y => y.handle == 2) = some (ended 2 .done) ∧
      s.find 3 = none ∧ (∀ r ∈ s.plan.recent, r.handle ≠ 3) ∧ s.ready ⟨0, .plan, []⟩ ∧
      (∀ n ∈ [ReqName.plan, .resm, .note, .save], s.ready ⟨0, n, [.num 0]⟩) ∧
      (∀ n ∈ [SettingName.plain .leadMs, .cal 8 true, .stn 5], s.ready ⟨0, .getv, [.word n.word]⟩) := by
  unfold State.ready; decide

theorem test_witness_StatAnswers :
    (∀ w ∈ ["AXES", "DOORS", "SUPPLY", "COND", "PLAN", "STATIONS", "BEACONS", "PART", "LINK"],
      running.ready ⟨0, .stat, [.word w]⟩ ∧ running.ready ⟨0, .stat, [.word w, .num 0]⟩) ∧ Cond.parked ≠ .hold := by
  unfold State.ready; decide

/-- R23, log entry 47: with the first cause a STOP key that has been released, SI is 0. -/
theorem test_si_of_released_station :
    let s := { idle with halt := { idle.halt with set := true, first := some (.station 2) } }
    s.statPlan.drop 2 = [.wnum "HALT" 1, .word "STATION", .wnum "SI" 0, .wnum "PKH" 0, .wnum "NH" 0, .wnum "FH" 0] := by
  decide

theorem test_witness_QueriesChangeNothing :
    (Instr.cntrRead 0 [.num 0]).request = some ⟨0, .cntr, [.word "READ", .num 0]⟩ ∧
      running.ready ⟨0, .cntr, [.word "READ", .num 0]⟩ ∧ ∃ u, exec (.cntrRead 0 [.num 0]) running = .next u :=
  ⟨by decide, by unfold State.ready; decide, _, rfl⟩

theorem test_witness_CalpTakenAndCompleted :
    let fs (n v : Int) : List Field := [.num n, .word "HI", .num v]
    let ok (s : State) :=
      { s with conv := { s.conv with chans := modAt s.conv.chans 8 fun c => { c with status := .ok } } }
    let waits : State := { idle with link := { idle.link with calp := some ⟨0, 8, true, 300⟩ } }
    let codes (code ref : Code) : Scan := #v[0, 0, 0, 0, 0, 0, 0, 0, code, ref]
    let span (s : State) (code ref : Code) :=
      let c := (s.conv.scan (codes code ref) s.settings.cal).chans[(8 : Fin 9)]
      (decide (c.status = .ok ∧ c.fresh = true), (meanOf c.hist : Int) - s.settings.cal[(8 : Fin 9)].cLo)
    (∀ s ∈ [idle, ok idle, full 1], ∀ v ∈ [-1, 0, 300, 301], s.ready ⟨0, .calp, fs 8 v⟩) ∧
    chanRange 8 = (0, 300) ∧ idle.ready ⟨0, .calp, fs (-1) 0⟩ ∧ idle.ready ⟨0, .calp, fs 9 0⟩ ∧
    idle.plan.records = [] ∧ (idle.conv.chans[(8 : Fin 9)]).status ≠ .ok ∧
    ((ok idle).conv.chans[(8 : Fin 9)]).status = .ok ∧ (full 1).plan.records ≠ [] ∧
    waits.inv = true ∧ waits.conv.scanning = true ∧ waits.link.calp = some ⟨0, 8, true, 300⟩ ∧
    waits.plan.records = [] ∧ waits.link.fifo = [] ∧ waits.link.complete = none ∧ waits.link.feed = [] ∧
    (ok waits).inv = true ∧ span (ok waits) 1000 2008 = (true, 1000) ∧ span (ok waits) 999 2008 = (true, 999) ∧
    (span (ok waits) 1000 2007).1 = false ∧
    (let busy := { ok waits with plan := (full 1).plan }
     busy.conv.scanning = true ∧ busy.link = waits.link ∧ (span busy 1000 2008).1 = true ∧
       ((busy.passTo busy.conv.nextAt).scan (codes 1000 2008)).plan.records ≠ []) := by
  unfold State.ready; decide

theorem test_witness_BeacSetsAndClears :
    (∀ w ∈ ["ALL", "B0", "SND"], ∀ p ∈ [Pattern.off, .altB], idle.ready ⟨0, .beac, [.word w, .word p.word]⟩) ∧
      (∀ w ∈ ["ALL", "B0", "SND"], idle.ready ⟨0, .beac, [.word w, .word "CLEAR"]⟩) ∧
      lampWord .b0 = "B0" ∧ lampWord .snd = "SND" := by
  unfold State.ready; decide

/-- A forced channel whose host pattern is on, and requests of another form. -/
theorem test_witness_BeacSetsAndClears_more :
    let s := { idle with beac := { idle.beac with
      lamps := modAt idle.beac.lamps 0 fun c => { c with host := .steady, shortF := true, forced := true } } }
    (s.beac.lamps[lampIdx .b0]).level = false ∧ s.ready ⟨0, .beac, [.word "B0", .word "CLEAR"]⟩ ∧
      ((s.clearFaults [.b0]).conclude.beac.lamps[lampIdx .b0]).level = true ∧
      idle.ready ⟨0, .beac, []⟩ ∧ (¬∃ x w, ([] : List Field) = [x, .word w]) ∧
      idle.ready ⟨0, .beac, [.num 1, .word "CLEAR"]⟩ ∧ (¬∃ w, Field.num 1 = .word w) ∧
      idle.ready ⟨0, .beac, [.word "ALL", .word "CLEAR", .num 1]⟩ := by
  refine ⟨by decide, by unfold State.ready; decide, by decide, by unfold State.ready; decide, ?_,
    by unfold State.ready; decide, ?_, by unfold State.ready; decide⟩
  · rintro ⟨_, _, h⟩; cases h
  · rintro ⟨_, h⟩; cases h

theorem test_witness_CounterRequestsAnswer :
    let fs (m : Int) : List Field :=
      [.num 7, .word "PUMPRUN", .word "DURATION", .word "ONE", .word "LINK", .word "NEAR", .wnum "THM" m,
        .wnum "THL" 999999, .wnum "DERATE" 1]
    (∀ n ∈ [-1, 0, 7, 8],
      idle.ready ⟨0, .cntr, [.word "READ", .num n]⟩ ∧ idle.ready ⟨0, .cntr, [.word "CLEAR", .num n]⟩) ∧
      idle.inv = true ∧
      (∀ m ∈ [-1, 0, 999999, 1000000], ∀ s ∈ [idle, full 1], s.ready ⟨0, .cntr, .word "SETUP" :: fs m⟩) ∧
      idle.plan.records = [] ∧ (full 1).plan.records ≠ [] ∧ idle.axis.run = none ∧
      idle.ready ⟨0, .cntr, [.word "FREEZE"]⟩ ∧ idle.ready ⟨0, .cntr, [.word "THAW"]⟩ := by
  unfold State.ready; decide

/-- An index of 8 and a derate flag of 2. -/
theorem test_witness_CounterRequestsAnswer_range :
    let fs (k d : Int) : List Field :=
      [.num k, .word "HOLDS", .word "EDGE", .word "ONE", .word "ANY", .word "ANY", .wnum "THM" 0, .wnum "THL" 1,
        .wnum "DERATE" d]
    idle.ready ⟨0, .cntr, .word "SETUP" :: fs 8 1⟩ ∧ idle.ready ⟨0, .cntr, .word "SETUP" :: fs (-1) 0⟩ ∧
      idle.ready ⟨0, .cntr, .word "SETUP" :: fs 7 2⟩ ∧ idle.ready ⟨0, .cntr, .word "SETUP" :: fs 0 (-1)⟩ := by
  unfold State.ready; decide

theorem test_witness_CountersCount :
    let c : Counter := { Counter.plain .liftCyc false false .any with threshold := 1 }
    let frozen := { idle with cnt := { idle.cnt with frozen := true } }
    c.valid = true ∧ (c.value < 1 ∧ c.threshold ≠ 0 ∧ c.threshold ≤ 1 ∧ c.reached = false) ∧
      { c with value := 4294967295, reached := true }.valid = true ∧ c.source ≠ .halts ∧ frozen.cnt.frozen = true ∧
      (Counter.plain .pumpRun true false .any).valid = true ∧ running.inv = true ∧ running.cnt.frozen = false ∧
      running.accrues running.cnt.recs[(2 : Fin 8)] = true ∧ running.accrues running.cnt.recs[(0 : Fin 8)] = false ∧
      frozen.inv = true := by decide

/-- R90, R91, R163: travels of 499 and 500, a run with a load, one down, a door in a phase and one in none. -/
theorem test_witness_CountersCount_endings :
    let up : State := atHeight (driving .running { fast with runLoad := some 620 }) 500
    let from_ (n : Int) : State :=
      { up with plan := { up.plan with records := [{ rec 1 .lift none .running with start := some (.value n) }] } }
    let down : State := driving .running { fast with dir := .down, pump := false, runLoad := some 620 }
    let door := rec 1 .doorOpen (some .near) .running
    (∀ n ∈ [0, 1], (from_ n).find 1 = some { rec 1 .lift none .running with start := some (.value n) } ∧
      (from_ n).endPos (rec 1 .lift none .running) = .value 500 ∧ (from_ n).holdsPack 1 = true ∧
      (from_ n).axis.run = some { fast with runLoad := some 620 }) ∧
      down.find 1 = some (rec 1 .lift none .running) ∧ down.axis.run.map (·.dir) = some .down ∧
      (moving .pullin).find 1 = some door ∧ (moving .pullin).holdsDoor .near 1 = true ∧
      ((moving .pullin).door .near).phase.isSome = true ∧
      (let s := { idle with plan := { idle.plan with records := [door] } }
       s.find 1 = some door ∧ s.holdsDoor .near 1 = false) ∧
      ((from_ 0).endOne 1 .done none).axis.lastLoad = 620 ∧ ((from_ 0).hold 1 .supply).axis.lastLoad = 620 := by decide

/-- Events of a counter that crosses its threshold and of one that does not. -/
theorem test_witness_CountersCount_crossing :
    let s := { idle with cnt := { idle.cnt with
      recs := modAt idle.cnt.recs 0 fun _ => { Counter.plain .liftCyc false false .any with threshold := 2, value := 1 } } }
    s.inv = true ∧ s.cnt.frozen = false ∧ ((s.cnt.recs[(0 : Fin 8)]).take [.liftCyc] none none 0).2 = some 2 ∧
      ((s.cnt.recs[(0 : Fin 8)]).take [.holds] none none 0).2 = none := by decide

theorem test_witness_NoteTakesOldest :
    let s := { idle with notes := ⟨[.halted .request], 255, true⟩ }
    s.ready ⟨0, .note, []⟩ ∧ s.notes.entries = [.halted .request] ∧ idle.ready ⟨0, .note, []⟩ ∧
      idle.notes.entries = [] := by
  unfold State.ready; decide

theorem test_witness_SetvStores :
    let saving := { idle with store := { idle.store with save := some ⟨.default, Counters.defaultRecs, 400⟩ } }
    let top (n : Int) : List Field := [.word "LIFTTOP", .num n]
    PlainName.word .liftTop = "LIFTTOP" ∧ PlainName.range .liftTop = (500, 1600) ∧
      (∀ n ∈ [499, 500, 1600, 1601], ∀ s ∈ [idle, full 1, saving], s.ready ⟨0, .setv, top n⟩) ∧
      idle.plan.records = [] ∧ idle.store.save = none ∧ (full 1).plan.records ≠ [] ∧ saving.store.save.isSome = true ∧
      idle.ready ⟨0, .setv, .word (SettingName.stn 5).word :: entryFields (some ⟨15, .cab⟩)⟩ ∧
      (∃ w, idle.settings.change (.stn 5) (entryFields (some ⟨15, .cab⟩)) = .inr w) ∧
      idle.ready ⟨0, .setv, [.word (SettingName.stn 0).word, .num 0]⟩ ∧
      (∃ w, idle.settings.change (.stn 0) [.num 0] = .inr w) ∧
      idle.ready ⟨0, .setv, [.word (SettingName.cal 0 true).word, .num 4096, .num 1400, .num 1]⟩ ∧
      (∃ w, idle.settings.change (.cal 0 true) [.num 4096, .num 1400, .num 1] = .inr w) ∧
      (∀ j : Fin 6, j ≠ 0 → ∀ e ∈ idle.settings.stn[j], e.addr ≠ 1 ∧ e.addr ≠ 15) := by
  refine ⟨by decide, by decide, by unfold State.ready; decide, by decide, by decide, by decide, by decide,
    by unfold State.ready; decide, ⟨_, rfl⟩, by unfold State.ready; decide, ⟨_, rfl⟩,
    by unfold State.ready; decide, ⟨_, rfl⟩, by decide⟩

/-- R194: what is and is not the form of a station entry, and the addresses that are RANGE; a name that is no setting. -/
theorem test_witness_SetvStores_entries :
    let cab (a : Int) : List Field := [.num a, .word "CAB", .word "NONE"]
    let set (fs : List Field) := idle.settings.change (.stn 5) fs
    let lifts : List Kind := [.lift, .tilt, .level, .stow, .unstow]
    (∀ a ∈ [(-1 : Int), 1, 5, 16], a ≠ 0 ∧ set (cab a) = .inl "RANGE") ∧
      (∀ a ∈ [(6 : Int), 15], (∀ j : Fin 6, ∀ e ∈ idle.settings.stn[j], (e.addr : Int) ≠ a) ∧
        set (cab a) =
          .inr { idle.settings with stn := modAt idle.settings.stn 5 fun _ => some ⟨a.toNat, .cab⟩ }) ∧
      [Kind.stow, .lift].Nodup ∧ (∀ k ∈ [Kind.stow, .lift], k ∈ lifts) ∧
      (∀ k ∈ lifts, Auth.has ⟨true, false, false, true, false⟩ k = true ↔ k ∈ [Kind.stow, .lift]) ∧
      (∀ fs ∈ [cab 0, [.num 6], [.num 6, .word "CAB", .word "NEAR"], [.num 6, .word "KEYPAD", .word "NONE"],
        [.num 6, .word "PENDANT", .word "NONE", .word "LIFT", .word "LIFT"]], set fs = .inl "SYNTAX") ∧
      idle.ready ⟨0, .setv, [.word "STN7", .num 0]⟩ ∧ idle.ready ⟨0, .setv, []⟩ := by
  unfold State.ready; decide

theorem test_witness_SaveStarts :
    let saving := { idle with store := { idle.store with save := some ⟨.default, Counters.defaultRecs, 400⟩ } }
    idle.ready ⟨0, .save, []⟩ ∧ idle.store.save = none ∧ saving.ready ⟨0, .save, []⟩ ∧ saving.store.save.isSome = true := by
  unfold State.ready; decide

theorem test_witness_SaveEnds :
    let saving := { idle with store := { idle.store with save := some ⟨.default, Counters.defaultRecs, 400⟩ } }
    saving.store.save = some ⟨.default, Counters.defaultRecs, 400⟩ ∧ saving.store.due = false ∧
      { saving.store with due := true }.due = true := by decide

theorem test_witness_SupervisionAnswers :
    (∀ n ∈ [99, 100, 5000, 5001],
      idle.ready ⟨0, .link, [.num n]⟩ ∧ (supervised .armed 99 idle).ready ⟨0, .link, [.num n]⟩) ∧
      idle.link.sup.taken = false ∧ (supervised .armed 99 idle).link.sup.taken = true ∧
      (∀ n ∈ [-1, 0, 1, 99, 100],
        ∀ s ∈ [idle, supervised .armed 99 idle, supervised .armed 0 idle, supervised .expired 0 idle],
        s.ready ⟨0, .live, [.num n]⟩) ∧
      idle.link.sup.state = .off ∧ (supervised .armed 99 idle).link.sup.state = .armed ∧
      ((supervised .armed 99 idle).link.sup.live + 1) % 100 = 0 ∧ ((supervised .armed 0 idle).link.sup.live + 1) % 100 = 1 ∧
      (supervised .expired 0 idle).link.sup.state = .expired ∧
      (let s := supervised .armed 0 running
       s.ready ⟨0, .live, [.num 5]⟩ ∧ s.link.sup.state = .armed ∧ 5 ≠ (s.link.sup.live + 1) % 100 ∧
         s.plan.handlesGood = true ∧ s.sound = true ∧ (∃ r ∈ s.plan.records, r.origin = .link)) := by
  unfold State.ready; decide

theorem test_witness_SupervisionExpires :
    let s := supervised .armed 0 running
    s.plan.handlesGood = true ∧ s.sound = true ∧ s.link.sup.state = .armed ∧ s.link.sup.deadline = some 1000 ∧
      (∃ r ∈ s.plan.records, r.origin = .link) := by decide

/-- With a station record beside the link record that runs; R24 leaves it as it is. -/
theorem test_witness_SupervisionExpires_station :
    let own : Record := { rec 2 .lift none .waiting with origin := .station 0, key := some 2 }
    let s := supervised .armed 0 { running with plan := { running.plan with records := running.plan.records ++ [own] } }
    s.plan.handlesGood = true ∧ s.sound = true ∧ s.link.sup.state = .armed ∧ s.link.sup.deadline = some 1000 ∧
      own ∈ s.plan.records ∧ own.origin ≠ .link ∧ (s.expire false).plan.records = [own] := by decide

theorem test_witness_WaitAndHoldLimitsEnd :
    let s := driving .holding granted
    (full 1).find 1 = some (rec 1 .lift none .waiting) ∧ (rec 1 .lift none .waiting).waitFrom = some 0 ∧
      s.sound = true ∧ s.find 1 = some (rec 1 .lift none .holding) ∧ (rec 1 .lift none .holding).holdFrom = some 0 ∧
      s.find 2 = none := by decide

/-- `SUPPLY` lost, pump rest, and neither. -/
theorem test_witness_LeadEnds :
    let s := driving .lead granted
    let r := rec 1 .lift none .lead
    let rests := { clear s with arb := { (clear s).arb with restUntil := some 500 } }
    (∀ t ∈ [s, clear s, rests], t.sound = true ∧ t.find 1 = some r) ∧ r.leadEnd = some 1500 ∧
      s.pauseLost r = some .supply ∧ (clear s).pauseLost r = none ∧ (clear s).resting = false ∧
      rests.pauseLost r = none ∧ rests.pumpOf r = true ∧ rests.resting = true := by decide

/-- R74 to R76: a first run, a nudge and a creep record, 80 and 81 from the target, up and down, with derating and without. -/
theorem test_witness_LeadEnds_begins :
    let s (n : Int) (creep derating : Bool) (run : Run) : State :=
      let t := atHeight (driving .lead run) n
      { t with
        plan := { t.plan with records := [{ rec 1 .lift none .lead with creep := creep }] }
        cnt := { t.cnt with
          derating := derating
          recs := modAt t.cnt.recs 0 fun c =>
            { c with threshold := 1, value := if derating then 1 else 0, reached := derating, derate := true } } }
    (∀ n ∈ [419, 420], ∀ creep derating : Bool, ∀ run ∈ [granted, { granted with nudgeDue := true },
        { granted with lastRun := some .nudge }, { granted with dir := .down, pump := false, target := 339 },
        { granted with lift := false }],
      (s n creep derating run).find 1 = some { rec 1 .lift none .lead with creep := creep } ∧
        (s n creep derating run).axis.run = some run ∧ (s n creep derating run).holdsPack 1 = true ∧
        (s n creep derating run).inv = true ∧ (s n creep derating run).reported Kind.lift.axisChan = n) ∧
      Plain.default.liftSlow = 500 - 420 ∧ Plain.default.liftSlow = 419 - 339 := by decide

/-- R76, log entry 46: where the `PUMPSTART` of a run makes derating active, a FAST one goes to CREEP with its flag, and one
that began in CREEP has no flag. -/
theorem test_derated_at_start :
    let s (n : Int) : State :=
      let t := atHeight (driving .lead granted) n
      { t with cnt := { t.cnt with
          recs := modAt t.cnt.recs 0 fun c =>
            { c with source := .pumpStart, duration := false, threshold := 1, derate := true } } }
    let began (n : Int) := ((s n).enterRunning 1).axis.run.bind (·.cls)
    let flagged (n : Int) := ((s n).enterRunning 1).plan.records.map (·.flags.derated)
    began 419 = some .creep ∧ flagged 419 = [true] ∧ began 420 = some .creep ∧ flagged 420 = [false] := by decide

/-- Short by 10, by -10, by 11 and by -11, with no nudge left and with two, and in each case of a nudge. -/
theorem test_witness_SettleJudges :
    let r := rec 1 .lift none .settling
    let s (n : Int) := atHeight (driving .settling granted) n
    let last : State :=
      { s 489 with plan := { (s 489).plan with records := [{ r with nudges := 2 }] } }
    let rests := { clear (s 489) with arb := { (clear (s 489)).arb with restUntil := some 500 } }
    (∀ n ∈ [489, 490, 510, 511], (s n).sound = true ∧ (s n).packRecord = some r ∧ (s n).axis.run = some granted ∧
      (s n).reported 0 = n) ∧
      granted.settleEnd = some 300 ∧ granted.target = 500 ∧ granted.dir = .up ∧ Plain.default.liftTol = 10 ∧
      Plain.default.nudges = 2 ∧ last.sound = true ∧ last.packRecord = some { r with nudges := 2 } ∧
      (s 489).pauseLost r = some .supply ∧ (clear (s 489)).sound = true ∧ (clear (s 489)).pauseLost r = none ∧
      (clear (s 489)).resting = false ∧ rests.sound = true ∧ rests.pauseLost r = none ∧ rests.pumpOf r = true ∧
      rests.resting = true := by decide

/-- The last two are a run down to 0, 80 and 81 above the ground. -/
theorem test_witness_DriveFaultsEnd :
    let down : Run := { Run.fresh 0 false true with
      runKind := some .ordinary, lastRun := some .ordinary, cls := some .fast, runs := 1, groundSince := some 0 }
    let lowering (n : Int) : State :=
      let s := atHeight (driving .running down) n
      { s with arb := { s.arb with contactor := .opened } }
    running.sound = true ∧ running.packRecord = some (rec 1 .lift none .running) ∧ running.axis.run = some fast ∧
      fast.pump = true ∧ fast.groundSince = some 0 ∧ fast.overSince = some 0 ∧ fast.target ≠ 0 ∧
      (∀ n ∈ [80, 81], (lowering n).sound = true ∧ (lowering n).packRecord = some (rec 1 .lift none .running) ∧
        (lowering n).axis.run = some down ∧ (lowering n).reported 0 = n) ∧
      down.target = 0 ∧ down.groundSince = some 0 ∧ Plain.default.gndBand = 80 := by decide

theorem test_witness_ContactorEvents :
    let making := { running with arb := { running.arb with contactor := .making } }
    making.arb.contactor = .making ∧ making.sound = true ∧ making.packRecord = some (rec 1 .lift none .running) ∧
      running.sound = true ∧ running.packRecord = some (rec 1 .lift none .running) ∧ running.arb.contactor = .made ∧
      running.arb.fbOpenSince = some 0 ∧ running.arb.overSince = some 0 ∧ idle.arb.restUntil = some 500 := by decide

/-- Each way out of a state, with both windows passing together and 1 ms apart. -/
theorem test_witness_SupplyStateChanges :
    let s (st : SupplyState) (low crit up : Option Nat) : State := { idle with supply := ⟨st, low, crit, up⟩ }
    (s .normal (some 0) (some 1500) none).supply.crit = some 1500 ∧ 1500 + 500 ≤ 0 + 2000 ∧
      (s .normal (some 0) (some 1501) none).supply.low = some 0 ∧ 0 + 2000 < 1501 + 500 ∧
      (s .low none (some 1500) (some 0)).supply.crit = some 1500 ∧ (s .low none (some 1501) (some 0)).supply.up = some 0 ∧
      (s .critical none none (some 0)).supply.up = some 0 ∧ idle.supply.state = .unknown := by decide

/-- R63, R64, R66: CH5 not OK, and each voltage at a bound and 1 below it, in each state; an engine that starts. -/
theorem test_witness_SupplyStateChanges_scan :
    let s (st : SupplyState) (v : Int) : State :=
      { idle with
        supply := ⟨st, some 0, some 0, some 0⟩
        conv := { idle.conv with chans := modAt idle.conv.chans 5 fun c => { c with status := .ok, value := some v } } }
    (idle.conv.chans[(5 : Fin 9)]).status ≠ .ok ∧
      (∀ st ∈ [SupplyState.unknown, .normal, .low, .critical], ∀ v ∈ [2159, 2160, 2239, 2240, 2339, 2340, 2419, 2420],
        ((s st v).conv.chans[(5 : Fin 9)]).status = .ok ∧ ((s st v).conv.chans[(5 : Fin 9)]).value = some v ∧
          (s st v).supply.state = st) ∧
      Plain.default.batCrit = 2160 ∧ Plain.default.batLow = 2340 ∧
      (∀ b ∈ [none, some false],
        let t := { idle with inputs := { idle.inputs with engine := ⟨true, 0, b⟩ } }
        t.inputs.engine.raw = true ∧ t.inputs.engine.counted ≠ some true) := by decide

theorem test_witness_InputsCount :
    let sampled := after (.inputRawChange (.debounced .engine) true) idle
    let shows (b : Bool) (s : State) :=
      { s with inputs := { s.inputs with master := ⟨!b, 0, some b⟩ } }
    (∀ d ∈ [DInput.engine], (sampled.inputs.get d).counted ≠ some (sampled.inputs.get d).raw) ∧
      (let s := { idle with inputs := { idle.inputs with park := ⟨true, 0, some true⟩ } }
       (s.inputs.get .park).counted = some (s.inputs.get .park).raw) ∧
      (shows true idle).inputs.master.counted = some true ∧ (shows true idle).store.save = none ∧
      ((shows true idle).inputs.get .master).counted ≠ some ((shows true idle).inputs.get .master).raw ∧
      ((after (.inputCountedChange [.master]) (shows true idle)).inputs.master.counted = some false) := by decide

/-- R198: MASTER counted inactive starts a save, and with a save in progress marks one due. -/
theorem test_master_off :
    let shown (save : Option Save) : State :=
      { idle with
        inputs := { idle.inputs with master := ⟨false, 0, some true⟩ }, store := { idle.store with save := save } }
    let off (save : Option Save) := after (.inputCountedChange [.master]) (shown save)
    let busy : Save := ⟨.default, Counters.defaultRecs, 400⟩
    (off none).store.save.isSome = true ∧ (off none).store.due = false ∧
      (off (some busy)).store = { idle.store with save := some busy, due := true } := by decide

/-- R8, R40, log entry 50: a DOOROPEN in WAITING that has lost PARKED goes to BLOCKED. -/
theorem test_waiting_door_blocks :
    let s := doors [rec 1 .doorOpen (some .near) .waiting] 170
    s.stopLost (rec 1 .doorOpen (some .near) .waiting) = some .parked ∧
      s.report.plan.records.map (·.state) = [.blocked] := by decide

/-- The judgement of a record in each state, by the first STOP-class and the first PAUSE-class condition lost. -/
theorem test_witness_InputsCount_judged :
    let r (st : RecState) : Record := rec 1 .lift none st
    let s (st : RecState) : State := sensed (driving st (if st = .running then fast else granted))
    let rested (t : State) : State :=
      { t with
        plan := { t.plan with records := t.plan.records.map fun r => { r with wait := some .rest } }
        arb := { t.arb with restUntil := none } }
    let rests (t : State) : State := { t with arb := { t.arb with restUntil := some 500 } }
    let lost (t : State) (c : Cond) : Prop :=
      ∃ r ∈ t.plan.records, (r.kind.stopClass.find? fun c => !t.holds r c) = none ∧ t.pauseLost r = some c
    (∀ st ∈ [RecState.lead, .running, .holding, .settling],
      (s st).sound = true ∧ (clear (s st)).sound = true ∧ (s st).find 1 = some (r st) ∧ lost (s st) .supply ∧
        (clear (s st)).stopLost (r st) = none ∧ (clear (s st)).pauseLost (r st) = none ∧
        (driving st (if st = .running then fast else granted)).stopLost (r st) = some .parked ∧
        (driving st (if st = .running then fast else granted)).sound = true) ∧
    (rested (clear (s .lead))).sound = true ∧ (rested (clear (s .lead))).resting = false ∧
    (rested (clear (s .settling))).sound = true ∧ (rests (rested (clear (s .settling)))).resting = true ∧
    (rests (clear (s .holding))).resting = true ∧ (rests (clear (s .holding))).sound = true ∧
    (∀ st ∈ [RecState.pending, .blocked, .waiting],
      (let t := { idle with plan := { idle.plan with records := [rec 1 .lift none st] } }
       t.sound = true ∧ t.find 1 = some (rec 1 .lift none st))) ∧
    (moving .opening).sound = true ∧ (moving .opening).stopLost (rec 1 .doorOpen (some .near) .running) = some .parked := by
  decide

theorem test_witness_DoorFollowsAndBegins :
    let shows (c l o : Bool) (k : Kind) (d : DoorState) : State :=
      { idle with
        inputs := { idle.inputs with near := ⟨⟨c, 0, some c⟩, ⟨l, 0, some l⟩, ⟨o, 0, some o⟩⟩ }
        near := { idle.near with state := d }
        plan := { idle.plan with records := [rec 1 k (some .near) .waiting] } }
    let free (s : State) (k : Kind) :=
      s.find 1 = some (rec 1 k (some .near) .waiting) ∧ s.arb.channel .near = none ∧ (s.door .near).phase = none
    (∀ k ∈ [Kind.doorOpen, .doorShut], ∀ d ∈ [DoorState.shut, .closed, .ajar, .opened, .fault, .unknown],
      free (shows true true false k d) k) ∧
      (shows true true false .doorShut .shut).derived .near = .shut ∧
      (shows false false true .doorOpen .opened).derived .near = .opened ∧
      (shows true false true .doorOpen .fault).derived .near = .fault ∧
      (let s := { idle with plan := { idle.plan with records := [rec 1 .doorOpen (some .near) .waiting] } }
       free s .doorOpen ∧ s.near.state = .unknown ∧ s.derived .near = .unknown) := by decide

/-- R98 to R102, R104: every combination of the switches in every phase, and a switch with a level to count. -/
theorem test_witness_DoorFollowsAndBegins_phases :
    let s (p : Phase) (c l o : Bool) : State :=
      { moving p with inputs := { idle.inputs with near := ⟨⟨c, 0, some c⟩, ⟨l, 0, some l⟩, ⟨o, 0, some o⟩⟩ } }
    (∀ p ∈ [Phase.unlatch, .opening, .closing, .pullin, .reverse], ∀ c l o : Bool,
      (s p c l o).sound = true ∧ ((s p c l o).door .near).phase = some p ∧
        (s p c l o).doorRecord .near = some (rec 1 .doorOpen (some .near) .running) ∧
        (s p c l o).derived .near = doorOf c l o ∧ (moving p).sound = true ∧ (moving p).derived .near = .unknown) ∧
      [doorOf true true false, doorOf true false false, doorOf false false true, doorOf false false false,
        doorOf true false true] = [.shut, .closed, .opened, .ajar, .fault] ∧
      (let t := { moving .closing with
          inputs := { idle.inputs with near := ⟨⟨true, 0, some false⟩, ⟨false, 0, some false⟩, ⟨false, 0, some true⟩⟩ } }
       ∀ d ∈ [DInput.door .near .closed, .door .near .opened], (t.inputs.get d).counted ≠ some (t.inputs.get d).raw) := by
  decide

/-- R98, R100, R101, R104: what LATCHED off does in `UNLATCH`, CLOSED on in `CLOSING`, LATCHED on in `PULLIN` and OPEN on in
`REVERSE`. -/
theorem test_door_phases :
    let low : Debounced := ⟨false, 0, some false⟩
    let high : Debounced := ⟨true, 0, some true⟩
    let rises : Debounced := ⟨true, 0, some false⟩
    let s (p : Phase) (c l o : Debounced) (d : DInput) : Door :=
      let t := sensed (clear (moving p))
      (after (.inputCountedChange [d])
        { t with
          inputs := { t.inputs with near := ⟨c, l, o⟩ }
          conv := { t.conv with
            rollF := some 0, chans := modAt t.conv.chans 3 fun c => { c with status := .ok, value := some 0 } } }).near
    (s .unlatch high ⟨false, 0, some true⟩ low (.door .near .latched)).phase = some .opening ∧
      (s .unlatch high ⟨false, 0, some true⟩ low (.door .near .latched)).motorOpen = true ∧
      (s .closing rises low low (.door .near .closed)).phase = some .pullin ∧
      (s .pullin high rises low (.door .near .latched)).state = .shut ∧
      (s .reverse low low rises (.door .near .opened)).phase = none := by decide

theorem test_witness_PinsHalt :
    let counted := { idle with inputs := { idle.inputs with estopCounted := true, estopQuiet := some 0 } }
    let late := { idle with now := 150 }
    let early := { idle with now := 149 }
    running.startup.reading = false ∧ running.inputs.estopCounted = false ∧ running.halt.set = false ∧
      (halted idle).halt.set = true ∧ (halted idle).halt.estop = false ∧ (halted idle).startup.reading = false ∧
      State.reset.startup.reading = true ∧ counted.inputs.estopQuiet = some 0 ∧
      idle.startup.reading = false ∧ idle.arb.contactor = .opened ∧ idle.arb.weldArmed = true ∧ idle.sound = true ∧
      { running.arb with contactor := .making }.contactor = .making ∧ late.arb.contactor = .opened ∧
      late.arb.weldArmed = true ∧ late.arb.contactorAt + 150 ≤ late.now ∧ late.startup.reading = false ∧
      running.arb.contactor = .made ∧ counted.startup.reading = false ∧ counted.inputs.estopCounted = true ∧
      idle.inputs.estopQuiet = none ∧ running.arb.contactor ≠ .opened ∧ early.arb.contactor = .opened ∧
      early.now < early.arb.contactorAt + 150 ∧ State.reset.arb.contactor = .opened ∧
      { idle.arb with weldArmed := false }.weldArmed = false := by decide

theorem test_witness_DoorTimersAndObstruction :
    (∀ p ∈ [Phase.unlatch, .opening, .closing, .pullin, .reverse],
      (moving p).sound = true ∧ (moving p).doorRecord .near = some (rec 1 .doorOpen (some .near) .running) ∧
        ((moving p).door .near).phase = some p ∧ ((moving p).door .near).obsSince = some 0) ∧
      (idle.door .near).phase = none := by decide

/-- R103: 299 ms and 300 ms into a phase, with the current channel OK and not. -/
theorem test_witness_DoorTimersAndObstruction_current :
    let s (p : Phase) (n : Nat) (st : ChanStatus) : State :=
      { moving p with
        now := n
        conv := { idle.conv with chans := modAt idle.conv.chans 7 fun c => { c with status := st, value := some 121 } } }
    (∀ p ∈ [Phase.unlatch, .opening, .closing, .pullin, .reverse], ∀ n ∈ [299, 300], ∀ st ∈ [ChanStatus.ok, .failed],
      (s p n st).sound = true ∧ (s p n st).doorRecord .near = some (rec 1 .doorOpen (some .near) .running) ∧
        ((s p n st).door .near).phase = some p ∧ ((s p n st).door .near).phaseAt = 0 ∧
        ((s p n st).conv.chans[(7 : Fin 9)]).status = st ∧ (s p n st).reported 7 = 121) ∧
      ¬(0 + 300 ≤ 299) ∧ 0 + 300 ≤ 300 := by decide

/-- R103, log entry 49: at 300 ms a current channel that entered OK with that scan is compared; one that did not obstructs. -/
theorem test_channel_enters_ok :
    let s (st : ChanStatus) : State :=
      { moving .opening with
        now := 300
        conv := { idle.conv with chans := modAt idle.conv.chans 7 fun c => { c with status := st, value := some 91 } } }
    (((s .ok).doorCurrent .near false).door .near).phase = some .opening ∧
      (((s .ok).doorCurrent .near false).door .near).obsSince = some 0 ∧
      (((s .failed).doorCurrent .near false).door .near).phase = none := by decide

theorem test_witness_ConversionRoundsAndClamps :
    (∀ n : Fin 9, Settings.defaultCal[n].cLo < Settings.defaultCal[n].cHi) ∧ 0 < [4095].length := by decide

/-- References of 2007, 2008, 2088 and 2089; an in-band history, a third code out of band, and a filter that begins. -/
theorem test_witness_ScanConverts :
    let codes (c r : Code) : Scan := #v[c, 48, 48, 48, 48, 0, 0, 0, 0, r]
    let ok : Channel := ⟨.ok, [48], 2, 0, some 0, true⟩
    let s := { idle with conv := { idle.conv with chans := modAt idle.conv.chans 0 fun _ => ok } }
    s.conv.scanning = true ∧ s.conv.refGood = true ∧ s.conv.chans[(0 : Fin 9)].badRun = 2 ∧
      s.conv.chans[(0 : Fin 9)].status = .ok ∧
      ([2007, 2008, 2088, 2089].map fun r => (codes 48 r)[9].toNat) = [2007, 2008, 2088, 2089] ∧
      ([47, 48, 4047, 4048].map fun c => (codes c 2048)[0].toNat) = [47, 48, 4047, 4048] ∧
      ok.value = some 0 ∧ ok.status = .ok ∧ ok.fresh = true ∧ Channel.reset.status ≠ .ok ∧
      ¬(Channel.reset.status = .ok ∧ Channel.reset.fresh = true) := by decide

/-- A bad reference and a failed channel 1 scan short of recovery and at it, and the first supply value. -/
theorem test_witness_ScanConverts_recovery :
    let codes (r : Code) : Scan := #v[2000, 2000, 2000, 2000, 2000, 3000, 0, 0, 0, r]
    let s (n : Nat) : State := { idle with conv := { idle.conv with refGood := false, refRun := n } }
    let failed (n : Nat) : State :=
      { idle with conv := { idle.conv with chans := modAt idle.conv.chans 2 fun _ => ⟨.failed, [], 0, n, none, false⟩ } }
    let supplied : State :=
      { idle with conv := { idle.conv with
        chans := modAt idle.conv.chans 5 fun _ => ⟨.ok, List.replicate 16 3000, 0, 20, some 2400, true⟩ } }
    (∀ n ∈ [18, 19], (s n).conv.scanning = true ∧ (s n).conv.refGood = false ∧
      (after (.scanResult (codes 2048)) (s n)).conv.refGood = decide (n = 19)) ∧
    (∀ n ∈ [18, 19], (failed n).conv.scanning = true ∧ ((failed n).conv.chans[(2 : Fin 9)]).status = .failed ∧
      ((after (.scanResult (codes 2048)) (failed n)).conv.chans[(2 : Fin 9)]).status = if n = 19 then .ok else .failed) ∧
    supplied.supply.state = .unknown ∧ supplied.link.calp = none ∧ supplied.link.fifo = [] ∧
    supplied.link.complete = none ∧
    ((after (.scanResult (codes 2048)) supplied).conv.chans[(5 : Fin 9)]).status = .ok ∧
    (after (.scanResult (codes 2048)) supplied).supply.state = .normal := by decide

/-- A run at the coast and 1 above it, at the slow zone and 1 above it; a lead; a hold; and a run down with a pressure. -/
theorem test_witness_ScanConverts_run :
    let s (st : RecState) (n : Int) : State := atHeight (sensed (driving st (if st = .running then fast else granted))) n
    let down : State := sensed (driving .running { fast with dir := .down, pump := false, target := 0 })
    (∀ n ∈ [419, 420, 499, 500], (s .running n).packRecord = some (rec 1 .lift none .running) ∧
      (s .running n).axis.run = some fast ∧ (s .running n).chanOk 0 = true ∧ (s .running n).chanValue 0 = some n ∧
      (s .running n).chanOk 4 = true ∧ (s .running n).chanValue 4 = some 900) ∧
    fast.target - 500 ≤ fast.coast ∧ ¬(fast.target - 499 ≤ fast.coast) ∧ Plain.default.liftSlow = 500 - 420 ∧
    (∀ st ∈ [RecState.lead, .settling, .holding], (s st 400).packRecord = some (rec 1 .lift none st) ∧
      (s st 400).axis.run = some granted ∧ (s st 400).chanOk 0 = true ∧ (s st 400).chanValue 0 = some 400) ∧
    down.packRecord = some (rec 1 .lift none .running) ∧ down.chanOk 4 = true ∧ down.chanValue 4 = some 900 ∧
    down.chanOk 0 = true ∧ down.chanValue 0 = some 400 := by decide

/-- R79, R90, log entry 48: the scan that makes a coast stop gives its load to the last load. -/
theorem test_coast_stop_load :
    let s : State := atHeight (sensed (driving .running { fast with coast := 20, runLoad := some 3 })) 480
    s.chanOk 4 = true ∧ s.chanValue 4 = some 900 ∧ s.axisScan.plan.records.map (·.state) = [.settling] ∧
      s.axisScan.axis.lastLoad = s.settings.plain.load 900 ∧ s.settings.plain.load 900 ≠ 3 := by decide

theorem test_witness_FrameChecks :
    ([0xFF#8, 0x2D#8].map (·.toNat)).sum = 300 ∧ ([0xFE#8, 0x01#8].map (·.toNat)).sum = 255 ∧
      (0x61#8 : Ch) = BitVec.ofNat 8 (0x60 + 1) ∧ (0x6F#8 : Ch) = BitVec.ofNat 8 (0x60 + 15) ∧
      (0x9E#8 : Ch) = frameCheck [0x61#8, 0, 0] ∧ (0x9F#8 : Ch) ≠ frameCheck [0x61#8, 0, 0] := by decide

theorem test_witness_PollCyclesRun :
    let bus (fault : Bool) (aborts conflicts clean : Nat) : Bus :=
      { idle.bus with fault := fault, cycleAborts := aborts, conflictRun := conflicts, cleanRun := clean }
    idle.bus.polling = true ∧ idle.bus.current = none ∧ (∀ j : Fin 6, (idle.bus.stations[j]).changed = false) ∧
      (idle.bus.stations[(0 : Fin 6)]).entry = some ⟨1, .pendant ⟨true, true, true, true, true⟩⟩ ∧
      State.reset.bus.polling = false ∧ (after .pollCycleStart idle).bus.current.isSome = true ∧
      (bus false 1 1 0).conflictRun < 2 ∧ 2 ≤ (bus false 1 2 0).conflictRun ∧ (bus true 0 0 8).cleanRun < 9 ∧
      9 ≤ (bus true 0 0 9).cleanRun ∧ 0 < (bus true 1 0 0).cycleAborts := by decide

/-- R127, R129: a changed entry with a key counted pressed, one that leaves the table, and no configured station. -/
theorem test_witness_PollCyclesRun_entries :
    let marked (keep : Bool) : State :=
      { idle with
        bus := { idle.bus with
          stations := modAt idle.bus.stations 0 fun x =>
            { x with
              changed := true, state := .present, missCount := 7, keys := modAt x.keys 0 fun k => { k with pressed := true } } }
        settings := { idle.settings with stn := modAt idle.settings.stn 0 fun e => if keep then e else none } }
    let none_ : State := { idle with bus := { idle.bus with stations := Vector.replicate 6 (Station.new none) } }
    (∀ b, (marked b).bus.polling = true ∧ (marked b).bus.current = none ∧
      ((marked b).bus.stations[(0 : Fin 6)]).changed = true ∧
      (∀ j : Fin 6, j ≠ 0 → ((marked b).bus.stations[j]).changed = false)) ∧
      (marked true).settings.stn[(0 : Fin 6)] = some ⟨1, .pendant ⟨true, true, true, true, true⟩⟩ ∧
      (after .pollCycleStart (marked false)).bus.current = some 1 ∧
      none_.bus.polling = true ∧ none_.bus.current = none ∧ (∀ j : Fin 6, (none_.bus.stations[j]).entry = none) ∧
      (after .pollCycleStart none_).bus.current = none ∧
      (after .pollCycleStart (marked true)).bus.current = some 0 ∧
      ((after .pollCycleStart (marked true)).bus.stations[(0 : Fin 6)]).missCount = 0 := by decide

/-- Several changed entries with keys counted pressed, in NORMAL and in FAULT, and a bus fault that begins. -/
theorem test_witness_PollCyclesRun_several :
    let s (fault : Bool) : State :=
      { idle with
        bus := { idle.bus with
          fault := fault, cycleAborts := 1, conflictRun := 2, cleanRun := 3
          stations := mapAt idle.bus.stations fun _ x =>
            { x with changed := true, state := .present, goodRun := 3, keys := modAt x.keys 2 fun k => { k with pressed := true } } } }
    (∀ b, (s b).bus.polling = true ∧ (s b).bus.current = none ∧ (∀ i : Fin 6, ((s b).bus.stations[i]).changed = true)) ∧
      ((s false).bus.stations[(0 : Fin 6)]).entry.isSome = true ∧
      (s false).judgeCycle.bus.fault = true ∧ (s false).judgeCycle.bus.cleanRun = 0 ∧
      ((s false).judgeCycle.bus.stations[(0 : Fin 6)]).goodRun = 0 := by decide

theorem test_witness_PollsAreJudged :
    let polled := after .pollCycleStart idle
    let seen := { polled with bus := { polled.bus with
      stations := modAt polled.bus.stations 0 fun x => { x with state := .present, missRun := 3 } } }
    (∀ s ∈ [polled, seen], s.bus.current = some 0 ∧
      (s.bus.stations[(0 : Fin 6)]).entry = some ⟨1, .pendant ⟨true, true, true, true, true⟩⟩) ∧
      judgeReply 1 0x62#8 0 0 0 false = some .wrongAddr ∧ judgeReply 1 0x61#8 0 0 0x9F#8 false = some .badCheck ∧
      judgeReply 1 0x61#8 0 0 0x9E#8 true = some .badCheck ∧ judgeReply 1 0x61#8 0 0 0x9E#8 false = none ∧
      (seen.bus.stations[(0 : Fin 6)]).state = .present ∧ (seen.bus.stations[(0 : Fin 6)]).missRun = 3 ∧
      (Station.new none).state ≠ .present ∧ { Station.new none with goodRun := 1 }.goodRun < 2 ∧
      2 ≤ { Station.new none with goodRun := 2 }.goodRun := by decide

/-- R137: the third good reply finds a station and bars the key it shows, STOP apart; before it, and in bus FAULT, none. -/
theorem test_found_bars :
    let x (n : Nat) : Station := { Station.new (some ⟨2, .cab⟩) with goodRun := n }
    let barred (n : Nat) (fault : Bool) (k : Fin 6) := (((x n).good .cab 0x03#8 false fault).keys[k]).barred
    (x 2).state ≠ .present ∧
      ∀ k : Fin 6, barred 2 false k = decide (k = 1) ∧ barred 1 false k = false ∧ barred 2 true k = false := by decide

/-- R135, R168: the last poll of the third cycle with a conflict. Its `STNMISS` reaches a threshold, and the bus fault of the
same event releases the key of a station record: `SERVICE` stands after `ENDED` and `BUSFAULT`. -/
theorem test_service_after_bus_fault :
    let polled := atHeight (clear idle) 0
    let own : Record := { rec 1 .lift none .waiting with origin := .station 0, key := some 1 }
    let s :=
      { polled with
        plan := { polled.plan with records := [own] }
        cnt := { polled.cnt with
          recs := modAt polled.cnt.recs 0 fun c => { c with source := .stnMiss, duration := false, threshold := 1 } }
        bus := { polled.bus with
          current := some 5, conflictRun := 2
          stations := modAt polled.bus.stations 5 fun x => { x with entry := some ⟨6, .cab⟩ } } }
    (after .pollAbort s).notes.entries =
      [.ended 1 .lift .stopped none (.value 0), .busFault 1, .service 0 .stnMiss 1] := by decide

/-- A direction key with and without ENABLE, each of the keys' records, one that is already asked for, a link record in the
way, a full table, a release, a keypad with and without a record of its side, and the latch set. -/
theorem test_witness_StopAndResetKeys_requests :
    let all : Role := .pendant ⟨true, true, true, true, true⟩
    let s := sensed (clear idle)
    let tilt (n : Int) : State := { s with conv := { s.conv with
      chans := modAt s.conv.chans 1 fun c => { c with value := some n } } }
    let mine : Record := { rec 1 .lift none .waiting with origin := .station 0, key := some 2 }
    let put (r : Record) : State := { s with plan := { s.plan with records := [r] } }
    all = .pendant ⟨true, true, true, true, true⟩ ∧ s.halt.set = false ∧ (halted s).halt.set = true ∧
      ((s.bus.stations[(0 : Fin 6)]).keys[(1 : Fin 6)]).pressed = true ∧
      ((idle.bus.stations[(0 : Fin 6)]).keys[(1 : Fin 6)]).pressed = false ∧ (0 : Fin 6) ∉ [(1 : Fin 6), 5] ∧
      s.cond .atBed = false ∧ (tilt 799).chanValue 1 = some 799 ∧ (tilt 800).chanValue 1 = some 800 ∧
      idle.chanValue 1 = none ∧
      ({ s with settings := { s.settings with plain := { s.settings.plain with bedHt := 430 } } }.cond .atBed = true) ∧
      Auth.has ⟨true, true, true, true, false⟩ .unstow = false ∧
      (∃ y ∈ (put mine).plan.records, y.kind.isLift = true ∧ y.origin ≠ .link) ∧
      ((put mine).plan.records.find? fun y => y.origin == .station 0 && y.kind.isLift && y.key == some 2) = some mine ∧
      (put mine).plan.handlesGood = true ∧ s.plan.records = [] ∧ s.packRecord = none ∧
      running.packRecord = some (rec 1 .lift none .running) ∧ running.sound = true ∧ (full 12).plan.records.length = 12 ∧
      (full 11).plan.records.length < 12 ∧ (∀ y ∈ (full 12).plan.records, y.origin = .link) ∧
      s.inv = true ∧ (moving .opening).inv = true ∧ (moving .opening).sound = true ∧
      (moving .opening).plan.handlesGood = true ∧ (∃ y ∈ (moving .opening).plan.records, y.kind = .doorOpen) := by decide

/-- R140, R141: the reply that counts ENABLE and UP pressed together, from a pendant that is PRESENT, admits a record; with
STOP too it halts and admits none. -/
theorem test_witness_StopAndResetKeys_reply :
    let s : State :=
      let t := sensed (clear idle)
      { t with bus := { t.bus with
          current := some 0
          stations := modAt t.bus.stations 0 fun x => { x with keys := mapAt x.keys fun _ _ => ⟨false, false, false, 1⟩ } } }
    let old := s.bus.stations[(0 : Fin 6)]
    let all : Auth := ⟨true, true, true, true, true⟩
    let reply (b : Ch) := Instr.replyReceived 0x61#8 b 0 (frameCheck [0x61#8, b, 0]) false
    s.bus.current = some 0 ∧ old.entry = some ⟨1, .pendant all⟩ ∧
      judgeReply 1 0x61#8 0x06#8 0 (frameCheck [0x61#8, 0x06#8, 0]) false = none ∧ s.bus.fault = false ∧
      old.state = .present ∧ old.keys[(1 : Fin 6)].pressed = false ∧ old.keys[(2 : Fin 6)].pressed = false ∧
      (∀ j : Fin 6, (((old.good (.pendant all) 0x06#8 false false).keys[j]).pressed =
        ((old.keys[j]).pressed || j == 1 || j == 2))) ∧
      (after (reply 0x06#8) s).plan.records.map (·.kind) = [.lift] ∧
      (after (reply 0x07#8) s).plan.records = [] ∧ (after (reply 0x07#8) s).halt.set = true := by decide

theorem test_witness_StopAndResetKeys :
    let s (t : State) : State :=
      { t with bus := { t.bus with stations := modAt t.bus.stations 0 fun x => { x with resetAt := some 1000 } } }
    (∀ side, Role.cab ≠ .keypad side) ∧ running.halt.set = false ∧
      ((s (halted idle)).bus.stations[(0 : Fin 6)]).resetAt = some 1000 ∧ (s (halted idle)).halt.set = true ∧
      (s (halted idle)).halt.present = false ∧ ((s idle).bus.stations[(0 : Fin 6)]).resetAt = some 1000 ∧
      (s idle).halt.set = false := by
  refine ⟨fun side => by cases side <;> decide, by decide⟩

theorem test_witness_PatternAndTrails :
    (19 : Nat) < 20 ∧
      (let b := { idle.beac with rearTrail := some 3000, nearTrail := some 3000, offTrail := some 3000 }
       b.rearTrail = some 3000 ∧ b.nearTrail = some 3000 ∧ b.offTrail = some 3000) ∧
      idle.inv = true ∧ { idle with now := 199 }.now < idle.beac.nextAt + 100 ∧
      { idle with now := 200 }.inv = true ∧ ¬({ idle with now := 200 }.now < idle.beac.nextAt + 100) := by decide

/-- A `LIFT` that holds the pack in each of its states and a door that moves, with `TRAILMS` at 0 and at its default, for a
halt event too. -/
theorem test_witness_PatternAndTrails_movement :
    (∀ st ∈ [RecState.lead, .running, .holding, .settling], ∀ ms ∈ [0, 3000],
      let s := driving st (if st = .running then fast else granted)
      let t := { s with settings := { s.settings with plain := { s.settings.plain with trailMs := ms } } }
      t.sound = true ∧ t.find 1 = some (rec 1 .lift none st) ∧ t.holdsPack 1 = true ∧ t.packRecord = some (rec 1 .lift none st) ∧
        t.halt.set = false ∧ t.plan.handlesGood = true ∧ t.arb.pack.isSome = true) ∧
      (moving .opening).sound = true ∧ (moving .opening).holdsDoor .near 1 = true ∧
      (moving .opening).doorRecord .near = some (rec 1 .doorOpen (some .near) .running) ∧
      (moving .opening).near.phase.isSome = true ∧ Plain.default.sndMove = 1 ∧ Plain.default.trailMs = 3000 := by decide

/-- R149 to R152: the demands of a run, and the trail that its ending starts. -/
theorem test_trail_starts :
    let x := running.endTree 1 .done none
    ([Lamp.b0, .b1, .b2, .b3, .snd].map running.motion) = [true, true, false, false, true] ∧ x.beac.rearTrail = some 3000 ∧
      ([Lamp.b0, .b1, .b2, .b3, .snd].map x.motion) = [true, true, false, false, false] := by decide

theorem test_witness_LampFaultsLatch :
    let c := { LampCh.reset with level := true, checkAt := some 50 }
    let s := { idle with beac := { idle.beac with lamps := modAt idle.beac.lamps 4 fun _ => c } }
    s.beac.lamps[lampIdx .snd] = c ∧ c.checkAt = some 50 ∧ c.openF = false ∧ c.shortF = false ∧ c.stuckF = false ∧
      (s.beac.lamps[lampIdx .b0]).checkAt = none ∧ c.readBack ≠ c.level ∧
      (s.beac.lamps[lampIdx .b0]).readBack = (s.beac.lamps[lampIdx .b0]).level ∧ (s.beac.lamps[lampIdx .b0]).level = false ∧
      { c with stuckF := true }.stuckF = true := by decide

theorem test_witness_ResetsRestart :
    (Instr.powerOnReset true, ResetKind.powerOn) ∈ [(Instr.powerOnReset true, ResetKind.powerOn), (.resetPin true, .pin)] := by
  decide

theorem test_witness_ImageReadEnds :
    let good := { State.reset with
      store := { State.reset.store with image := ⟨true, .default, Counters.defaultRecs⟩ }
      inputs := { State.reset.inputs with estopRaw := true } }
    good.startup.reading = true ∧ good.link.fifo = [] ∧ good.link.complete = none ∧ good.store.image.good = true ∧
      good.inputs.estopRaw = true ∧ good.inputs.estopCounted = false ∧
      State.reset.startup.reading = true ∧ State.reset.link.fifo = [] ∧ State.reset.link.complete = none ∧
      State.reset.store.image.good = false ∧ State.reset.inputs.estopRaw = false ∧ idle.startup.reading = false := by
  decide

/-- R182, R199: a lone character, a whole record, the last count of characters at which the link waits and the first at which
it does not; and an image that breaks each rule of R199. -/
theorem test_witness_ImageReadEnds_waiting :
    let r : Request := ⟨0, .plan, []⟩
    let s (n : Nat) (cs : List Ch) : State :=
      { State.reset with link := { State.reset.link with
          tx := List.replicate n 0x41#8, fifo := cs.map fun x => ⟨x, false, false⟩ } }
    let m : Image := ⟨true, .default, Counters.defaultRecs⟩
    let w := m.settings
    (∀ n ∈ [0, 16, 17], ∀ cs ∈ [[], [0x40#8], recordText r ++ [0x0D#8]],
      (s n cs).inv = true ∧ (s n cs).startup.reading = true ∧ (s n cs).link.complete = none ∧
        (s n cs).link.asm = .hunting ∧ (s n cs).link.calp = none ∧ (s n cs).link.feed = []) ∧
      (Instr.plan 0 []).request = some r ∧ r.fits = true ∧ (0x40#8 : Ch) ≠ 0x21#8 ∧
      (after .imageReadEnd (s 0 (recordText r ++ [0x0D#8]))).link.tx = replyText 0 (chars "PLAN") "OK" [.num 0] ∧
      m.good = true ∧ { m with valid := false }.good = false ∧
      { m with settings := { w with plain := { w.plain with ppk := 999 } } }.good = false ∧
      { m with settings := { w with stn := modAt w.stn 1 fun _ => some ⟨1, .cab⟩ } }.good = false ∧
      { m with settings := { w with cal := modAt w.cal 0 fun c => { c with cHi := c.cLo } } }.good = false := by decide

/-- R127, log entry 51: a station entry that a waiting SETV changes is in force in the first poll cycle. -/
theorem test_waiting_setv_first_cycle :
    let text := recordText ⟨0, .setv, [.word "STN1", .num 0]⟩ ++ [0x0D#8]
    let s := { State.reset with link := { State.reset.link with fifo := text.map fun x => ⟨x, false, false⟩ } }
    let polled := after .pollCycleStart (after .imageReadEnd s)
    (polled.bus.stations[(0 : Fin 6)]).entry = none ∧ polled.bus.current = some 1 := by decide

theorem test_witness_EventFrames :
    (∃ u, exec .stall running = .next u) ∧ (∃ u, exec .pollCycleStart idle = .next u) ∧
      (∃ u, exec .saveEnd idle = .next u) ∧ (∃ u, exec (.doortimeExpiry .near) (moving .opening) = .next u) :=
  ⟨⟨_, rfl⟩, ⟨_, rfl⟩, ⟨_, rfl⟩, _, rfl⟩

end Sys2Proof.Tests
end

section
/-!
SUPPORT. The counters: what an event of their sources and the passing of time do to them and to the rest of the state
(R76, R163 to R169).
-/

namespace Sys2Proof.Machine

/-! ### Tables of a fixed length -/

theorem vector_all_iff {α : Type} {n : Nat} (v : Vector α n) (p : α → Bool) :
    v.toList.all p = true ↔ ∀ i : Fin n, p v[i] = true := by
  rw [List.all_eq_true]
  constructor
  · intro h i
    exact h _ (by simp [Vector.mem_toList_iff])
  · intro h x hx
    obtain ⟨i, hi, rfl⟩ := Vector.getElem_of_mem (Vector.mem_toList_iff.mp hx)
    exact h ⟨i, hi⟩

theorem vector_any_iff {α : Type} {n : Nat} (v : Vector α n) (p : α → Bool) :
    v.toList.any p = true ↔ ∃ i : Fin n, p v[i] = true := by
  rw [List.any_eq_true]
  constructor
  · rintro ⟨x, hx, h⟩
    obtain ⟨i, hi, rfl⟩ := Vector.getElem_of_mem (Vector.mem_toList_iff.mp hx)
    exact ⟨⟨i, hi⟩, h⟩
  · rintro ⟨i, h⟩
    exact ⟨_, by simp [Vector.mem_toList_iff], h⟩

@[simp] theorem mapAt_getElem {α β : Type} {n : Nat} (v : Vector α n) (f : Fin n → α → β) (k : Nat) (h : k < n) :
    (mapAt v f)[k] = f ⟨k, h⟩ v[k] := by simp [mapAt]

@[simp] theorem modAt_getElem {α : Type} {n : Nat} (v : Vector α n) (i : Fin n) (f : α → α) (k : Nat) (h : k < n) :
    (modAt v i f)[k] = if (⟨k, h⟩ : Fin n) = i then f v[k] else v[k] := by simp [modAt]

/-! ### One counter (R162, R166, R167) -/

theorem Counter.valid_iff (c : Counter) :
    c.valid = true ↔ c.threshold ≤ Config.counterMax ∧ c.value ≤ Config.counterMax ∧ c.residue ≤ 99 := by
  simp [Counter.valid, and_assoc]

theorem Counter.raise_valid {c : Counter} (h : c.valid = true) (amount shown : Nat) :
    (c.raise amount shown).1.valid = true := by
  rw [Counter.valid_iff] at h
  unfold Counter.raise
  dsimp only
  repeat' split
  all_goals
    rw [Counter.valid_iff]
    dsimp only
    omega

theorem Counter.take_valid {c : Counter} (h : c.valid = true) (src : List Source) (o : Option Origin)
    (side : Option Side) (load : Nat) : (c.take src o side load).1.valid = true := by
  unfold Counter.take
  split
  · exact Counter.raise_valid h _ _
  · exact h

theorem Counter.elapse_valid {c : Counter} (h : c.valid = true) (ms : Nat) : (c.elapse ms).1.valid = true := by
  refine Counter.raise_valid ?_ _ _
  rw [Counter.valid_iff] at h ⊢
  dsimp only
  omega

/-- A counter raised keeps its derate flag, and its reached flag stays set (R168). -/
theorem Counter.raise_derates {c : Counter} (h : c.derates = true) (amount shown : Nat) :
    (c.raise amount shown).1.derates = true := by
  unfold Counter.raise Counter.derates at *
  dsimp only
  repeat' split
  all_goals simp_all

theorem Counter.take_derates {c : Counter} (h : c.derates = true) (src : List Source) (o : Option Origin)
    (side : Option Side) (load : Nat) : (c.take src o side load).1.derates = true := by
  unfold Counter.take
  split
  · exact Counter.raise_derates h _ _
  · exact h

/-! ### The counters within their ranges -/

/-- The counters as they stand in the midst of an event: each within its ranges, and derating as their flags have it
(R162, R169). -/
structure Counters.Ranged (c : Counters) : Prop where
  valid : ∀ i : Fin 8, (c.recs[i]).valid = true
  derating : c.derating = c.recs.toList.any Counter.derates

/-- No `SERVICE` notice of the event waits (R168). -/
def Counters.Served (c : Counters) : Prop := ∀ i : Fin 8, c.service[i] = none

theorem Counters.wf_iff (c : Counters) : c.wf = true ↔ c.Ranged ∧ c.Served := by
  simp only [Counters.wf, Bool.and_eq_true, beq_iff_eq, vector_all_iff, Option.isNone_iff_eq_none]
  exact ⟨fun ⟨⟨v, d⟩, s⟩ => ⟨⟨v, d⟩, s⟩, fun ⟨⟨v, d⟩, s⟩ => ⟨⟨v, d⟩, s⟩⟩

/-! ### What counting does to the state -/

/-- The record flagged `DERATED` (R76). -/
def Record.derate (r : Record) : Record := { r with flags := { r.flags with derated := true } }

/-- The state's `t` differs from `s` by counting alone: the counters, the notices and the clock, and, where derating has
become active, the FAST pump run that goes to CREEP with its record flagged `DERATED` (R76). -/
structure State.Counts (s t : State) : Prop where
  rest : t = { s with now := t.now, cnt := t.cnt, notes := t.notes, axis := t.axis, plan := t.plan }
  slowed : (t.axis = s.axis ∧ t.plan = s.plan) ∨
    ∃ run x, s.axis.run = some run ∧ s.arb.pack = some x ∧ run.pump = true ∧ run.cls = some .fast ∧
      t.axis = (s.creepRun run).axis ∧ t.plan = (s.upd x.handle Record.derate).plan

theorem State.Counts.same {s t : State} (rest : t = { s with now := t.now, cnt := t.cnt, notes := t.notes } := by rfl) :
    s.Counts t := by
  refine ⟨?_, .inl ⟨?_, ?_⟩⟩ <;> rw [rest]

theorem State.Counts.refl (s : State) : s.Counts s := .same

section
variable {s t u : State}

theorem State.Counts.fresh (c : s.Counts t) : t.fresh = s.fresh := by rw [c.rest]
theorem State.Counts.settings (c : s.Counts t) : t.settings = s.settings := by rw [c.rest]
theorem State.Counts.halt (c : s.Counts t) : t.halt = s.halt := by rw [c.rest]
theorem State.Counts.inputs (c : s.Counts t) : t.inputs = s.inputs := by rw [c.rest]
theorem State.Counts.eval (c : s.Counts t) : t.eval = s.eval := by rw [c.rest]
theorem State.Counts.arb (c : s.Counts t) : t.arb = s.arb := by rw [c.rest]
theorem State.Counts.near (c : s.Counts t) : t.near = s.near := by rw [c.rest]
theorem State.Counts.off (c : s.Counts t) : t.off = s.off := by rw [c.rest]
theorem State.Counts.conv (c : s.Counts t) : t.conv = s.conv := by rw [c.rest]
theorem State.Counts.bus (c : s.Counts t) : t.bus = s.bus := by rw [c.rest]
theorem State.Counts.beac (c : s.Counts t) : t.beac = s.beac := by rw [c.rest]
theorem State.Counts.link (c : s.Counts t) : t.link = s.link := by rw [c.rest]

theorem State.Counts.door (c : s.Counts t) (side : Side) : t.door side = s.door side := by
  cases side
  · exact c.near
  · exact c.off

/-- A run that is not a FAST pump run is left as it is. -/
theorem State.Counts.unslowed (c : s.Counts t) (h : ∀ run, s.axis.run = some run → run.cls ≠ some .fast ∨ run.pump = false) :
    t.axis = s.axis ∧ t.plan = s.plan := by
  obtain same | ⟨run, x, hr, -, hp, hc, -⟩ := c.slowed
  · exact same
  · rcases h run hr with h | h
    · exact absurd hc h
    · rw [h] at hp
      cases hp

theorem State.Counts.trans (a : s.Counts t) (b : t.Counts u) : s.Counts u := by
  refine ⟨?_, ?_⟩
  · rw [b.rest, a.rest]
  · obtain ⟨ha, hp⟩ | ⟨run, x, hr, hx, hp, hc, ha, hpl⟩ := a.slowed
    · have hs := b.slowed
      rw [a.arb, ha, hp] at hs
      refine hs.imp id fun ⟨run, x, hr, hx, hrp, hc, hax, hpl⟩ => ⟨run, x, hr, hx, hrp, hc, ?_, ?_⟩
      · rw [hax, State.creepRun, State.creepRun, ha]
      · rw [hpl, State.upd, State.upd, hp]
    · have same := b.unslowed fun run' hr' => .inl <| by
        rw [ha] at hr'
        cases hr'
        simp
      exact .inr ⟨run, x, hr, hx, hp, hc, same.1.trans ha, same.2.trans hpl⟩
end

theorem State.slowRun_counts (s : State) : s.Counts s.slowRun := by
  unfold State.slowRun
  split
  · next run x hr hx =>
    split
    · next h => exact ⟨rfl, .inr ⟨run, x, hr, hx, h.1, h.2, rfl, rfl⟩⟩
    · exact .refl s
  · exact .refl s

theorem State.decideDerating_counts (s : State) : s.Counts s.decideDerating := by
  unfold State.decideDerating
  dsimp only
  split
  · exact State.Counts.trans .same (State.slowRun_counts _)
  · exact .same

theorem State.applyCounters_counts (s : State) (f : Fin 8 → Counter → Counter × Option Nat) :
    s.Counts (s.applyCounters f) :=
  State.Counts.trans .same (State.decideDerating_counts _)

theorem State.notify_counts (s : State) (n : Notice) : s.Counts (s.notify n) := .same

theorem State.notifyAll_counts : ∀ (ns : List Notice) (s : State), s.Counts (ns.foldl State.notify s)
  | [], s => .refl s
  | n :: ns, s => (s.notify_counts n).trans (State.notifyAll_counts ns _)

theorem State.queueServices_counts (s : State) : s.Counts s.queueServices :=
  (State.notifyAll_counts _ s).trans .same

theorem State.count_counts (s : State) (src : List Source) (o : Option Origin) (side : Option Side) (load : Nat) :
    s.Counts (s.count src o side load) := by
  unfold State.count
  split
  · exact .refl s
  · exact s.applyCounters_counts _

theorem State.passTime_counts (s : State) (ms : Nat) : s.Counts (s.passTime ms) := by
  unfold State.passTime
  dsimp only
  split
  · exact .same
  · exact (State.Counts.trans .same (State.applyCounters_counts _ _)).trans (State.queueServices_counts _)

theorem State.passTo_counts (s : State) (t : Nat) : s.Counts (s.passTo t) := s.passTime_counts _

/-! ### What counting does to the counters -/

theorem State.slowRun_cnt (s : State) : s.slowRun.cnt = s.cnt := by
  unfold State.slowRun
  repeat' split
  all_goals rfl

theorem State.decideDerating_cnt (s : State) :
    s.decideDerating.cnt = { s.cnt with derating := s.cnt.recs.toList.any Counter.derates } := by
  unfold State.decideDerating
  dsimp only
  split
  · exact State.slowRun_cnt _
  · rfl

theorem State.queueServices_cnt (s : State) :
    s.queueServices.cnt = { s.cnt with service := Vector.replicate 8 none } := rfl

theorem State.queueServices_served (s : State) : s.queueServices.cnt.Served := fun i => by
  simp [State.queueServices_cnt]

theorem State.applyCounters_recs (s : State) (f : Fin 8 → Counter → Counter × Option Nat) (i : Fin 8) :
    (s.applyCounters f).cnt.recs[i] = (f i s.cnt.recs[i]).1 := by
  simp [State.applyCounters, State.decideDerating_cnt]

theorem State.applyCounters_ranged {s : State} {f : Fin 8 → Counter → Counter × Option Nat}
    (hf : ∀ i c, c.valid = true → (f i c).1.valid = true) (h : s.cnt.Ranged) : (s.applyCounters f).cnt.Ranged where
  valid i := by
    rw [State.applyCounters_recs]
    exact hf i _ (h.valid i)
  derating := by
    rw [State.applyCounters, State.decideDerating_cnt]

theorem State.count_ranged {s : State} (h : s.cnt.Ranged) (src : List Source) (o : Option Origin) (side : Option Side)
    (load : Nat) : (s.count src o side load).cnt.Ranged := by
  unfold State.count
  split
  · exact h
  · exact State.applyCounters_ranged (fun _ _ v => Counter.take_valid v _ _ _ _) h

theorem State.queueServices_ranged {s : State} (h : s.cnt.Ranged) : s.queueServices.cnt.Ranged := by
  rw [State.queueServices_cnt]
  exact ⟨h.valid, h.derating⟩

theorem State.passTime_ranged {s : State} (h : s.cnt.Ranged) (ms : Nat) : (s.passTime ms).cnt.Ranged := by
  unfold State.passTime
  dsimp only
  split
  · exact h
  · refine State.queueServices_ranged (State.applyCounters_ranged (fun _ c v => ?_) h)
    split
    · exact Counter.elapse_valid v _
    · exact v

/-- The passing of time leaves no `SERVICE` notice to queue: it queues its own (R166, R168). -/
theorem State.passTime_served {s : State} (h : s.cnt.Served) (ms : Nat) : (s.passTime ms).cnt.Served := by
  unfold State.passTime
  dsimp only
  split
  · exact h
  · exact State.queueServices_served _

end Sys2Proof.Machine
end

section
/-!
SUPPORT. The pattern clock and the ranges of the counters through the operations of the records, the drives and the
beacons: one lemma for each shared operation, in terms of `State.Paced` (R147, R162, R169).
-/

namespace Sys2Proof.Machine

/-- From `s` to `t` the pattern clock stands, and counters within their ranges stay within them. -/
structure State.Paced (s t : State) : Prop where
  slot : t.beac.slot = s.beac.slot
  nextAt : t.beac.nextAt = s.beac.nextAt
  ranged : s.cnt.Ranged → t.cnt.Ranged

theorem State.Paced.refl (s : State) : s.Paced s := ⟨rfl, rfl, id⟩

theorem State.Paced.trans {s t u : State} (a : s.Paced t) (b : t.Paced u) : s.Paced u :=
  ⟨b.slot.trans a.slot, b.nextAt.trans a.nextAt, fun h => b.ranged (a.ranged h)⟩

theorem State.Paced.foldl {α : Type} (f : State → α → State) (hf : ∀ (s : State) (x : α), s.Paced (f s x)) :
    ∀ (xs : List α) (s : State), s.Paced (xs.foldl f s)
  | [], s => .refl s
  | x :: xs, s => (hf s x).trans (State.Paced.foldl f hf xs (f s x))

/-- An update that leaves the counters and the pattern clock alone. -/
theorem State.Paced.same {s t : State} (cnt : t.cnt = s.cnt := by rfl) (slot : t.beac.slot = s.beac.slot := by rfl)
    (nextAt : t.beac.nextAt = s.beac.nextAt := by rfl) : s.Paced t := ⟨slot, nextAt, fun h => cnt ▸ h⟩

/-! ### Counting and time -/

theorem State.Counts.paced {s t : State} (c : s.Counts t) (h : s.cnt.Ranged → t.cnt.Ranged) : s.Paced t :=
  ⟨by rw [c.beac], by rw [c.beac], h⟩

theorem State.count_paced (s : State) (src : List Source) (o : Option Origin) (side : Option Side) (load : Nat) :
    s.Paced (s.count src o side load) :=
  (s.count_counts src o side load).paced fun h => State.count_ranged h src o side load

theorem State.queueServices_paced (s : State) : s.Paced s.queueServices :=
  s.queueServices_counts.paced State.queueServices_ranged

theorem State.passTime_paced (s : State) (ms : Nat) : s.Paced (s.passTime ms) :=
  (s.passTime_counts ms).paced fun h => State.passTime_ranged h ms

theorem State.passTo_paced (s : State) (t : Nat) : s.Paced (s.passTo t) := s.passTime_paced _

/-! ### Runs and doors -/

theorem State.pumpStart_paced (s : State) (o : Origin) : s.Paced (s.pumpStart o) :=
  State.Paced.trans .same (State.count_paced _ _ _ _ _)

theorem State.enterRunning_paced (s : State) (h : Handle) : s.Paced (s.enterRunning h) := by
  unfold State.enterRunning
  split
  · dsimp only
    split
    · exact State.Paced.trans .same (State.pumpStart_paced _ _)
    · exact .same
  · exact .refl s

theorem State.leaveRun_paced (s : State) : s.Paced s.leaveRun := by
  unfold State.leaveRun State.storeLoad
  repeat' split
  all_goals exact .same

theorem State.hold_paced (s : State) (h : Handle) (c : Cond) : s.Paced (s.hold h c) := by
  unfold State.hold
  split
  · dsimp only
    refine State.Paced.trans ?_ (State.count_paced _ _ _ _ _)
    split
    · exact s.leaveRun_paced.trans .same
    · exact .same
  · exact .refl s

theorem State.coastStop_paced (s : State) (h : Handle) : s.Paced (s.coastStop h) := s.leaveRun_paced.trans .same

theorem State.proceed_paced (s : State) (r : Record) : s.Paced (s.proceed r) := by
  unfold State.proceed
  split
  · exact s.hold_paced _ _
  · split
    · exact .same
    · exact s.enterRunning_paced _

theorem State.setDoor_paced (s : State) (side : Side) (d : Door) : s.Paced (s.setDoor side d) := by
  cases side <;> exact .same

theorem State.enterPhase_paced (s : State) (side : Side) (p : Phase) : s.Paced (s.enterPhase side p) := by
  cases side <;> exact .same

/-! ### Endings -/

theorem State.stopOutputs_paced (s : State) (r : Record) : s.Paced (s.stopOutputs r) := by
  unfold State.stopOutputs
  split
  · split
    · exact s.setDoor_paced _ _
    · exact .refl s
  · split
    · exact s.leaveRun_paced
    · exact .refl s

theorem State.release_paced (s : State) (r : Record) (moved : Bool) : s.Paced (s.release r moved) := by
  unfold State.release
  cases r.side with
  | some side =>
    dsimp only
    split
    · cases moved <;> cases side <;> exact .same
    · exact .refl s
  | none =>
    dsimp only
    split
    · cases moved <;> exact .same
    · exact .refl s

theorem State.endOne_paced (s : State) (h : Handle) (o : RecOutcome) (why : Option EndReason) :
    s.Paced (s.endOne h o why) := by
  unfold State.endOne
  split
  · exact .refl s
  · next r _ =>
    refine State.Paced.trans ?_ (State.count_paced _ _ _ _ _)
    refine State.Paced.trans ?_ (State.release_paced _ _ _)
    exact (s.stopOutputs_paced r).trans .same

theorem State.endChain_paced :
    ∀ (fuel : Nat) (s : State) (h : Handle) (o : RecOutcome) (why : Option EndReason), s.Paced (s.endChain fuel h o why)
  | 0, s, _, _, _ => .refl s
  | fuel + 1, s, h, o, why => by
    unfold State.endChain
    refine (s.endOne_paced h o why).trans ?_
    cases o with
    | done => exact State.Paced.foldl _ (fun _ _ => .same) _ _
    | stopped => exact State.Paced.foldl _ (fun t k => State.endChain_paced fuel t k _ _) _ _
    | failed => exact State.Paced.foldl _ (fun t k => State.endChain_paced fuel t k _ _) _ _
    | cancelled => exact State.Paced.foldl _ (fun t k => State.endChain_paced fuel t k _ _) _ _

theorem State.endTree_paced (s : State) (h : Handle) (o : RecOutcome) (why : Option EndReason) :
    s.Paced (s.endTree h o why) := State.endChain_paced _ _ _ _ _

theorem State.endEach_paced (s : State) (hs : List Handle) (o : RecOutcome) (why : Option EndReason) :
    s.Paced (s.endEach hs o why) := State.Paced.foldl _ (fun t h => t.endOne_paced h o why) _ _

theorem State.linkLostEnds_paced (s : State) : s.Paced s.linkLostEnds := by
  refine State.Paced.foldl _ (fun t r => ?_) _ _
  cases r.origin with
  | link => exact (t.endOne_paced _ _ _).trans (State.Paced.foldl _ (fun t k => t.endTree_paced k _ _) _ _)
  | station i => exact .refl t

theorem State.endDoor_paced (s : State) (side : Side) (o : RecOutcome) (why : Option EndReason) :
    s.Paced (s.endDoor side o why) := by
  unfold State.endDoor
  split
  · exact s.endTree_paced _ _ _
  · exact .refl s

/-! ### Grants and looks -/

theorem State.setWaits_paced (s : State) (rs : List Record) (w : WaitReason) : s.Paced (s.setWaits rs w) :=
  State.Paced.foldl _ (fun _ _ => .same) _ _

theorem State.afterGrant_paced (s : State) (h : Handle) (pump : Bool) : s.Paced (s.afterGrant h pump) := by
  unfold State.afterGrant
  split
  · split
    · exact .same
    · exact s.enterRunning_paced _
  · exact .same

theorem State.grantPack_paced (s : State) (r : Record) : s.Paced (s.grantPack r) := by
  unfold State.grantPack
  dsimp only
  split
  · exact State.Paced.trans .same (State.endTree_paced _ _ _ _)
  · exact State.Paced.trans .same (State.afterGrant_paced _ _ _)

theorem State.lookPack_paced (s : State) : s.Paced s.lookPack := by
  unfold State.lookPack
  split
  · exact .refl s
  · next r rest _ =>
    refine (s.setWaits_paced rest .pack).trans ?_
    dsimp only
    repeat' split
    case isFalse.isFalse.isFalse => exact State.grantPack_paced _ _
    all_goals exact .same

theorem State.grantDoor_paced (s : State) (side : Side) (r : Record) : s.Paced (s.grantDoor side r) := by
  unfold State.grantDoor
  dsimp only
  split
  · exact State.Paced.trans .same (State.enterPhase_paced _ _ _)
  · exact State.Paced.trans .same (State.endTree_paced _ _ _ _)

theorem State.lookDoor_paced (s : State) (side : Side) : s.Paced (s.lookDoor side) := by
  unfold State.lookDoor
  split
  · exact .refl s
  · next r rest _ =>
    refine (s.setWaits_paced rest .channel).trans ?_
    dsimp only
    repeat' split
    case isFalse.isFalse => exact State.grantDoor_paced _ _ _
    all_goals exact .same

theorem State.looks_paced : ∀ (fuel : Nat) (s : State), s.Paced (s.looks fuel)
  | 0, s => .refl s
  | fuel + 1, s => by
    have once : s.Paced s.lookOnce := (s.lookPack_paced.trans (State.lookDoor_paced _ _)).trans (State.lookDoor_paced _ _)
    unfold State.looks
    dsimp only
    split
    · exact once.trans (State.looks_paced fuel _)
    · exact once

/-! ### The close of an event -/

theorem State.judge_paced (s : State) (h : Handle) : s.Paced (s.judge h) := by
  unfold State.judge
  cases s.find h with
  | none => exact .refl s
  | some r =>
    dsimp only
    cases r.state <;> dsimp only <;> repeat' split
    all_goals
      first
      | exact .refl s
      | exact s.endTree_paced _ _ _
      | exact s.hold_paced _ _
      | exact s.proceed_paced _
      | exact s.enterRunning_paced _
      | exact .same

theorem State.report_paced (s : State) : s.Paced s.report := State.Paced.foldl _ State.judge_paced _ _

theorem State.driveAway_paced (s : State) : s.Paced s.driveAway := by
  unfold State.driveAway
  dsimp only
  split <;> exact .same

theorem State.conclude_paced (s : State) : s.Paced s.conclude :=
  (((s.report_paced.trans (State.looks_paced _ _)).trans (State.driveAway_paced _)).trans
    (State.Paced.same (t := State.resolveAll _))).trans (State.queueServices_paced _)

/-- The close of an event leaves no `SERVICE` notice to queue (R168). -/
theorem State.conclude_served (s : State) : s.conclude.cnt.Served := State.queueServices_served _

end Sys2Proof.Machine
end

section
/-!
SUPPORT. Handles and the bounds of the state: which handle is allocated (R4), and what every operation of the part keeps
in the midst of an event, said as one relation between the states before and after it.
-/

namespace Sys2Proof.Machine

/-! ### The first free value (R4) -/

/-- The value `d` places after `n` in 1..255, cyclically. -/
def cycled (n d : Nat) : Nat := (n - 1 + d) % 255 + 1

theorem cycled_zero {n : Nat} (h1 : 1 ≤ n) (h2 : n ≤ 255) : cycled n 0 = n := by
  unfold cycled
  omega

theorem succ255_range (n : Nat) : 1 ≤ succ255 n ∧ succ255 n ≤ 255 := by
  unfold succ255
  split <;> omega

theorem cycled_succ {n : Nat} (h1 : 1 ≤ n) (h2 : n ≤ 255) (d : Nat) : cycled (succ255 n) d = cycled n (d + 1) := by
  unfold cycled succ255
  split <;> omega

theorem cycled_injective {n d e : Nat} (hd : d < 255) (he : e < 255) (h : cycled n d = cycled n e) : d = e := by
  unfold cycled at h
  omega

/-- The search finds the first value that is not in use, or every value it tries is in use. -/
theorem firstFree_spec (used : List Nat) :
    ∀ (fuel n : Nat), 1 ≤ n → n ≤ 255 →
      (∃ d < fuel, firstFree used fuel n = cycled n d ∧ cycled n d ∉ used ∧ ∀ e < d, cycled n e ∈ used) ∨
        ∀ e < fuel, cycled n e ∈ used
  | 0, _, _, _ => .inr fun _ h => absurd h (Nat.not_lt_zero _)
  | fuel + 1, n, h1, h2 => by
    have h0 := cycled_zero h1 h2
    unfold firstFree
    split
    · next hn =>
      have first {e : Nat} (later : ∀ d, e = d + 1 → cycled n e ∈ used) : cycled n e ∈ used := by
        cases e with
        | zero => rwa [h0]
        | succ d => exact later d rfl
      obtain ⟨d, hd, he, hf, hb⟩ | hall := firstFree_spec used fuel (succ255 n) (succ255_range n).1 (succ255_range n).2
      · rw [cycled_succ h1 h2] at he hf
        refine .inl ⟨d + 1, by omega, he, hf, fun e h => first fun k hk => ?_⟩
        rw [hk, ← cycled_succ h1 h2]
        exact hb k (by omega)
      · refine .inr fun e h => first fun k hk => ?_
        rw [hk, ← cycled_succ h1 h2]
        exact hall k (by omega)
    · next hn => exact .inl ⟨0, by omega, h0.symm, h0.symm ▸ hn, fun e h => absurd h (Nat.not_lt_zero e)⟩

theorem firstFree_range (used : List Nat) : ∀ (fuel n : Nat), 1 ≤ n → n ≤ 255 →
    1 ≤ firstFree used fuel n ∧ firstFree used fuel n ≤ 255
  | 0, _, h1, h2 => ⟨h1, h2⟩
  | fuel + 1, n, h1, h2 => by
    unfold firstFree
    split
    · exact firstFree_range used fuel _ (succ255_range n).1 (succ255_range n).2
    · exact ⟨h1, h2⟩

/-- With fewer than 255 values in use the search finds a free one. -/
theorem firstFree_free {used : List Nat} (l : used.length < 255) {n : Nat} (h1 : 1 ≤ n) (h2 : n ≤ 255) :
    ∃ d < 255, firstFree used 255 n = cycled n d ∧ cycled n d ∉ used ∧ ∀ e < d, cycled n e ∈ used := by
  refine (firstFree_spec used 255 n h1 h2).resolve_right fun hall => ?_
  have inj : ((List.range 255).map (cycled n)).Nodup :=
    List.Nodup.map_on (fun d hd e he h => cycled_injective (List.mem_range.mp hd) (List.mem_range.mp he) h)
      List.nodup_range
  have sub : (List.range 255).map (cycled n) ⊆ used := by
    intro x hx
    obtain ⟨e, he, rfl⟩ := List.mem_map.mp hx
    exact hall e (List.mem_range.mp he)
  have := (inj.subperm sub).length_le
  simp at this
  omega

/-! ### Handles in good order -/

theorem Plan.bounded_iff (p : Plan) : p.bounded = true ↔ p.records.length ≤ 12 ∧ p.recent.length ≤ 8 := by
  simp [Plan.bounded]

theorem Plan.handlesGood_iff (p : Plan) :
    p.handlesGood = true ↔
      p.used.Nodup ∧ (∀ h ∈ p.used, 1 ≤ h ∧ h ≤ 255) ∧ (1 ≤ p.nextHandle ∧ p.nextHandle ≤ 255) ∧
        1 ≤ p.nextSeq ∧ p.nextSeq ≤ 255 := by
  simp [Plan.handlesGood, and_assoc]

/-- In a bounded table the new handle is the first free one from the counter on (R4). -/
theorem Plan.newHandle_first {p : Plan} (hb : p.bounded = true) (hg : p.handlesGood = true) :
    ∃ d < 255, p.newHandle = cycled p.nextHandle d ∧ p.newHandle ∉ p.used ∧ ∀ e < d, cycled p.nextHandle e ∈ p.used := by
  obtain ⟨hr, hc⟩ := (Plan.bounded_iff p).mp hb
  obtain ⟨-, -, ⟨h1, h2⟩, -⟩ := (Plan.handlesGood_iff p).mp hg
  have l : p.used.length < 255 := by
    simp only [Plan.used, List.length_append, List.length_map]
    omega
  obtain ⟨d, hd, he, hf, hall⟩ := firstFree_free l h1 h2
  exact ⟨d, hd, he, by rw [Plan.newHandle, he]; exact hf, hall⟩

theorem State.Thins.handlesGood {s t : State} (a : s.Thins t) (h : s.plan.handlesGood = true) :
    t.plan.handlesGood = true := by
  rw [Plan.handlesGood_iff] at h ⊢
  obtain ⟨nd, range, hn, hs⟩ := h
  exact ⟨a.nodup nd, fun k hk => range k (a.used k hk), a.nextHandle ▸ hn, a.nextSeq ▸ hs⟩

/-- Handles in good order are distinct in the table. -/
theorem State.handles_nodup {s : State} (h : s.plan.handlesGood = true) : s.handles.Nodup :=
  (List.nodup_append.mp ((Plan.handlesGood_iff _).mp h).1).1

/-- With distinct handles a record of the table is the one found under its handle. -/
theorem State.find_of_mem {s : State} (nd : s.handles.Nodup) {r : Record} (hr : r ∈ s.plan.records) :
    s.find r.handle = some r := by
  unfold State.find State.handles at *
  generalize s.plan.records = xs at *
  induction xs with
  | nil => cases hr
  | cons x xs ih =>
    rw [List.map_cons, List.nodup_cons] at nd
    rcases List.mem_cons.mp hr with rfl | hr
    · simp
    · have ne : x.handle ≠ r.handle := fun e => nd.1 (e ▸ List.mem_map_of_mem hr)
      rw [List.find?_cons_of_neg (by simpa using ne)]
      exact ih nd.2 hr

/-! ### The queue of notices (R190, R191) -/

theorem NoticeQueue.push_wf {q : NoticeQueue} (h : q.wf = true) (n : Notice) : (q.push n).wf = true := by
  unfold NoticeQueue.push NoticeQueue.wf Config.noticeCap satSucc at *
  simp only [Bool.and_eq_true, decide_eq_true_eq, beq_iff_eq] at h
  obtain ⟨⟨hl, hc⟩, ha⟩ := h
  split
  · simp
    omega
  · simp only [Bool.and_eq_true, decide_eq_true_eq, beq_iff_eq]
    exact ⟨⟨hl, by omega⟩, ha⟩

theorem NoticeQueue.pushAll_wf {q : NoticeQueue} (h : q.wf = true) : ∀ ns : List Notice, (q.pushAll ns).wf = true
  | [] => h
  | n :: ns => NoticeQueue.pushAll_wf (NoticeQueue.push_wf h n) ns

/-! ### What every operation keeps -/

/-- The bounds that hold also in the midst of an event, where `SERVICE` notices may wait. -/
structure State.Bounded (s : State) : Prop where
  notes : s.notes.wf = true
  link : s.link.wf = true
  plan : s.plan.bounded = true
  cnt : s.cnt.Ranged
  beac : s.beac.wf = true
  empty : s.halt.set = true → s.plan.records = []

theorem State.inv_iff (s : State) : s.inv = true ↔ s.Bounded ∧ s.cnt.Served := by
  simp only [State.inv, Bool.and_eq_true, Counters.wf_iff, State.haltEmpty, Bool.or_eq_true, Bool.not_eq_true',
    List.isEmpty_iff]
  constructor
  · rintro ⟨⟨⟨⟨⟨n, l⟩, p⟩, c, v⟩, b⟩, e⟩
    exact ⟨⟨n, l, p, c, b, fun h => e.resolve_left (by simp [h])⟩, v⟩
  · rintro ⟨⟨n, l, p, c, b, e⟩, v⟩
    refine ⟨⟨⟨⟨⟨n, l⟩, p⟩, c, v⟩, b⟩, ?_⟩
    cases h : s.halt.set
    · exact .inl rfl
    · exact .inr (e h)

/-- An operation that leads from `s` to `t` keeps the bounds and the good order of the handles. -/
structure State.Keeps (s t : State) : Prop where
  bounded : s.Bounded → t.Bounded
  handles : s.Bounded → s.plan.handlesGood = true → t.plan.handlesGood = true

theorem State.Keeps.refl (s : State) : s.Keeps s := ⟨id, fun _ h => h⟩

theorem State.Keeps.trans {s t u : State} (a : s.Keeps t) (b : t.Keeps u) : s.Keeps u :=
  ⟨fun h => b.bounded (a.bounded h), fun h g => b.handles (a.bounded h) (a.handles h g)⟩

theorem State.Keeps.foldl {α : Type} (f : State → α → State) (hf : ∀ (s : State) (x : α), s.Keeps (f s x)) :
    ∀ (xs : List α) (s : State), s.Keeps (xs.foldl f s)
  | [], s => .refl s
  | x :: xs, s => (hf s x).trans (State.Keeps.foldl f hf xs (f s x))

/-- An operation that takes records away at most, counts and queues notices keeps the bounds; where it sets the halt
latch it must leave the table empty. -/
theorem State.Keeps.of_thins {s t : State} (a : s.Thins t) (b : s.Paced t) (notes : ∃ ns, t.notes = s.notes.pushAll ns)
    (link : s.link.wf = true → t.link.wf = true)
    (empty : t.halt.set = true → t.plan.records = [] ∨ s.halt.set = true) : s.Keeps t := by
  refine ⟨fun h => ?_, fun _ => a.handlesGood⟩
  obtain ⟨hr, hc⟩ := (Plan.bounded_iff _).mp h.plan
  obtain ⟨ns, hn⟩ := notes
  refine ⟨hn ▸ NoticeQueue.pushAll_wf h.notes ns, link h.link, ?_, b.ranged h.cnt, ?_, fun e => ?_⟩
  · exact (Plan.bounded_iff _).mpr ⟨Nat.le_trans a.length hr, a.recent hc⟩
  · have := h.beac
    unfold Beacons.wf at this ⊢
    rwa [b.slot, b.nextAt]
  · obtain e | e := empty e
    · exact e
    · have l := a.length
      rw [h.empty e] at l
      exact List.eq_nil_of_length_eq_zero (Nat.le_zero.mp l)

/-- What follows, takes records away at most and keeps the counters' ranges keeps the bounds. -/
theorem State.Keeps.of_follows {s t : State} (f : s.Follows t) (a : s.Thins t) (b : s.Paced t) : s.Keeps t :=
  .of_thins a b f.notes (fun h => f.link ▸ h) fun h => .inr (f.halt ▸ h)

/-- An update of what the bounds do not speak of; the halt latch may be cleared. -/
theorem State.Keeps.quiet {s t : State} (notes : t.notes = s.notes := by rfl) (link : t.link = s.link := by rfl)
    (plan : t.plan = s.plan := by rfl) (cnt : t.cnt = s.cnt := by rfl) (slot : t.beac.slot = s.beac.slot := by rfl)
    (nextAt : t.beac.nextAt = s.beac.nextAt := by rfl)
    (halt : t.halt.set = true → s.halt.set = true := by exact fun h => h) : s.Keeps t :=
  .of_thins (.same plan) (.same cnt slot nextAt) ⟨[], notes⟩ (fun h => link ▸ h) fun h => .inr (halt h)

/-- An update of the link alone that keeps its bounds. -/
theorem State.Keeps.link {s : State} {l : Link} (h : s.link.wf = true → l.wf = true) :
    s.Keeps { s with link := l } :=
  .of_thins .same .same ⟨[], rfl⟩ h .inr

theorem State.notify_keeps (s : State) (n : Notice) : s.Keeps (s.notify n) :=
  .of_thins .same .same ⟨[n], rfl⟩ id .inr

theorem State.conclude_keeps (s : State) : s.Keeps s.conclude :=
  .of_follows s.conclude_follows s.conclude_thins s.conclude_paced

theorem State.report_keeps (s : State) : s.Keeps s.report :=
  .of_follows s.report_follows s.report_thins s.report_paced

theorem State.passTo_keeps (s : State) (t : Nat) : s.Keeps (s.passTo t) :=
  .of_follows (s.passTo_follows t) (s.passTo_thins t) (s.passTo_paced t)

theorem State.count_keeps (s : State) (src : List Source) (o : Option Origin) (side : Option Side) (load : Nat) :
    s.Keeps (s.count src o side load) :=
  .of_follows (s.count_follows _ _ _ _) (s.count_thins _ _ _ _) (s.count_paced _ _ _ _)

theorem State.endTree_keeps (s : State) (h : Handle) (o : RecOutcome) (why : Option EndReason) :
    s.Keeps (s.endTree h o why) :=
  .of_follows (s.endTree_follows h o why) (s.endTree_thins h o why) (s.endTree_paced h o why)

theorem State.endEach_keeps (s : State) (hs : List Handle) (o : RecOutcome) (why : Option EndReason) :
    s.Keeps (s.endEach hs o why) :=
  .of_follows (s.endEach_follows hs o why) (s.endEach_thins hs o why) (s.endEach_paced hs o why)

theorem State.endDoor_keeps (s : State) (side : Side) (o : RecOutcome) (why : Option EndReason) :
    s.Keeps (s.endDoor side o why) :=
  .of_follows (s.endDoor_follows side o why) (s.endDoor_thins side o why) (s.endDoor_paced side o why)

theorem State.enterPhase_keeps (s : State) (side : Side) (p : Phase) : s.Keeps (s.enterPhase side p) :=
  .of_follows (s.enterPhase_follows side p) (s.enterPhase_thins side p) (s.enterPhase_paced side p)

theorem State.setDoor_keeps (s : State) (side : Side) (d : Door) : s.Keeps (s.setDoor side d) :=
  .of_follows (s.setDoor_follows side d) (s.setDoor_thins side d) (s.setDoor_paced side d)

theorem State.proceed_keeps (s : State) (r : Record) : s.Keeps (s.proceed r) :=
  .of_follows (s.proceed_follows r) (s.proceed_thins r) (s.proceed_paced r)

theorem State.linkLostEnds_keeps (s : State) : s.Keeps s.linkLostEnds :=
  .of_follows s.linkLostEnds_follows s.linkLostEnds_thins s.linkLostEnds_paced

theorem State.updLamp_keeps (s : State) (l : Lamp) (f : LampCh → LampCh) : s.Keeps (s.updLamp l f) := .quiet

theorem State.latchFault_keeps (s : State) (l : Lamp) (f : LampFault) : s.Keeps (s.latchFault l f) := by
  unfold State.latchFault
  split
  · exact .refl s
  · exact (s.updLamp_keeps _ _).trans (State.notify_keeps _ _)

/-! ### The halt latch and the admission of records -/

/-- A halt event follows but for the halt latch itself (R28). -/
theorem State.raiseHalt_follows (s : State) (c : Cause) : State.Follows { s with halt := (s.raiseHalt c).halt } (s.raiseHalt c) := by
  unfold State.raiseHalt
  split
  · split
    · exact State.notify_follows _ _
    · exact .refl s
  · dsimp only
    set m := State.notify { s with halt := HaltLatch.mark { s.halt with set := true, first := some c } c true } (.halted c)
    have f := (m.endEach_follows m.handles .cancelled (some .halted)).trans
      (State.count_follows _ [.halts] c.origin none (m.endEach m.handles .cancelled (some .halted)).axis.lastLoad)
    rw [f.halt]
    exact (State.notify_follows _ _).trans f

theorem HaltLatch.mark_set (l : HaltLatch) (c : Cause) (on : Bool) : (l.mark c on).set = l.set := by
  cases c <;> rfl

theorem State.raiseHalt_thins (s : State) (c : Cause) : s.Thins (s.raiseHalt c) := by
  unfold State.raiseHalt
  split
  · split <;> exact .same
  · exact (State.Thins.trans .same (State.endEach_thins _ _ _ _)).trans (State.count_thins _ _ _ _ _)

theorem State.raiseHalt_paced (s : State) (c : Cause) : s.Paced (s.raiseHalt c) := by
  unfold State.raiseHalt
  split
  · split <;> exact .same
  · exact (State.Paced.trans .same (State.endEach_paced _ _ _ _)).trans (State.count_paced _ _ _ _ _)

theorem State.raiseHalt_keeps (s : State) (c : Cause) : s.Keeps (s.raiseHalt c) := by
  have f := s.raiseHalt_follows c
  refine .of_thins (s.raiseHalt_thins c) (s.raiseHalt_paced c) f.notes (fun h => f.link ▸ h) fun _ => ?_
  cases h : s.halt.set
  · exact .inl (State.raiseHalt_clear h c).1
  · exact .inr rfl

theorem State.compete_handle (s : State) (r : Record) : (s.compete r).handle = r.handle := by
  unfold State.compete
  exact s.entry_handle _

/-- The table after an admission: one record more, with the new handle (R3, R4). -/
theorem State.enrol_records (s : State) (a : Ask) :
    ∃ r, (s.enrol a).plan.records = s.plan.records ++ [r] ∧ r.handle = s.plan.newHandle ∧
      r = if a.pred.isSome then s.make a else s.compete (s.make a) := by
  refine ⟨_, rfl, ?_, rfl⟩
  split
  · rfl
  · exact s.compete_handle _

/-- With the halt latch clear and a free entry, an admission keeps the bounds (R3, R28). -/
theorem State.enrol_keeps {s : State} (a : Ask) (hh : s.halt.set = false) (hl : s.plan.records.length < 12) :
    s.Keeps (s.enrol a) := by
  obtain ⟨r, hr, hn, -⟩ := s.enrol_records a
  refine ⟨fun h => ?_, fun h g => ?_⟩
  · refine ⟨h.notes, h.link, ?_, h.cnt, h.beac, fun e => ?_⟩
    · rw [Plan.bounded_iff, hr, List.length_append]
      exact ⟨Nat.succ_le_of_lt hl, ((Plan.bounded_iff _).mp h.plan).2⟩
    · cases hh.symm.trans e
  · obtain ⟨d, -, -, hfree, -⟩ := Plan.newHandle_first h.plan g
    obtain ⟨nd, range, hnext, hseq⟩ := (Plan.handlesGood_iff _).mp g
    have new := firstFree_range s.plan.used 255 s.plan.nextHandle hnext.1 hnext.2
    have used : (s.enrol a).plan.used =
        s.plan.records.map (·.handle) ++ s.plan.newHandle :: s.plan.recent.map (·.handle) := by
      rw [Plan.used, hr]
      simp [hn, State.enrol]
    rw [Plan.handlesGood_iff, used]
    refine ⟨List.nodup_middle.mpr (List.nodup_cons.mpr ⟨hfree, nd⟩), fun k hk => ?_, succ255_range _, hseq⟩
    rcases List.mem_cons.mp (List.perm_middle.mem_iff.mp hk) with hk | hk
    · exact hk ▸ new
    · exact range k hk

end Sys2Proof.Machine
end

section
/-!
SUPPORT. What the commands of the doors, the pins, the supply and the converter keep and leave as it is: for each block
one relation, and one lemma for each operation (R31 to R34, R56 to R66, R93 to R105, R110 to R125).
-/

namespace Sys2Proof.Machine

/-! ### Doors (R94 to R105) -/

theorem State.countDue_keeps (s : State) (side : Side) : s.Keeps (s.countDue side) := by
  cases side <;> exact .quiet

theorem State.settleDoor_keeps (s : State) (side : Side) (o : RecOutcome) (why : Option EndReason) :
    s.Keeps (s.settleDoor side o why) :=
  (s.countDue_keeps side).trans (State.endDoor_keeps _ _ _ _)

theorem State.obstruct_keeps (s : State) (side : Side) (b : Bool) : s.Keeps (s.obstruct side b) := by
  unfold State.obstruct
  split
  · split
    · exact s.enterPhase_keeps _ _
    · exact s.settleDoor_keeps _ _ _
  · exact s.settleDoor_keeps _ _ _
  all_goals exact .refl s

theorem State.failDoor_keeps (s : State) (side : Side) (t : Nat) (why : EndReason) : s.Keeps (s.failDoor side t why) :=
  ((s.passTo_keeps t).trans (State.settleDoor_keeps _ _ _ _)).trans (State.conclude_keeps _)

/-! ### Pins, supply and road speed -/

/-- What an event of a pin, of the supply or of the road speed keeps and leaves as it is. -/
structure State.Samples (s t : State) : Prop where
  keeps : s.Keeps t
  pending : t.pending = s.pending
  settings : t.settings = s.settings
  conv : t.conv = s.conv
  bus : t.bus = s.bus
  link : t.link = s.link
  startup : t.startup = s.startup

theorem State.Samples.refl (s : State) : s.Samples s := ⟨.refl s, rfl, rfl, rfl, rfl, rfl, rfl⟩

theorem State.Samples.trans {s t u : State} (a : s.Samples t) (b : t.Samples u) : s.Samples u :=
  ⟨a.keeps.trans b.keeps, b.pending.trans a.pending, b.settings.trans a.settings, b.conv.trans a.conv, b.bus.trans a.bus,
    b.link.trans a.link, b.startup.trans a.startup⟩

theorem State.Samples.of_follows {s t : State} (f : s.Follows t) (k : s.Keeps t) : s.Samples t :=
  ⟨k, f.pending, f.settings, f.conv, f.bus, f.link, f.startup⟩

/-- An update of the inputs, the arbiter, the road speed, the supply or the axis; the halt latch may lose causes. -/
theorem State.Samples.quiet {s t : State} (keeps : s.Keeps t := by exact State.Keeps.quiet)
    (pending : t.pending = s.pending := by rfl) (settings : t.settings = s.settings := by rfl)
    (conv : t.conv = s.conv := by rfl) (bus : t.bus = s.bus := by rfl) (link : t.link = s.link := by rfl)
    (startup : t.startup = s.startup := by rfl) : s.Samples t :=
  ⟨keeps, pending, settings, conv, bus, link, startup⟩

theorem State.conclude_samples (s : State) : s.Samples s.conclude := .of_follows s.conclude_follows s.conclude_keeps

theorem State.passTo_samples (s : State) (t : Nat) : s.Samples (s.passTo t) :=
  .of_follows (s.passTo_follows t) (s.passTo_keeps t)

theorem State.raiseHalt_samples (s : State) (c : Cause) : s.Samples (s.raiseHalt c) :=
  have f := s.raiseHalt_follows c
  ⟨s.raiseHalt_keeps c, f.pending, f.settings, f.conv, f.bus, f.link, f.startup⟩

theorem State.doorSwitched_follows (s : State) (side : Side) (back : Bool) : s.Follows (s.doorSwitched side back) := by
  unfold State.doorSwitched State.phaseSwitched State.doorMoved
  dsimp only
  repeat' split
  all_goals
    first
    | exact s.endDoor_follows _ _ _
    | exact s.enterPhase_follows _ _
    | exact .refl s
    | exact s.setDoor_follows _ _
    | exact (s.setDoor_follows _ _).trans (State.notify_follows _ _)

theorem State.doorSwitched_keeps (s : State) (side : Side) (back : Bool) : s.Keeps (s.doorSwitched side back) := by
  unfold State.doorSwitched State.phaseSwitched State.doorMoved
  dsimp only
  repeat' split
  all_goals
    first
    | exact s.endDoor_keeps _ _ _
    | exact s.enterPhase_keeps _ _
    | exact .refl s
    | exact s.setDoor_keeps _ _
    | exact (s.setDoor_keeps _ _).trans (State.notify_keeps _ _)

theorem State.handDoor_samples (s : State) (v : Inputs) (ins : List DInput) (side : Side) :
    s.Samples (s.handDoor v ins side) := by
  unfold State.handDoor
  split
  · exact .of_follows (s.doorSwitched_follows _ _) (s.doorSwitched_keeps _ _)
  · exact .refl s

theorem State.handEngine_samples (s : State) (v : Inputs) : s.Samples (s.handEngine v) := by
  unfold State.handEngine
  split
  · split
    · exact .refl s
    · exact .of_follows (s.count_follows _ _ _ _) (s.count_keeps _ _ _ _)
  · exact .quiet
  · exact .quiet
  · exact .refl s

theorem State.startSave_samples (s : State) : s.Samples s.startSave := .quiet

theorem State.handMaster_samples (s : State) (v : Inputs) : s.Samples (s.handMaster v) := by
  unfold State.handMaster State.askSave
  split
  · split
    · exact .quiet
    · exact s.startSave_samples
  · exact .refl s

theorem State.countInputs_samples (s : State) (ins : List DInput) : s.Samples (s.countInputs ins) :=
  (((State.Samples.trans .quiet (State.handDoor_samples _ _ _ _)).trans (State.handDoor_samples _ _ _ _)).trans
    (State.handEngine_samples _ _)).trans (State.handMaster_samples _ _)

theorem State.estopOn_samples (s : State) : s.Samples s.estopOn := by
  unfold State.estopOn
  dsimp only
  split
  · exact .quiet
  · exact State.Samples.trans .quiet (State.raiseHalt_samples _ _)

theorem State.estopReleased_samples (s : State) : s.Samples s.estopReleased := .quiet

theorem State.welded_samples (s : State) : s.Samples s.welded :=
  State.Samples.trans .quiet (State.raiseHalt_samples _ _)

theorem State.sampleRaw_samples (s : State) (input : RawInput) (level : Bool) : s.Samples (s.sampleRaw input level) := by
  cases input with
  | debounced d => exact .quiet
  | readBack l => exact .quiet
  | estop =>
    cases level
    · exact .quiet
    · exact s.estopOn_samples
  | pumpFb =>
    cases level
    · exact .quiet
    · simp only [State.sampleRaw, State.feedbackClosed]
      split
      · exact .quiet
      · exact .quiet
      · split
        · exact s.welded_samples
        · exact .quiet

theorem State.enterSupply_samples (s : State) (new : SupplyState) : s.Samples (s.enterSupply new) :=
  State.Samples.trans .quiet (.of_follows (State.notify_follows _ _) (State.notify_keeps _ _))

/-! ### The scan (R110, R111) -/

theorem Inputs.recounted.trans {u v w : Inputs} {sides : List Side} (a : u.recounted v sides) (b : v.recounted w sides) :
    u.recounted w sides := by
  obtain ⟨ha, ka⟩ := a
  obtain ⟨hb, kb⟩ := b
  refine ⟨by rw [hb, ha], fun side sw => ?_⟩
  obtain ⟨r1, s1, g1⟩ := ka side sw
  obtain ⟨r2, s2, g2⟩ := kb side sw
  exact ⟨r2.trans r1, s2.trans s1, fun h => (g2 h).trans (g1 h)⟩

theorem Inputs.recounted.mono {v w : Inputs} {sides more : List Side} (a : v.recounted w sides)
    (sub : ∀ side ∈ sides, side ∈ more) : v.recounted w more :=
  ⟨a.1, fun side sw => ⟨(a.2 side sw).1, (a.2 side sw).2.1, fun h => (a.2 side sw).2.2 fun m => h (sub side m)⟩⟩

/-- What a scan keeps and leaves as it is: switches of the doors may be counted (R103, R105). -/
structure State.Scans (s t : State) : Prop where
  keeps : s.Keeps t
  pending : t.pending = s.pending
  settings : t.settings = s.settings
  inputs : s.inputs.recounted t.inputs [.near, .off]
  bus : t.bus = s.bus
  link : t.link = s.link
  startup : t.startup = s.startup

theorem State.Scans.refl (s : State) : s.Scans s := ⟨.refl s, rfl, rfl, .refl _ _, rfl, rfl, rfl⟩

theorem State.Scans.trans {s t u : State} (a : s.Scans t) (b : t.Scans u) : s.Scans u :=
  ⟨a.keeps.trans b.keeps, b.pending.trans a.pending, b.settings.trans a.settings, a.inputs.trans b.inputs,
    b.bus.trans a.bus, b.link.trans a.link, b.startup.trans a.startup⟩

theorem State.Scans.of_follows {s t : State} (f : s.Follows t) (k : s.Keeps t) : s.Scans t :=
  ⟨k, f.pending, f.settings, by rw [f.inputs]; exact .refl _ _, f.bus, f.link, f.startup⟩

theorem State.Scans.quiet {s t : State} (keeps : s.Keeps t := by exact State.Keeps.quiet)
    (pending : t.pending = s.pending := by rfl) (settings : t.settings = s.settings := by rfl)
    (inputs : t.inputs = s.inputs := by rfl) (bus : t.bus = s.bus := by rfl) (link : t.link = s.link := by rfl)
    (startup : t.startup = s.startup := by rfl) : s.Scans t :=
  ⟨keeps, pending, settings, by rw [inputs]; exact .refl _ _, bus, link, startup⟩

theorem State.takeLoad_scans (s : State) : s.Scans s.takeLoad := by
  unfold State.takeLoad
  split
  · exact .quiet
  · exact .refl s

theorem State.supplyScan_scans (s : State) : s.Scans s.supplyScan := by
  unfold State.supplyScan
  split
  · split
    · exact State.Scans.trans .quiet (.of_follows (State.notify_follows _ _) (State.notify_keeps _ _))
    · exact .quiet
  · exact .quiet

theorem State.coastStop_keeps (s : State) (h : Handle) : s.Keeps (s.coastStop h) :=
  .of_follows (s.coastStop_follows h) (s.coastStop_thins h) (s.coastStop_paced h)

theorem State.axisScan_scans (s : State) : s.Scans s.axisScan := by
  unfold State.axisScan
  dsimp only
  repeat' split
  all_goals
    first
    | exact .refl s
    | exact .quiet
    | exact State.Scans.trans .quiet (.of_follows (State.coastStop_follows _ _) (State.coastStop_keeps _ _))

theorem State.pumpScan_scans (s : State) : s.Scans s.pumpScan := .quiet

theorem State.obstruct_scans (s : State) (side : Side) (b : Bool) : s.Scans (s.obstruct side b) := by
  obtain ⟨f, i⟩ := s.obstruct_follows side b
  exact ⟨s.obstruct_keeps side b, f.pending, f.settings, i.mono fun x _ => by cases x <;> simp, f.bus, f.link, f.startup⟩

theorem State.doorCurrent_scans (s : State) (side : Side) (wasOk : Bool) : s.Scans (s.doorCurrent side wasOk) := by
  unfold State.doorCurrent
  dsimp only
  repeat' split
  all_goals
    first
    | exact .refl s
    | exact s.obstruct_scans _ _
    | exact .of_follows (s.setDoor_follows _ _) (s.setDoor_keeps _ _)

theorem State.scan_scans (s : State) (codes : Scan) : s.Scans (s.scan codes) := by
  unfold State.scan
  refine State.Scans.trans ?_ (State.doorCurrent_scans _ _ _)
  refine State.Scans.trans ?_ (State.doorCurrent_scans _ _ _)
  refine State.Scans.trans ?_ (State.pumpScan_scans _)
  refine State.Scans.trans ?_ (State.axisScan_scans _)
  refine State.Scans.trans ?_ (State.supplyScan_scans _)
  refine State.Scans.trans ?_ (.of_follows (State.report_follows _) (State.report_keeps _))
  exact State.Scans.trans .quiet (State.takeLoad_scans _)

theorem State.settled_follows (s : State) (r : Record) (run : Run) : s.Follows (s.settled r run) := by
  unfold State.settled
  dsimp only
  split
  · exact State.Follows.trans .quiet (State.endTree_follows _ _ _ _)
  · exact State.Follows.trans .quiet (State.endTree_follows _ _ _ _)
  · split
    · exact State.Follows.trans .quiet (State.proceed_follows _ _)
    · exact State.Follows.trans .quiet (State.endTree_follows _ _ _ _)

theorem State.upd_keeps (s : State) (h : Handle) (f : Record → Record)
    (hf : ∀ r, (f r).handle = r.handle := by intro r; rfl) : s.Keeps (s.upd h f) :=
  .of_follows (s.upd_follows h f) (s.upd_thins h f hf) .same

theorem State.settled_keeps (s : State) (r : Record) (run : Run) : s.Keeps (s.settled r run) := by
  unfold State.settled
  dsimp only
  split
  · exact State.Keeps.trans .quiet (State.endTree_keeps _ _ _ _)
  · exact (State.Keeps.trans .quiet (State.upd_keeps _ _ _)).trans (State.endTree_keeps _ _ _ _)
  · split
    · exact State.Keeps.trans .quiet (State.proceed_keeps _ _)
    · exact State.Keeps.trans .quiet (State.endTree_keeps _ _ _ _)

theorem State.grounded_follows (s : State) (r : Record) (run : Run) : s.Follows (s.grounded r run) := by
  unfold State.grounded
  split
  · exact (s.upd_follows _ _).trans (State.endTree_follows _ _ _ _)
  · exact s.endTree_follows _ _ _

theorem State.grounded_keeps (s : State) (r : Record) (run : Run) : s.Keeps (s.grounded r run) := by
  unfold State.grounded
  split
  · exact (s.upd_keeps _ _).trans (State.endTree_keeps _ _ _ _)
  · exact s.endTree_keeps _ _ _

end Sys2Proof.Machine
end

section
/-!
SUPPORT. What the commands of the station bus keep and leave as it is: one lemma for each operation, in terms of
`State.Polls` (R25 to R27, R127 to R146).
-/

namespace Sys2Proof.Machine

/-- What neither a request nor a command of the station bus touches. -/
structure State.Frames (s t : State) : Prop where
  pending : t.pending = s.pending
  inputs : t.inputs = s.inputs
  supply : t.supply = s.supply
  conv : t.conv = s.conv
  startup : t.startup = s.startup
  edges : t.eval.edges = s.eval.edges
  speed : t.eval.speed = s.eval.speed

theorem State.Frames.trans {s t u : State} (a : s.Frames t) (b : t.Frames u) : s.Frames u :=
  ⟨b.pending.trans a.pending, b.inputs.trans a.inputs, b.supply.trans a.supply, b.conv.trans a.conv,
    b.startup.trans a.startup, b.edges.trans a.edges, b.speed.trans a.speed⟩

theorem State.Frames.same {s t : State} (pending : t.pending = s.pending := by rfl) (inputs : t.inputs = s.inputs := by rfl)
    (supply : t.supply = s.supply := by rfl) (conv : t.conv = s.conv := by rfl) (startup : t.startup = s.startup := by rfl)
    (edges : t.eval.edges = s.eval.edges := by rfl) (speed : t.eval.speed = s.eval.speed := by rfl) : s.Frames t :=
  ⟨pending, inputs, supply, conv, startup, edges, speed⟩

theorem State.Follows.frames {s t : State} (f : s.Follows t) : s.Frames t :=
  ⟨f.pending, f.inputs, f.supply, f.conv, f.startup, f.edges, f.speed⟩

/-- What a command of the station bus keeps and leaves as it is. -/
structure State.Polls (s t : State) : Prop where
  keeps : s.Keeps t
  frames : s.Frames t
  settings : t.settings = s.settings
  link : t.link = s.link
  store : t.store = s.store

theorem State.Polls.refl (s : State) : s.Polls s := ⟨.refl s, .same, rfl, rfl, rfl⟩

theorem State.Polls.trans {s t u : State} (a : s.Polls t) (b : t.Polls u) : s.Polls u :=
  ⟨a.keeps.trans b.keeps, a.frames.trans b.frames, b.settings.trans a.settings, b.link.trans a.link,
    b.store.trans a.store⟩

theorem State.Polls.foldl {α : Type} (f : State → α → State) (hf : ∀ (s : State) (x : α), s.Polls (f s x)) :
    ∀ (xs : List α) (s : State), s.Polls (xs.foldl f s)
  | [], s => .refl s
  | x :: xs, s => (hf s x).trans (State.Polls.foldl f hf xs (f s x))

theorem State.Polls.of_follows {s t : State} (f : s.Follows t) (k : s.Keeps t) : s.Polls t :=
  ⟨k, f.frames, f.settings, f.link, f.store⟩

/-- An update of the bus; the halt latch may lose causes. -/
theorem State.Polls.quiet {s t : State} (keeps : s.Keeps t := by exact State.Keeps.quiet)
    (frames : s.Frames t := by exact State.Frames.same) (settings : t.settings = s.settings := by rfl)
    (link : t.link = s.link := by rfl) (store : t.store = s.store := by rfl) : s.Polls t :=
  ⟨keeps, frames, settings, link, store⟩

theorem State.conclude_polls (s : State) : s.Polls s.conclude := .of_follows s.conclude_follows s.conclude_keeps

theorem State.endTree_polls (s : State) (h : Handle) (o : RecOutcome) (why : Option EndReason) :
    s.Polls (s.endTree h o why) := .of_follows (s.endTree_follows h o why) (s.endTree_keeps h o why)

theorem State.raiseHalt_polls (s : State) (c : Cause) : s.Polls (s.raiseHalt c) :=
  have f := s.raiseHalt_follows c
  ⟨s.raiseHalt_keeps c, State.Frames.trans .same f.frames, f.settings, f.link, f.store⟩

theorem State.enrol_polls {s : State} (a : Ask) (hh : s.halt.set = false) (hl : s.plan.records.length < 12) :
    s.Polls (s.enrol a) := .of_follows (s.admit_follows a) (State.enrol_keeps a hh hl)

/-! ### Requests of the keys (R25 to R27, R141, R142) -/

theorem State.setStation_polls (s : State) (i : Fin 6) (x : Station) : s.Polls (s.setStation i x) := .quiet

theorem State.conflict_polls (s : State) (i : Fin 6) : s.Polls (s.conflict i) := s.setStation_polls _ _

theorem State.overrideLink_follows (s : State) : s.Follows s.overrideLink := by
  unfold State.overrideLink
  split
  · split
    · exact .refl s
    · exact s.endTree_follows _ _ _
  · exact .refl s

theorem State.overrideLink_polls (s : State) : s.Polls s.overrideLink := by
  unfold State.overrideLink
  split
  · split
    · exact .refl s
    · exact s.endTree_polls _ _ _
  · exact .refl s

theorem State.stationMove_polls (s : State) (i k : Fin 6) (kind : Kind) (target : Option Int) :
    s.Polls (s.stationMove i k kind target) := by
  unfold State.stationMove
  split
  · exact .refl s
  · next hh =>
    split
    · exact s.conflict_polls i
    · dsimp only
      split
      · next hl =>
        refine s.overrideLink_polls.trans (State.enrol_polls _ ?_ hl)
        rw [s.overrideLink_follows.halt]
        exact Bool.eq_false_of_not_eq_true hh
      · exact s.conflict_polls i

theorem State.askDirections_polls (s : State) (i : Fin 6) (a : Auth) (pressed : List (Fin 6)) :
    s.Polls (s.askDirections i a pressed) := by
  unfold State.askDirections State.askMove
  repeat' split
  all_goals
    first
    | exact .refl s
    | exact s.conflict_polls i
    | exact s.stationMove_polls _ _ _ _

theorem State.endSide_follows (s : State) (side : Side) (why : EndReason) : s.Follows (s.endSide side why) :=
  State.Follows.foldl _ (fun t _ => t.endTree_follows _ _ _) _ _

theorem State.endSide_polls (s : State) (side : Side) (why : EndReason) : s.Polls (s.endSide side why) :=
  State.Polls.foldl _ (fun t _ => t.endTree_polls _ _ _) _ _

theorem State.keypadMove_polls (s : State) (i : Fin 6) (kind : Kind) (side : Side) :
    s.Polls (s.keypadMove i kind side) := by
  unfold State.keypadMove
  split
  · exact .refl s
  · next hh =>
    split
    · exact .refl s
    · dsimp only
      refine (s.endSide_polls side .supersede).trans ?_
      split
      · next hl =>
        refine State.enrol_polls _ ?_ hl
        rw [(s.endSide_follows side .supersede).halt]
        exact Bool.eq_false_of_not_eq_true hh
      · exact State.conflict_polls _ i

theorem State.askDoor_polls (s : State) (i : Fin 6) (side : Side) (pressed : List (Fin 6)) :
    s.Polls (s.askDoor i side pressed) := by
  unfold State.askDoor
  repeat' split
  all_goals
    first
    | exact .refl s
    | exact s.conflict_polls i
    | exact s.keypadMove_polls _ _ _

/-! ### Handing on (R140) -/

theorem State.handRelease_polls (s : State) (i : Fin 6) (r : Role) (k : Fin 6) : s.Polls (s.handRelease i r k) := by
  unfold State.handRelease
  repeat' split
  all_goals
    first
    | exact .refl s
    | exact s.endTree_polls _ _ _
    | exact .quiet

theorem State.handReleases_polls (s : State) (i : Fin 6) (r : Role) (ks : List (Fin 6)) :
    s.Polls (s.handReleases i r ks) :=
  State.Polls.foldl _ (fun t k => t.handRelease_polls i r k) _ _

theorem State.handPresses_polls (s : State) (i : Fin 6) (r : Role) (pressed : List (Fin 6)) :
    s.Polls (s.handPresses i r pressed) := by
  have stop : s.Polls (if (0 : Fin 6) ∈ pressed then s.raiseHalt (.station i) else s) := by
    split
    · exact s.raiseHalt_polls _
    · exact .refl s
  unfold State.handPresses
  split
  · exact stop.trans (State.askDirections_polls _ _ _ _)
  · exact stop.trans (State.askDirections_polls _ _ _ _)
  · next side =>
    refine State.Polls.trans ?_ (State.askDoor_polls _ _ _ _)
    split
    · exact s.endSide_polls _ _
    · exact .refl s
  · extract_lets s1
    have pressed : s.Polls s1 := stop
    split
    · exact pressed.trans (s1.setStation_polls _ _)
    · exact pressed

theorem State.noteStation_polls (s : State) (i : Fin 6) (e : StationCfg) (before after : StnState) :
    s.Polls (s.noteStation i e before after) := by
  unfold State.noteStation
  repeat' split
  all_goals
    first
    | exact .refl s
    | exact .of_follows (s.notify_follows _) (s.notify_keeps _)

theorem State.handOn_polls (s : State) (i : Fin 6) (e : StationCfg) (after : Station) : s.Polls (s.handOn i e after) := by
  refine State.Polls.trans ?_ (State.handPresses_polls _ _ _ _)
  refine State.Polls.trans ?_ (.of_follows (State.report_follows _) (State.report_keeps _))
  refine State.Polls.trans ?_ (State.handReleases_polls _ _ _ _)
  exact (s.setStation_polls i after).trans (State.noteStation_polls _ _ _ _ _)

/-! ### The poll cycle (R127, R129, R132 to R136) -/

theorem State.applyEntry_polls (s : State) (i : Fin 6) : s.Polls (s.applyEntry i) := by
  unfold State.applyEntry
  dsimp only
  split
  · refine State.Polls.trans ?_ (State.setStation_polls _ _ _)
    split
    · exact s.handReleases_polls _ _ _
    · exact .refl s
  · exact .refl s

theorem State.poll_polls (s : State) (i : Fin 6) (e : StationCfg) : s.Polls (s.poll i e) := .quiet

theorem State.busFault_polls (s : State) : s.Polls s.busFault := by
  unfold State.busFault
  extract_lets b s1 s2 s3
  have lost : s.Polls s1 := .quiet
  have released : s1.Polls s2 := State.Polls.foldl _ (fun t i => by
    split
    · exact t.handReleases_polls _ _ _
    · exact .refl t) _ _
  have noted : s2.Polls s3 := .of_follows (s2.notify_follows _) (s2.notify_keeps _)
  exact ((lost.trans released).trans noted).trans .quiet

theorem State.busOk_polls (s : State) : s.Polls s.busOk :=
  State.Polls.trans .quiet (.of_follows (State.notify_follows _ _) (State.notify_keeps _ _))

theorem State.judgeCycle_polls (s : State) : s.Polls s.judgeCycle := by
  unfold State.judgeCycle
  dsimp only
  repeat' split
  all_goals
    first
    | exact .quiet
    | exact State.Polls.trans .quiet (State.busOk_polls _)
    | exact State.Polls.trans .quiet (State.busFault_polls _)

theorem State.advance_polls (s : State) (n : Nat) : s.Polls (s.advance n) := by
  rcases s.advance_cases n with ⟨i, e, -, h⟩ | ⟨-, h⟩ <;> rw [h]
  · exact s.conclude_polls.trans (State.poll_polls _ _ _)
  · exact s.judgeCycle_polls.trans (State.conclude_polls _)

/-- The event of a poll leaves no `SERVICE` notice to queue (R168). -/
theorem State.advance_served (s : State) (n : Nat) : (s.advance n).cnt.Served := by
  rcases s.advance_cases n with ⟨i, e, -, h⟩ | ⟨-, h⟩ <;> rw [h]
  · exact s.conclude_served
  · exact State.conclude_served _

theorem State.judgeMiss_polls (s : State) (i : Fin 6) (e : StationCfg) (m : MissKind) : s.Polls (s.judgeMiss i e m) :=
  (s.handOn_polls i e _).trans (.of_follows (State.count_follows _ _ _ _ _) (State.count_keeps _ _ _ _ _))

theorem State.judgeGood_polls (s : State) (i : Fin 6) (e : StationCfg) (keys status : Ch) :
    s.Polls (s.judgeGood i e keys status) := s.handOn_polls i e _

theorem State.endPoll_cases (s : State) (f : State → Fin 6 → StationCfg → State) :
    s.endPoll f = s ∨ ∃ i e, s.endPoll f = (f s i e).advance (i.val + 1) := by
  unfold State.endPoll
  split
  · split
    · exact .inr ⟨_, _, rfl⟩
    · exact .inl rfl
  · exact .inl rfl

theorem State.startCycle_polls (s : State) : s.Polls s.startCycle := by
  unfold State.startCycle
  extract_lets bus s1
  have due : s.Polls s1 := .quiet
  have applied : s1.Polls s1.applyEntries := State.Polls.foldl _ State.applyEntry_polls _ _
  exact (due.trans applied).trans (State.advance_polls _ _)

theorem State.resetRequest_polls (s : State) : s.Polls s.resetRequest := by
  unfold State.resetRequest
  split
  · exact .quiet (keeps := .quiet (halt := nofun))
  · exact .refl s

end Sys2Proof.Machine
end

section
/-!
SUPPORT. What the requests and the line keep and leave as it is: one lemma for each request and each operation of the
receiver and the transmitter, in terms of `State.Takes` (R16 to R30, R124, R159 to R197).
-/

namespace Sys2Proof.Machine

/-! ### The link within its bounds (R175, R183, R184) -/

/-- No count of the link is above 65535 (R184). -/
structure LinkCounts.Within (n : LinkCounts) : Prop where
  framing : n.framing ≤ 65535
  overrun : n.overrun ≤ 65535
  damage : n.damage ≤ 65535
  checksum : n.checksum ≤ 65535
  tag : n.tag ≤ 65535
  brk : n.brk ≤ 65535
  halt : n.halt ≤ 65535
  expiry : n.expiry ≤ 65535

theorem Link.wf_iff (l : Link) : l.wf = true ↔ l.fifo.length ≤ 128 ∧ l.tx.length ≤ 256 ∧ l.counts.Within := by
  simp only [Link.wf, Bool.and_eq_true, decide_eq_true_eq, List.all_cons, List.all_nil]
  constructor
  · rintro ⟨⟨hf, ht⟩, h1, h2, h3, h4, h5, h6, h7, h8, -⟩
    exact ⟨hf, ht, h1, h2, h3, h4, h5, h6, h7, h8⟩
  · rintro ⟨hf, ht, h1, h2, h3, h4, h5, h6, h7, h8⟩
    exact ⟨⟨hf, ht⟩, h1, h2, h3, h4, h5, h6, h7, h8, trivial⟩

theorem count16_le (n : Nat) : count16 n ≤ 65535 := Nat.min_le_left _ _

theorem Link.place_wf {l : Link} (h : l.wf = true) (text : List Ch) : (l.place text).wf = true := by
  rw [Link.wf_iff] at h ⊢
  obtain ⟨hf, ht, hc⟩ := h
  refine ⟨hf, ?_, hc⟩
  simp only [Link.place, Link.room, Config.txCap, List.length_append, List.length_take]
  omega

theorem markLast_length : ∀ xs : List RxChar, (markLast xs).length = xs.length
  | [] => rfl
  | [_] => rfl
  | _ :: y :: rest => congrArg (· + 1) (markLast_length (y :: rest))

theorem Link.receive_wf {l : Link} (h : l.wf = true) (c : Ch) (framing : Bool) : (l.receive c framing).wf = true := by
  rw [Link.wf_iff] at h
  obtain ⟨hf, ht, hc⟩ := h
  have hc1 : ({ l.counts with framing := if framing then count16 l.counts.framing else l.counts.framing } :
      LinkCounts).Within := by
    refine { hc with framing := ?_ }
    split
    · exact count16_le _
    · exact hc.framing
  unfold Link.receive
  extract_lets n l1
  have hl1 : l1.counts.Within := hc1
  split
  · next room =>
    rw [Link.wf_iff]
    refine ⟨?_, ht, hl1⟩
    rw [List.length_append]
    exact Nat.succ_le_of_lt room
  · split <;> rw [Link.wf_iff]
    · exact ⟨hf, ht, hl1⟩
    · exact ⟨(markLast_length _).trans_le hf, ht, { hl1 with overrun := count16_le _ }⟩

theorem Link.damage_wf {l : Link} (h : l.wf = true) (asm : Assembler) : (l.damage asm).wf = true := by
  rw [Link.wf_iff] at h ⊢
  obtain ⟨hf, ht, hc⟩ := h
  exact ⟨hf, ht, { hc with damage := count16_le _ }⟩

/-- An update of the assembler and of the complete record alone. -/
theorem Link.asm_wf {l m : Link} (h : l.wf = true) (fifo : m.fifo = l.fifo := by rfl) (tx : m.tx = l.tx := by rfl)
    (counts : m.counts = l.counts := by rfl) : m.wf = true := by
  rwa [Link.wf_iff, fifo, tx, counts, ← Link.wf_iff]

theorem Link.assemble_wf {l : Link} (h : l.wf = true) (x : RxChar) : (l.assemble x).wf = true := by
  have taken : Link.wf
      (match l.asm with
        | .hunting => if x.c = 0x40#8 ∧ x.framing = false then { l with asm := .assembling [0x40#8] false } else l
        | .assembling text damaged => l.store text damaged x) = true := by
    unfold Link.store
    dsimp only
    repeat' split
    all_goals
      first
      | exact h
      | exact Link.damage_wf h _
  unfold Link.assemble Link.loss
  extract_lets l1
  have taken : l1.wf = true := taken
  repeat' split
  all_goals
    exact taken

theorem Link.supplant_wf {l : Link} (h : l.wf = true) : l.supplant.wf = true := by
  unfold Link.supplant
  split
  · exact h
  · exact Link.damage_wf h _

theorem Link.clear_wf {l : Link} (h : l.wf = true) : l.clear.wf = true := by
  rw [Link.wf_iff] at h ⊢
  obtain ⟨-, ht, hc⟩ := h
  exact ⟨Nat.zero_le _, ht, hc⟩

theorem Link.sent_wf {l : Link} (h : l.wf = true) : l.sent.wf = true := by
  refine Link.place_wf ?_ _
  rw [Link.wf_iff] at h ⊢
  obtain ⟨hf, ht, hc⟩ := h
  refine ⟨hf, ?_, hc⟩
  simp only [List.length_drop]
  omega

/-- One count of the link replaced by a raised one. -/
theorem Link.counted_wf {l : Link} (h : l.wf = true) {n : LinkCounts} (hn : l.counts.Within → n.Within) :
    ({ l with counts := n } : Link).wf = true := by
  rw [Link.wf_iff] at h ⊢
  obtain ⟨hf, ht, hc⟩ := h
  exact ⟨hf, ht, hn hc⟩

/-! ### Requests -/

/-- What a request, and what the line does with its characters, keeps and leaves as it is. -/
structure State.Takes (s t : State) : Prop where
  keeps : s.Keeps t
  frames : s.Frames t
  served : s.cnt.Served → t.cnt.Served

theorem State.Takes.refl (s : State) : s.Takes s := ⟨.refl s, .same, id⟩

theorem State.Takes.trans {s t u : State} (a : s.Takes t) (b : t.Takes u) : s.Takes u :=
  ⟨a.keeps.trans b.keeps, a.frames.trans b.frames, fun h => b.served (a.served h)⟩

/-- An operation and the close of its event. -/
theorem State.Takes.concluded {s t : State} (keeps : s.Keeps t) (frames : s.Frames t) : s.Takes t.conclude :=
  ⟨keeps.trans t.conclude_keeps, frames.trans t.conclude_follows.frames, fun _ => t.conclude_served⟩

/-- An update of the settings, the store or the bus. -/
theorem State.Takes.quiet {s t : State} (keeps : s.Keeps t := by exact State.Keeps.quiet)
    (frames : s.Frames t := by exact State.Frames.same) (cnt : t.cnt = s.cnt := by rfl) : s.Takes t :=
  ⟨keeps, frames, fun h => cnt ▸ h⟩

/-- An update of the link that keeps its bounds. -/
theorem State.Takes.link {s : State} {l : Link} (h : s.link.wf = true → l.wf = true) : s.Takes { s with link := l } :=
  ⟨.link h, .same, id⟩

theorem State.answer_takes (s : State) (t : Tag) (n : ReqName) (w : String) (fs : List Field) :
    s.Takes (s.answer t n w fs) := .link fun h => Link.place_wf h _

/-- Checks 2 to 4 of R16 passed: the halt latch is clear. -/
theorem State.refusal_none {s : State} (h : s.refusal = none) : s.halt.set = false := by
  unfold State.refusal at h
  cases hs : s.halt.set
  · rfl
  · simp [hs] at h

theorem State.takeMove_takes (s : State) (t : Tag) (a : Ask) (hh : s.halt.set = false)
    (room : s.plan.records.length < 12) : s.Takes (s.takeMove t a) :=
  (State.Takes.concluded (State.enrol_keeps a hh room) (s.admit_follows a).frames).trans (State.answer_takes _ _ _ _ _)

theorem State.reqMove_takes (s : State) (t : Tag) (fs : List Field) : s.Takes (s.reqMove t fs) := by
  unfold State.reqMove
  split
  · exact s.answer_takes _ _ _ _
  · split
    · split
      · exact s.answer_takes _ _ _ _
      · next clear =>
        split
        · exact s.answer_takes _ _ _ _
        · split
          · next room => exact s.takeMove_takes t _ (State.refusal_none clear) room
          · exact s.answer_takes _ _ _ _
    · exact s.answer_takes _ _ _ _

theorem State.admitAll_keeps :
    ∀ (xs : List (Kind × Option Side × Option Int)) (s : State) (n : Nat) (last : Option Handle), s.halt.set = false →
      s.plan.records.length + xs.length ≤ 12 → s.Keeps (s.admitAll n last xs)
  | [], s, _, _, _, _ => .refl s
  | (k, side, target) :: rest, s, n, last, hh, hl => by
    have room : s.plan.records.length < 12 := by
      simp only [List.length_cons] at hl
      omega
    unfold State.admitAll
    extract_lets h s1
    have one : s.Keeps s1 := State.enrol_keeps _ hh room
    refine one.trans (State.admitAll_keeps rest s1 n _ hh ?_)
    obtain ⟨r, hr, -⟩ := s.enrol_records
      { kind := k, side := side, target := target, creep := false, origin := .link, key := none
        pred := if k.isLift then last else none, seq := some n }
    have hs1 : s1.plan.records = s.plan.records ++ [r] := hr
    rw [hs1]
    simp only [List.length_cons, List.length_append, List.length_nil] at hl ⊢
    omega

/-- The sequence counter going past a number keeps the handles in good order. -/
theorem State.nextSeq_keeps (s : State) (n : Nat) : s.Keeps { s with plan := { s.plan with nextSeq := succ255 n } } where
  bounded h := ⟨h.notes, h.link, h.plan, h.cnt, h.beac, h.empty⟩
  handles _ g := by
    rw [Plan.handlesGood_iff] at g ⊢
    obtain ⟨nd, range, hn, -⟩ := g
    exact ⟨nd, range, hn, succ255_range n⟩

/-- The state with the records of a `SEQN` admitted and the sequence counter past their number, before the event closes
(R4, R20). -/
def State.enrolSeqn (s : State) (xs : List (Kind × Option Side × Option Int)) : State :=
  if xs = [] then s
  else
    { s.admitAll s.plan.newSeq none xs with
      plan := { (s.admitAll s.plan.newSeq none xs).plan with nextSeq := succ255 s.plan.newSeq } }

theorem State.takeSeqn_eq (s : State) (t : Tag) (xs : List (Kind × Option Side × Option Int)) :
    s.takeSeqn t xs =
      (s.enrolSeqn xs).conclude.answer t .seqn "OK"
        (.num xs.length :: ((s.enrolSeqn xs).plan.records.drop s.plan.records.length).map fun r => .num r.handle) := by
  unfold State.takeSeqn State.enrolSeqn
  by_cases h : xs = []
  · subst h
    rfl
  · simp only [if_neg h]

theorem State.enrolSeqn_follows (s : State) (xs : List (Kind × Option Side × Option Int)) : s.Follows (s.enrolSeqn xs) := by
  unfold State.enrolSeqn
  split
  · exact .refl s
  · exact (State.admitAll_follows xs s _ none).trans .quiet

theorem State.enrolSeqn_keeps {s : State} {xs : List (Kind × Option Side × Option Int)} (hh : s.halt.set = false)
    (room : s.plan.records.length + xs.length ≤ 12) : s.Keeps (s.enrolSeqn xs) := by
  unfold State.enrolSeqn
  split
  · exact .refl s
  · exact (State.admitAll_keeps xs s _ none hh room).trans (State.nextSeq_keeps _ _)

theorem State.takeSeqn_takes (s : State) (t : Tag) (xs : List (Kind × Option Side × Option Int))
    (hh : s.halt.set = false) (room : s.plan.records.length + xs.length ≤ 12) : s.Takes (s.takeSeqn t xs) := by
  rw [State.takeSeqn_eq]
  exact (State.Takes.concluded (State.enrolSeqn_keeps hh room) (s.enrolSeqn_follows xs).frames).trans
    (State.answer_takes _ _ _ _ _)

theorem State.reqSeqn_takes (s : State) (t : Tag) (fs : List Field) : s.Takes (s.reqSeqn t fs) := by
  unfold State.reqSeqn
  split
  · exact s.answer_takes _ _ _ _
  · split
    · exact s.answer_takes _ _ _ _
    · next clear =>
      split
      · exact s.answer_takes _ _ _ _
      · split
        · next room => exact s.takeSeqn_takes t _ (State.refusal_none clear) room
        · exact s.answer_takes _ _ _ _

theorem State.reqCanc_takes (s : State) (t : Tag) (fs : List Field) : s.Takes (s.reqCanc t fs) := by
  unfold State.reqCanc State.answerEnded
  split
  · split
    · exact (State.Takes.concluded (s.endTree_keeps _ _ _) (s.endTree_follows _ _ _).frames).trans
        (State.answer_takes _ _ _ _ _)
    · exact s.answer_takes _ _ _ _
  · exact (State.Takes.concluded (s.endEach_keeps _ _ _) (s.endEach_follows _ _ _).frames).trans
      (State.answer_takes _ _ _ _ _)
  · exact s.answer_takes _ _ _ _

theorem State.raiseHalt_frames (s : State) (c : Cause) : s.Frames (s.raiseHalt c) := (s.raiseHalt_polls c).frames

theorem State.reqHalt_takes (s : State) (t : Tag) (fs : List Field) : s.Takes (s.reqHalt t fs) := by
  unfold State.reqHalt State.answerEnded
  split
  · exact (State.Takes.concluded (s.raiseHalt_keeps _) (s.raiseHalt_frames _)).trans (State.answer_takes _ _ _ _ _)
  · exact s.answer_takes _ _ _ _

theorem State.clearHalt_keeps (s : State) : s.Keeps s.clearHalt := .quiet (halt := nofun)

theorem State.reqResm_takes (s : State) (t : Tag) (fs : List Field) : s.Takes (s.reqResm t fs) := by
  unfold State.reqResm
  split
  · split
    · split
      · exact s.answer_takes _ _ _ _
      · exact (State.Takes.concluded s.clearHalt_keeps .same).trans (State.answer_takes _ _ _ _ _)
    · exact s.answer_takes _ _ _ _
  · exact s.answer_takes _ _ _ _

theorem State.reqQrec_takes (s : State) (t : Tag) (fs : List Field) : s.Takes (s.reqQrec t fs) := by
  unfold State.reqQrec
  repeat' split
  all_goals exact s.answer_takes _ _ _ _

theorem State.reqPlan_takes (s : State) (t : Tag) (fs : List Field) : s.Takes (s.reqPlan t fs) := by
  unfold State.reqPlan
  split <;> exact s.answer_takes _ _ _ _

theorem State.reqCalp_takes (s : State) (t : Tag) (fs : List Field) : s.Takes (s.reqCalp t fs) := by
  unfold State.reqCalp
  repeat' split
  all_goals
    first
    | exact s.answer_takes _ _ _ _
    | exact .link fun h => Link.asm_wf h

theorem State.finishCalp_takes (s : State) (w : CalpWait) : s.Takes (s.finishCalp w) := by
  unfold State.finishCalp
  extract_lets _ s0 c code k
  have done : s.Takes s0 := .link fun h => Link.asm_wf h
  repeat' split
  all_goals
    first
    | exact done.trans (s0.answer_takes _ _ _ _)
    | exact (done.trans (.quiet (t := s0.setCal w.chan k))).trans (State.answer_takes _ _ _ _ _)

theorem State.completeCalp_takes (s : State) : s.Takes s.completeCalp := by
  unfold State.completeCalp
  split
  · exact s.finishCalp_takes _
  · exact .refl s

theorem State.updLamps_keeps (ls : List Lamp) (f : LampCh → LampCh) (s : State) :
    s.Keeps (ls.foldl (fun t l => t.updLamp l f) s) ∧ s.Follows (ls.foldl (fun t l => t.updLamp l f) s) :=
  ⟨State.Keeps.foldl _ (fun t l => t.updLamp_keeps l f) _ _, State.Follows.foldl _ (fun t l => t.updLamp_follows l f) _ _⟩

theorem State.reqBeac_takes (s : State) (t : Tag) (fs : List Field) : s.Takes (s.reqBeac t fs) := by
  have lamps (ls : List Lamp) (f : LampCh → LampCh) : s.Takes (ls.foldl (fun t l => t.updLamp l f) s).conclude :=
    .concluded (State.updLamps_keeps ls f s).1 (State.updLamps_keeps ls f s).2.frames
  unfold State.reqBeac
  split
  · exact s.answer_takes _ _ _ _
  · exact (lamps _ _).trans (State.answer_takes _ _ _ _ _)
  · exact (lamps _ _).trans (State.answer_takes _ _ _ _ _)

/-! ### Duty counters (R170 to R173) -/

/-- One counter replaced by a valid one, and derating decided again. -/
theorem State.recount_takes (s : State) (i : Fin 8) (d : Counter) (ns : List Notice)
    (hd : (∀ j : Fin 8, (s.cnt.recs[j]).valid = true) → d.valid = true) :
    s.Takes (State.decideDerating (ns.foldl State.notify (s.setCounter i d))) := by
  set m := ns.foldl State.notify (s.setCounter i d) with hm
  have f : s.Follows m := State.Follows.trans .quiet (State.Follows.foldl _ State.notify_follows ns _)
  have th : s.Thins m := State.Thins.trans .same (State.Thins.foldl _ State.notify_thins ns _)
  have c : (s.setCounter i d).Counts m := State.notifyAll_counts ns _
  have cnt : m.cnt = { s.cnt with recs := modAt s.cnt.recs i fun _ => d } := by
    rw [hm]
    clear_value m
    clear hm f th c m
    induction ns using List.reverseRecOn with
    | nil => rfl
    | append_singleton ns n ih => rw [List.foldl_append]; exact ih
  have dd := m.decideDerating_counts
  refine ⟨.of_follows (f.trans m.decideDerating_follows) (th.trans m.decideDerating_thins) ⟨?_, ?_, fun h => ?_⟩,
    f.frames.trans m.decideDerating_follows.frames, fun h j => ?_⟩
  · rw [dd.beac, c.beac]
    rfl
  · rw [dd.beac, c.beac]
    rfl
  · rw [State.decideDerating_cnt]
    refine ⟨fun j => ?_, rfl⟩
    have hj := h.valid j
    have hd := hd h.valid
    simp only [cnt, Fin.getElem_fin, modAt_getElem]
    split
    · exact hd
    · exact hj
  · rw [State.decideDerating_cnt, cnt]
    exact h j

theorem State.clearCounter_takes (s : State) (i : Fin 8) : s.Takes (s.clearCounter i) :=
  s.recount_takes i { s.cnt.recs[i] with value := 0, residue := 0, reached := false } [] fun h => by
    have h := (Counter.valid_iff _).mp (h i)
    rw [Counter.valid_iff]
    exact ⟨h.1, Nat.zero_le _, Nat.zero_le _⟩

theorem Counter.setUp_valid {c : Counter} (h : c.valid = true) (f : SetupForm) : (c.setUp f).valid = true := by
  rw [Counter.valid_iff] at h ⊢
  refine ⟨Nat.min_le_left _ _, h.2.1, ?_⟩
  simp only [Counter.setUp]
  split
  · exact h.2.2
  · exact Nat.zero_le _

theorem State.setUpCounter_takes (s : State) (i : Fin 8) (f : SetupForm) : s.Takes (s.setUpCounter i f) := by
  unfold State.setUpCounter
  extract_lets c d s1
  have hd : (∀ j : Fin 8, (s.cnt.recs[j]).valid = true) → d.valid = true := fun h => Counter.setUp_valid (h i) f
  split
  · exact s.recount_takes i d [.service i d.source d.value] hd
  · exact s.recount_takes i d [] hd

theorem State.setFrozen_takes (s : State) (b : Bool) : s.Takes (s.setFrozen b) :=
  ⟨.of_follows .quiet .same ⟨rfl, rfl, fun h => ⟨h.valid, h.derating⟩⟩, .same, id⟩

theorem State.reqCounter_takes (s : State) (t : Tag) (clear : Bool) (n : Int) : s.Takes (s.reqCounter t clear n) := by
  unfold State.reqCounter
  split
  · exact s.answer_takes _ _ _ _
  · split
    · exact (s.clearCounter_takes _).trans (State.answer_takes _ _ _ _ _)
    · exact s.answer_takes _ _ _ _

theorem State.reqSetup_takes (s : State) (t : Tag) (fs : List Field) : s.Takes (s.reqSetup t fs) := by
  unfold State.reqSetup
  split
  · exact s.answer_takes _ _ _ _
  · split
    · exact s.answer_takes _ _ _ _
    · split
      · split
        · exact (s.setUpCounter_takes _ _).trans (State.answer_takes _ _ _ _ _)
        · exact s.answer_takes _ _ _ _
      · exact s.answer_takes _ _ _ _

theorem State.reqCntr_takes (s : State) (t : Tag) (fs : List Field) : s.Takes (s.reqCntr t fs) := by
  unfold State.reqCntr
  split
  · exact s.reqCounter_takes _ _ _
  · exact s.reqCounter_takes _ _ _
  · exact s.reqSetup_takes _ _
  · exact (s.setFrozen_takes _).trans (State.answer_takes _ _ _ _ _)
  · exact (s.setFrozen_takes _).trans (State.answer_takes _ _ _ _ _)
  · exact s.answer_takes _ _ _ _

/-! ### Notices, settings and supervision -/

theorem NoticeQueue.take_wf {q : NoticeQueue} (h : q.wf = true) : q.take.wf = true := by
  simp only [NoticeQueue.wf, Bool.and_eq_true, decide_eq_true_eq, beq_iff_eq] at h ⊢
  refine ⟨⟨?_, Nat.zero_le _⟩, rfl⟩
  show (q.entries.drop 1).length ≤ 24
  rw [List.length_drop]
  omega

theorem State.reqNote_takes (s : State) (t : Tag) (fs : List Field) : s.Takes (s.reqNote t fs) := by
  have taken : s.Takes { s with notes := s.notes.take } :=
    ⟨⟨fun h => ⟨NoticeQueue.take_wf h.notes, h.link, h.plan, h.cnt, h.beac, h.empty⟩, fun _ g => g⟩, .same, id⟩
  unfold State.reqNote
  split
  · exact taken.trans (State.answer_takes _ _ _ _ _)
  · exact s.answer_takes _ _ _ _

theorem State.reqGetv_takes (s : State) (t : Tag) (fs : List Field) : s.Takes (s.reqGetv t fs) := by
  unfold State.reqGetv
  repeat' split
  all_goals exact s.answer_takes _ _ _ _

theorem State.setSettings_keeps (s : State) (n : SettingName) (w : Settings) :
    s.Keeps (s.setSettings n w) ∧ s.Frames (s.setSettings n w) := by
  unfold State.setSettings
  dsimp only
  repeat' split
  all_goals exact ⟨.quiet, .same⟩

theorem State.reqSetv_takes (s : State) (t : Tag) (fs : List Field) : s.Takes (s.reqSetv t fs) := by
  unfold State.reqSetv
  repeat' split
  all_goals
    first
    | exact s.answer_takes _ _ _ _
    | exact (State.Takes.concluded (s.setSettings_keeps _ _).1 (s.setSettings_keeps _ _).2).trans
        (State.answer_takes _ _ _ _ _)

theorem State.reqSave_takes (s : State) (t : Tag) (fs : List Field) : s.Takes (s.reqSave t fs) := by
  unfold State.reqSave
  repeat' split
  all_goals
    first
    | exact s.answer_takes _ _ _ _
    | exact (State.Takes.quiet (t := s.startSave)).trans (State.answer_takes _ _ _ _ _)

theorem State.setSup_takes (s : State) (v : Supervision) : s.Takes (s.setSup v) := .link fun h => Link.asm_wf h

theorem State.reqLink_takes (s : State) (t : Tag) (fs : List Field) : s.Takes (s.reqLink t fs) := by
  unfold State.reqLink
  repeat' split
  all_goals
    first
    | exact s.answer_takes _ _ _ _
    | exact (s.setSup_takes _).trans (State.answer_takes _ _ _ _ _)

/-- Supervision expired, before any record has ended (R187). -/
def Link.expired (l : Link) : Link :=
  { l with
    sup := { l.sup with state := .expired, deadline := none }
    counts := { l.counts with expiry := count16 l.counts.expiry } }

/-- The expiry: the link's part, the notice, and the endings of the link records (R24, R187). -/
theorem State.expire_eq (s : State) (byCount : Bool) :
    s.expire byCount =
      (State.notify { s with link := s.link.expired }
        (.linkLost byCount s.link.sup.live
          (s.plan.records.length - (State.linkLostEnds { s with link := s.link.expired }).plan.records.length))).linkLostEnds :=
  rfl

theorem State.expire_keeps (s : State) (byCount : Bool) : s.Keeps (s.expire byCount) := by
  rw [State.expire_eq]
  have lost : s.Keeps { s with link := s.link.expired } :=
    .link fun h => Link.counted_wf (l := { s.link with sup := _ }) (Link.asm_wf h) fun c => { c with expiry := count16_le _ }
  exact (lost.trans (State.notify_keeps _ _)).trans (State.linkLostEnds_keeps _)

theorem State.expire_frames (s : State) (byCount : Bool) : s.Frames (s.expire byCount) := by
  rw [State.expire_eq]
  exact State.Frames.trans .same (State.linkLostEnds_follows _).frames

theorem State.reqLive_takes (s : State) (t : Tag) (fs : List Field) : s.Takes (s.reqLive t fs) := by
  unfold State.reqLive State.takeLive
  dsimp only
  repeat' split
  all_goals
    first
    | exact s.answer_takes _ _ _ _
    | exact (s.setSup_takes _).trans (State.answer_takes _ _ _ _ _)
    | exact (State.Takes.concluded (s.expire_keeps _) (s.expire_frames _)).trans (State.answer_takes _ _ _ _ _)

theorem State.reqStat_takes (s : State) (t : Tag) (fs : List Field) : s.Takes (s.reqStat t fs) := by
  unfold State.reqStat
  repeat' split
  all_goals exact s.answer_takes _ _ _ _

/-! ### Taking what the line brings (R175 to R183) -/

theorem State.serve_takes (s : State) (r : Request) : s.Takes (s.serve r) := by
  unfold State.serve
  cases r.name with
  | move => exact s.reqMove_takes _ _
  | seqn => exact s.reqSeqn_takes _ _
  | canc => exact s.reqCanc_takes _ _
  | halt => exact s.reqHalt_takes _ _
  | resm => exact s.reqResm_takes _ _
  | qrec => exact s.reqQrec_takes _ _
  | plan => exact s.reqPlan_takes _ _
  | calp => exact s.reqCalp_takes _ _
  | beac => exact s.reqBeac_takes _ _
  | cntr => exact s.reqCntr_takes _ _
  | note => exact s.reqNote_takes _ _
  | getv => exact s.reqGetv_takes _ _
  | setv => exact s.reqSetv_takes _ _
  | save => exact s.reqSave_takes _ _
  | link => exact s.reqLink_takes _ _
  | live => exact s.reqLive_takes _ _
  | stat => exact s.reqStat_takes _ _

theorem State.raiseTag_takes (s : State) : s.Takes s.raiseTag :=
  .link fun h => Link.counted_wf h fun c => { c with tag := count16_le _ }

theorem State.badCheck_takes (s : State) (t : Tag) : s.Takes (s.badCheck t) :=
  .link fun h => Link.place_wf
    (Link.counted_wf (n := { s.link.counts with checksum := count16 s.link.counts.checksum }) h
      fun c => { c with checksum := count16_le _ }) _

theorem State.process_takes (s : State) (text : List Ch) : s.Takes (s.process text) := by
  unfold State.process
  split
  · exact s.raiseTag_takes
  · exact s.badCheck_takes _
  · exact .link fun h => Link.place_wf h _
  · exact .link fun h => Link.place_wf h _
  · exact s.serve_takes _

theorem State.drainFor_takes : ∀ (fuel : Nat) (s : State), s.Takes (s.drainFor fuel)
  | 0, s => .refl s
  | fuel + 1, s => by
    unfold State.drainFor
    split
    · exact .refl s
    · split
      · have record : s.Takes { s with link := { s.link with complete := none } } := .link fun h => Link.asm_wf h
        exact (record.trans (State.process_takes _ _)).trans (State.drainFor_takes fuel _)
      · split
        · exact .refl s
        · next x rest hf =>
          refine State.Takes.trans (.link fun h => Link.assemble_wf ?_ x) (State.drainFor_takes fuel _)
          rw [Link.wf_iff, hf] at h
          rw [Link.wf_iff]
          exact ⟨Nat.le_of_succ_le h.1, h.2⟩

theorem State.drain_takes (s : State) : s.Takes s.drain := State.drainFor_takes _ s

theorem State.receiveAll_takes (s : State) (cs : List Ch) : s.Takes (s.receiveAll cs) := by
  refine .link fun h => ?_
  induction cs generalizing s with
  | nil => exact h
  | cons c cs ih => exact ih { s with link := s.link.receive c false } (Link.receive_wf h c false)

theorem State.deliver_takes (s : State) (r : Request) : s.Takes (s.deliver r) := by
  unfold State.deliver
  dsimp only
  split
  · exact s.receiveAll_takes _
  · split
    · exact .link fun h => Link.damage_wf (Link.supplant_wf h) _
    · exact State.Takes.trans (.link fun h => Link.supplant_wf h) (State.serve_takes _ _)

theorem State.deliverText_takes (s : State) (text : List Ch) : s.Takes (s.deliverText text) := by
  unfold State.deliverText
  dsimp only
  split
  · exact s.receiveAll_takes _
  · split
    · exact .link fun h => Link.damage_wf (Link.supplant_wf h) _
    · exact State.Takes.trans (.link fun h => Link.supplant_wf h) (State.process_takes _ _)

end Sys2Proof.Machine
end

section
/-!
SUPPORT and the statements on every step: what each command keeps and leaves as it is, block by block, and from that the
bounds (O3), the handles (O4) and the frames (O60).
-/

namespace Sys2Proof.Machine

/-! ### Records' timers, runs, the pack's holder, doors, beacons and counters -/

/-- What a command of a record's timer, a run, the pack's holder, a beacon or a counter keeps and leaves as it is. -/
structure State.Moves (s t : State) : Prop where
  keeps : s.Keeps t
  follows : s.Follows t
  served : s.cnt.Served → t.cnt.Served

theorem State.Moves.refl (s : State) : s.Moves s := ⟨.refl s, .refl s, id⟩

/-- An operation and the close of its event. -/
theorem State.Moves.concluded {s t : State} (keeps : s.Keeps t) (follows : s.Follows t) : s.Moves t.conclude :=
  ⟨keeps.trans t.conclude_keeps, follows.trans t.conclude_follows, fun _ => t.conclude_served⟩

/-- Time passes, an operation follows, and the event closes. -/
theorem State.Moves.after {s t : State} (at_ : Nat) (keeps : (s.passTo at_).Keeps t) (follows : (s.passTo at_).Follows t) :
    s.Moves t.conclude :=
  .concluded ((s.passTo_keeps at_).trans keeps) ((s.passTo_follows at_).trans follows)

theorem State.endAt_moves (s : State) (at_ : Nat) (h : Handle) (o : RecOutcome) (why : Option EndReason) :
    s.Moves (s.endAt at_ h o why) :=
  .after at_ (State.endTree_keeps _ _ _ _) (State.endTree_follows _ _ _ _)

theorem State.failPack_moves (s : State) (at_ : Nat) (why : EndReason) : s.Moves (s.failPack at_ why) := by
  unfold State.failPack
  split
  · exact .after at_ (State.endTree_keeps _ _ _ _) (State.endTree_follows _ _ _ _)
  · exact .refl s

theorem State.check_keeps (s : State) (l : Lamp) (d : Diag) : s.Keeps (s.check l d) ∧ s.Follows (s.check l d) := by
  unfold State.check
  dsimp only
  split
  · exact ⟨(s.updLamp_keeps l _).trans (State.latchFault_keeps _ _ _),
      (s.updLamp_follows l _).trans (State.latchFault_follows _ _ _)⟩
  · exact ⟨s.updLamp_keeps l _, s.updLamp_follows l _⟩

theorem Beacons.wf_iff (b : Beacons) :
    b.wf = true ↔ b.nextAt % 100 = 0 ∧ 0 < b.nextAt ∧ b.slot = (b.nextAt / 100 - 1) % 20 := by
  simp [Beacons.wf, and_assoc]

/-- The next slot after time has come to it is on the grid of the clock (R147). -/
theorem State.nextSlot_wf {s : State} (h : s.beac.wf = true) (due : s.beac.nextAt ≤ s.now) : s.nextSlot.beac.wf = true := by
  rw [Beacons.wf_iff] at h ⊢
  simp only [State.nextSlot, nextDue, Config.slotMs]
  omega

theorem State.nextSlot_keeps {s : State} (due : s.beac.nextAt ≤ s.now) : s.Keeps s.nextSlot where
  bounded h := ⟨h.notes, h.link, h.plan, h.cnt, State.nextSlot_wf h.beac due, h.empty⟩
  handles _ g := g

/-- What the pattern slot leads to: the clock's next slot, and the channels resolved for it (R147, R148). -/
theorem State.patternSlot_moves (s : State) : s.Moves (s.passTo s.beac.nextAt).nextSlot.resolveAll := by
  have due : (s.passTo s.beac.nextAt).beac.nextAt ≤ (s.passTo s.beac.nextAt).now := by
    rw [(s.passTo_counts _).beac, State.passTo_now]
    exact Nat.le_max_right _ _
  exact ⟨((s.passTo_keeps _).trans (State.nextSlot_keeps due)).trans .quiet,
    ((s.passTo_follows _).trans .quiet).trans .quiet, fun h => State.passTime_served h _⟩

theorem exec_waitLimitExpiry_moves {s u : State} {h : Handle} (e : exec (.waitLimitExpiry h) s = .next u) : s.Moves u := by
  cases e
  split
  · split
    · split
      · exact s.endAt_moves _ _ _ _
      · exact .refl s
    · exact .refl s
  · exact .refl s

theorem exec_leadTimeExpiry_moves {s u : State} {h : Handle} (e : exec (.leadTimeExpiry h) s = .next u) : s.Moves u := by
  cases e
  split
  · split
    · exact .after _ (State.proceed_keeps _ _) (State.proceed_follows _ _)
    · exact .refl s
  · exact .refl s

theorem exec_holdTimerExpiry_moves {s u : State} {h : Handle} (e : exec (.holdTimerExpiry h) s = .next u) : s.Moves u := by
  cases e
  split
  · split
    · exact s.endAt_moves _ _ _ _
    · exact .refl s
  · exact .refl s

theorem exec_settleTimerExpiry_moves {s u : State} (e : exec .settleTimerExpiry s = .next u) : s.Moves u := by
  cases e
  split
  · split
    · exact .after _ (State.settled_keeps _ _ _) (State.settled_follows _ _ _)
    · exact .refl s
  · exact .refl s

theorem exec_stall_moves {s u : State} (e : exec .stall s = .next u) : s.Moves u := by
  cases e
  split
  · split
    · exact s.endAt_moves _ _ _ _
    · exact .refl s
  · exact .refl s

theorem exec_runLimitTimeout_moves {s u : State} (e : exec .runLimitTimeout s = .next u) : s.Moves u := by
  cases e
  split
  · split
    · exact s.endAt_moves _ _ _ _
    · exact .refl s
  · exact .refl s

theorem exec_groundTimeExpiry_moves {s u : State} (e : exec .groundTimeExpiry s = .next u) : s.Moves u := by
  cases e
  split
  · split
    · exact .after _ (State.grounded_keeps _ _ _) (State.grounded_follows _ _ _)
    · exact .refl s
  · exact .refl s

theorem exec_overload_moves {s u : State} (e : exec .overload s = .next u) : s.Moves u := by
  cases e
  split
  · split
    · exact s.endAt_moves _ _ _ _
    · exact .refl s
  · exact .refl s

theorem exec_contactorMakeTimeout_moves {s u : State} (e : exec .contactorMakeTimeout s = .next u) : s.Moves u := by
  cases e
  split
  · exact s.failPack_moves _ _
  · exact .refl s

theorem exec_contactorDropout_moves {s u : State} (e : exec .contactorDropout s = .next u) : s.Moves u := by
  cases e
  split
  · exact s.failPack_moves _ _
  · exact .refl s

theorem exec_pumpRestPassed_moves {s u : State} (e : exec .pumpRestPassed s = .next u) : s.Moves u := by
  cases e
  split
  · exact .after _ .quiet .quiet
  · exact .refl s

theorem exec_pumpOvercurrent_moves {s u : State} (e : exec .pumpOvercurrent s = .next u) : s.Moves u := by
  cases e
  split
  · split
    · exact .refl s
    · exact s.failPack_moves _ _
  · exact .refl s

theorem exec_unlatchWindowExpiry_moves {s u : State} {side : Side} (e : exec (.unlatchWindowExpiry side) s = .next u) :
    s.Moves u := by
  cases e
  split
  · exact .after _ (State.endDoor_keeps _ _ _ _) (State.endDoor_follows _ _ _ _)
  · exact .refl s

theorem exec_patternSlot_moves {s u : State} (e : exec .patternSlot s = .next u) : s.Moves u := by
  cases e
  exact s.patternSlot_moves

theorem exec_lampCheck_moves {s u : State} {l : Lamp} {d : Diag} (e : exec (.lampCheck l d) s = .next u) : s.Moves u := by
  cases e
  split
  · exact .after _ (State.check_keeps _ _ _).1 (State.check_keeps _ _ _).2
  · exact .refl s

theorem exec_readbackMismatch_moves {s u : State} {l : Lamp} (e : exec (.readbackMismatch l) s = .next u) : s.Moves u := by
  cases e
  dsimp only
  split
  · exact .refl s
  · exact .after _ (State.latchFault_keeps _ _ _) (State.latchFault_follows _ _ _)

theorem exec_rearTrailExpiry_moves {s u : State} (e : exec .rearTrailExpiry s = .next u) : s.Moves u := by
  cases e
  split
  · exact .after _ .quiet .quiet
  · exact .refl s

theorem exec_sideTrailExpiry_moves {s u : State} {side : Side} (e : exec (.sideTrailExpiry side) s = .next u) : s.Moves u := by
  cases e
  split
  · cases side <;> exact .after _ .quiet .quiet
  · exact .refl s

theorem exec_durationCount_moves {s u : State} {i : Fin 8} (e : exec (.durationCount i) s = .next u) : s.Moves u := by
  cases e
  split
  · refine ⟨.of_follows (s.passTime_follows _) (s.passTime_thins _) (s.passTime_paced _), s.passTime_follows _, fun h =>
      State.passTime_served h _⟩
  · exact .refl s

/-! ### Doors that count what is due -/

/-- What a command of a door's timer keeps and leaves as it is. -/
structure State.Swings (s t : State) (side : Side) : Prop where
  keeps : s.Keeps t
  follows : s.FollowsDoors t [side]
  served : s.cnt.Served → t.cnt.Served

theorem State.Swings.refl (s : State) (side : Side) : s.Swings s side := ⟨.refl s, (State.Follows.refl s).doors _, id⟩

theorem State.failDoor_swings (s : State) (side : Side) (t : Nat) (why : EndReason) :
    s.Swings (s.failDoor side t why) side :=
  ⟨s.failDoor_keeps side t why, s.failDoor_follows side t why, fun _ => State.conclude_served _⟩

theorem exec_doortimeExpiry_swings {s u : State} {side : Side} (e : exec (.doortimeExpiry side) s = .next u) :
    s.Swings u side := by
  cases e
  split
  · exact s.failDoor_swings _ _ _
  · exact .refl s _

theorem exec_pullinWindowExpiry_swings {s u : State} {side : Side} (e : exec (.pullinWindowExpiry side) s = .next u) :
    s.Swings u side := by
  cases e
  split
  · exact s.failDoor_swings _ _ _
  · exact .refl s _

theorem exec_obstruction_swings {s u : State} {side : Side} (e : exec (.obstruction side) s = .next u) : s.Swings u side := by
  cases e
  split
  · split
    · exact ⟨((s.passTo_keeps _).trans (State.obstruct_keeps _ _ _)).trans (State.conclude_keeps _),
        (State.FollowsDoors.after (s.passTo_follows _) (State.obstruct_follows _ _ _)).then (State.conclude_follows _),
        fun _ => State.conclude_served _⟩
    · exact .refl s _
  · exact .refl s _

theorem exec_reverseEnd_swings {s u : State} {side : Side} (e : exec (.reverseEnd side) s = .next u) : s.Swings u side := by
  cases e
  split
  · exact s.failDoor_swings _ _ _
  · exact .refl s _

/-! ### The station bus -/

/-- What a command of the station bus does, and that no `SERVICE` notice is left over. -/
structure State.BusMoves (s t : State) : Prop where
  polls : s.Polls t
  served : s.cnt.Served → t.cnt.Served

theorem State.BusMoves.refl (s : State) : s.BusMoves s := ⟨.refl s, id⟩

theorem State.passTo_polls (s : State) (at_ : Nat) : s.Polls (s.passTo at_) :=
  .of_follows (s.passTo_follows at_) (s.passTo_keeps at_)

theorem State.endPoll_busMoves (s : State) {f : State → Fin 6 → StationCfg → State} (hf : ∀ i e, s.Polls (f s i e)) :
    s.BusMoves (s.endPoll f) := by
  rcases s.endPoll_cases f with h | ⟨i, e, h⟩ <;> rw [h]
  · exact .refl s
  · exact ⟨(hf i e).trans (State.advance_polls _ _), fun _ => State.advance_served _ _⟩

theorem State.startCycle_served (s : State) : s.startCycle.cnt.Served := by
  unfold State.startCycle
  exact State.advance_served _ _

theorem exec_pollCycleStart_busMoves {s u : State} (e : exec .pollCycleStart s = .next u) : s.BusMoves u := by
  cases e
  split
  · exact ⟨(s.passTo_polls _).trans (State.startCycle_polls _), fun _ => State.startCycle_served _⟩
  · exact .refl s

theorem exec_pollAbort_busMoves {s u : State} (e : exec .pollAbort s = .next u) : s.BusMoves u := by
  cases e
  exact s.endPoll_busMoves fun i e => State.Polls.trans .quiet (State.judgeMiss_polls _ i e _)

theorem exec_replyReceived_busMoves {s u : State} {c1 c2 c3 c4 : Ch} {framing : Bool}
    (e : exec (.replyReceived c1 c2 c3 c4 framing) s = .next u) : s.BusMoves u := by
  cases e
  refine s.endPoll_busMoves fun i e => ?_
  split
  · exact s.judgeMiss_polls _ _ _
  · exact s.judgeGood_polls _ _ _ _

theorem exec_replyWindowClose_busMoves {s u : State} {started : Bool} (e : exec (.replyWindowClose started) s = .next u) :
    s.BusMoves u := by
  cases e
  exact s.endPoll_busMoves fun i e => s.judgeMiss_polls i e _

theorem exec_resetTimerExpiry_busMoves {s u : State} {i : Fin 6} (e : exec (.resetTimerExpiry i) s = .next u) : s.BusMoves u := by
  cases e
  split
  · exact ⟨(((s.passTo_polls _).trans (State.setStation_polls _ _ _)).trans (State.resetRequest_polls _)).trans
      (State.conclude_polls _), fun _ => State.conclude_served _⟩
  · exact .refl s

/-! ### Pins, the supply and the road speed -/

/-- What a command of a pin, of the supply or of the road speed does, and that no `SERVICE` notice is left over. -/
structure State.PinMoves (s t : State) : Prop where
  samples : s.Samples t
  served : s.cnt.Served → t.cnt.Served

theorem State.PinMoves.refl (s : State) : s.PinMoves s := ⟨.refl s, id⟩

theorem State.PinMoves.concluded {s t : State} (h : s.Samples t) : s.PinMoves t.conclude :=
  ⟨h.trans t.conclude_samples, fun _ => t.conclude_served⟩

theorem State.PinMoves.after {s t : State} (at_ : Nat) (h : (s.passTo at_).Samples t) : s.PinMoves t.conclude :=
  .concluded ((s.passTo_samples at_).trans h)

theorem exec_inputCountedChange_pinMoves {s u : State} {ins : List DInput} (e : exec (.inputCountedChange ins) s = .next u) :
    s.PinMoves u := by
  cases e
  dsimp only
  split
  · exact .refl s
  · exact .after _ (State.countInputs_samples _ _)

theorem exec_estopActive_pinMoves {s u : State} (e : exec .estopActive s = .next u) : s.PinMoves u := by
  cases e
  exact .concluded s.estopOn_samples

theorem exec_estopReleaseCounted_pinMoves {s u : State} (e : exec .estopReleaseCounted s = .next u) : s.PinMoves u := by
  cases e
  split
  · exact .after _ (State.estopReleased_samples _)
  · exact .refl s

theorem exec_speedComputation_pinMoves {s u : State} (e : exec .speedComputation s = .next u) : s.PinMoves u := by
  cases e
  exact .after _ .quiet

theorem exec_roadSpeedEdge_pinMoves {s u : State} (e : exec .roadSpeedEdge s = .next u) : s.PinMoves u := by
  cases e
  exact ⟨.quiet, id⟩

theorem exec_inputRawChange_pinMoves {s u : State} {i : RawInput} {level : Bool} (e : exec (.inputRawChange i level) s = .next u) :
    s.PinMoves u := by
  cases e
  exact .concluded (s.sampleRaw_samples _ _)

theorem exec_supplyStateChange_pinMoves {s u : State} (e : exec .supplyStateChange s = .next u) : s.PinMoves u := by
  cases e
  split
  · exact .after _ (State.enterSupply_samples _ _)
  · exact .refl s

theorem exec_contactorMade_pinMoves {s u : State} (e : exec .contactorMade s = .next u) : s.PinMoves u := by
  cases e
  split
  · exact ⟨.quiet, id⟩
  · exact .refl s

theorem exec_weldedContactor_pinMoves {s u : State} (e : exec .weldedContactor s = .next u) : s.PinMoves u := by
  cases e
  split
  · exact .after _ (State.welded_samples _)
  · exact .refl s

/-! ### The scan, the save and the line -/

/-- What a scan result with its drain does. -/
structure State.ScanMoves (s t : State) : Prop where
  keeps : s.Keeps t
  pending : t.pending = s.pending
  inputs : s.inputs.recounted t.inputs [.near, .off]
  startup : t.startup = s.startup
  served : s.cnt.Served → t.cnt.Served

theorem State.ScanMoves.refl (s : State) : s.ScanMoves s := ⟨.refl s, rfl, .refl _ _, rfl, id⟩

theorem State.takeScan_scanMoves (s : State) (codes : Scan) : s.ScanMoves (s.takeScan codes) := by
  have scanned : s.Scans ((s.passTo s.conv.nextAt).scan codes) :=
    (State.Scans.of_follows (s.passTo_follows _) (s.passTo_keeps _)).trans (State.scan_scans _ codes)
  have completed := State.completeCalp_takes ((s.passTo s.conv.nextAt).scan codes)
  have closed : State.Takes _ _ :=
    State.Takes.concluded completed.keeps completed.frames
  have taken := closed.trans (State.drain_takes _)
  refine ⟨scanned.keeps.trans taken.keeps, taken.frames.pending.trans scanned.pending, ?_,
    taken.frames.startup.trans scanned.startup, fun _ => State.Takes.served (State.drain_takes _) (State.conclude_served _)⟩
  have inputs : (s.takeScan codes).inputs = _ := taken.frames.inputs
  rw [inputs]
  exact scanned.inputs

theorem exec_scanResult_scanMoves {s u : State} {codes : Scan} (e : exec (.scanResult codes) s = .next u) : s.ScanMoves u := by
  cases e
  split
  · exact s.takeScan_scanMoves _
  · exact .refl s

theorem exec_calpCompletion_scanMoves {s u : State} {codes : Scan} (e : exec (.calpCompletion codes) s = .next u) :
    s.ScanMoves u := by
  cases e
  split
  · exact s.takeScan_scanMoves _
  · exact .refl s

/-- What the end of a save does. -/
structure State.Saves (s t : State) : Prop where
  keeps : s.Keeps t
  frames : s.Frames t
  settings : t.settings = s.settings
  link : t.link = s.link
  bus : t.bus = s.bus
  halt : t.halt = s.halt
  served : s.cnt.Served → t.cnt.Served

theorem State.Saves.refl (s : State) : s.Saves s := ⟨.refl s, .same, rfl, rfl, rfl, rfl, id⟩

theorem State.endSave_same (s : State) (x : Save) : s.endSave x = { s with store := (s.endSave x).store } := by
  unfold State.endSave
  dsimp only
  split <;> rfl

theorem exec_saveEnd_saves {s u : State} (e : exec .saveEnd s = .next u) : s.Saves u := by
  cases e
  split
  · next x _ =>
    rw [State.endSave_same]
    have f := s.passTo_follows x.endsAt
    exact ⟨(s.passTo_keeps _).trans .quiet, f.frames.trans .same, f.settings, f.link, f.bus, f.halt,
      fun h => State.passTime_served h _⟩
  · exact .refl s

/-- What the halt character, a break and the supervision timer do. -/
structure State.LineMoves (s t : State) : Prop where
  keeps : s.Keeps t
  frames : s.Frames t
  settings : t.settings = s.settings
  bus : t.bus = s.bus
  store : t.store = s.store
  served : s.cnt.Served → t.cnt.Served

theorem State.LineMoves.refl (s : State) : s.LineMoves s := ⟨.refl s, .same, rfl, rfl, rfl, id⟩

/-- The receiver emptied, with the halt count raised (R180, R184). -/
def Link.halted (l : Link) : Link :=
  { l.clear with counts := { l.clear.counts with halt := count16 l.clear.counts.halt } }

theorem Link.halted_wf {l : Link} (h : l.wf = true) : l.halted.wf = true :=
  Link.counted_wf (Link.clear_wf h) fun c => { c with halt := count16_le _ }

/-- The halt character: the halt event, the receiver emptied, and the close of the event (R180). -/
theorem State.haltChar_eq (s : State) :
    s.haltChar =
      ({ s.raiseHalt .linkChar with link := (s.raiseHalt .linkChar).link.halted } : State).conclude := rfl

theorem State.haltChar_lineMoves (s : State) : s.LineMoves s.haltChar := by
  have r := s.raiseHalt_samples .linkChar
  have f := s.raiseHalt_follows .linkChar
  have cleared : (s.raiseHalt .linkChar).Keeps
      { s.raiseHalt .linkChar with link := (s.raiseHalt .linkChar).link.halted } := .link Link.halted_wf
  rw [State.haltChar_eq]
  have c := State.conclude_follows { s.raiseHalt .linkChar with link := (s.raiseHalt .linkChar).link.halted }
  exact ⟨(r.keeps.trans cleared).trans (State.conclude_keeps _),
    ((s.raiseHalt_frames _).trans .same).trans c.frames, c.settings.trans r.settings, c.bus.trans r.bus,
    c.store.trans f.store, fun _ => State.conclude_served _⟩

theorem exec_haltCharacter_lineMoves {s u : State} (e : exec .haltCharacter s = .next u) : s.LineMoves u := by
  cases e
  exact s.haltChar_lineMoves

theorem exec_lineBreak_lineMoves {s u : State} (e : exec .lineBreak s = .next u) : s.LineMoves u := by
  cases e
  exact ⟨.link fun h => Link.counted_wf (Link.clear_wf h) fun c => { c with brk := count16_le _ }, .same, rfl, rfl, rfl,
    id⟩

theorem State.expire_follows (s : State) (byCount : Bool) :
    State.Follows { s with link := s.link.expired } (s.expire byCount) := by
  rw [State.expire_eq]
  exact (State.notify_follows _ _).trans (State.linkLostEnds_follows _)

theorem exec_supervisionTimerExpiry_lineMoves {s u : State} (e : exec .supervisionTimerExpiry s = .next u) : s.LineMoves u := by
  cases e
  split
  · next t _ _ =>
    have p := s.passTo_follows t
    have x := (s.passTo t).expire_follows false
    have c := ((s.passTo t).expire false).conclude_follows
    exact ⟨((s.passTo_keeps t).trans (State.expire_keeps _ _)).trans (State.conclude_keeps _),
      (p.frames.trans (State.expire_frames _ _)).trans c.frames, (c.settings.trans x.settings).trans p.settings,
      (c.bus.trans x.bus).trans p.bus, (c.store.trans x.store).trans p.store, fun _ => State.conclude_served _⟩
  · exact .refl s

theorem exec_transmitCharacterSent_takes {s u : State} (e : exec .transmitCharacterSent s = .next u) : s.Takes u := by
  cases e
  split
  · exact .refl s
  · exact (State.Takes.link Link.sent_wf).trans (State.drain_takes _)

theorem exec_rejectedRecord_takes {s u : State} {text : List Ch} (e : exec (.rejectedRecord text) s = .next u) : s.Takes u := by
  cases e
  exact s.deliverText_takes _

/-- A request's row is the arrival of its record. -/
theorem exec_request_takes {s u : State} {r : Request} (e : (.next (s.deliver r) : Answer) = .next u) : s.Takes u := by
  cases e
  exact s.deliver_takes r

theorem exec_characterReceived_takes {s u : State} {c : Ch} {framing : Bool} (e : exec (.characterReceived c framing) s = .next u) :
    s.Takes u := by
  cases e
  split
  · have m := s.haltChar_lineMoves
    exact ⟨m.keeps, m.frames, m.served⟩
  · exact (State.Takes.link fun h => Link.receive_wf h c framing).trans (State.drain_takes _)

/-! ### Start-up -/

/-- A reset gives the bounds and the handles, whatever stood before it (R199). -/
theorem State.restart_inv (s : State) (k : ResetKind) (strap : Bool) : (s.restart k strap).inv = true := by
  have reset := (State.inv_iff State.reset).mp (by decide)
  obtain ⟨b, v⟩ := reset
  exact (State.inv_iff _).mpr ⟨⟨b.notes, (Link.wf_iff _).mpr ((Link.wf_iff _).mp b.link), b.plan, b.cnt, b.beac, nofun⟩, v⟩

/-- The table right after reset has its handles in good order. -/
theorem Plan.reset_handlesGood : State.reset.plan.handlesGood = true := by decide

theorem State.restart_keeps (s : State) (k : ResetKind) (strap : Bool) : s.Keeps (s.restart k strap) :=
  ⟨fun _ => ((State.inv_iff _).mp (s.restart_inv k strap)).1, fun _ _ => Plan.reset_handlesGood⟩

theorem State.restart_served (s : State) (k : ResetKind) (strap : Bool) : (s.restart k strap).cnt.Served :=
  ((State.inv_iff _).mp (s.restart_inv k strap)).2

/-- Counters replaced by valid ones, and derating decided from them (R169). -/
theorem State.decided_keeps {s m : State} (plan : m.plan = s.plan) (link : m.link = s.link) (halt : m.halt = s.halt)
    (beac : m.beac = s.beac) (notes : ∃ ns, m.notes = s.notes.pushAll ns)
    (valid : ∀ j : Fin 8, (m.cnt.recs[j]).valid = true) : s.Keeps m.decideDerating := by
  have c := m.decideDerating_counts
  have f := m.decideDerating_follows
  refine .of_thins ((State.Thins.same plan).trans m.decideDerating_thins) ⟨?_, ?_, fun _ => ?_⟩ ?_ (fun h => ?_) fun h => .inr ?_
  · rw [c.beac, beac]
  · rw [c.beac, beac]
  · rw [State.decideDerating_cnt]
    exact ⟨valid, rfl⟩
  · obtain ⟨xs, hx⟩ := notes
    obtain ⟨ys, hy⟩ := f.notes
    exact ⟨xs ++ ys, by rw [hy, hx, NoticeQueue.pushAll_append]⟩
  · rw [f.link, link]
    exact h
  · rwa [f.halt, halt] at h

theorem Counters.defaultRecs_valid (j : Fin 8) : (Counters.defaultRecs[j]).valid = true := by
  revert j
  decide

/-- The image loaded, or the defaults, and derating as the counters have it (R199). -/
theorem State.loadImage_keeps (s : State) : s.Keeps s.loadImage.decideDerating := by
  unfold State.loadImage
  split
  · next good =>
    refine State.decided_keeps rfl rfl rfl rfl ⟨[], rfl⟩ fun j => ?_
    unfold Image.good at good
    exact (vector_all_iff _ _).mp (Bool.and_eq_true_iff.mp good).2 j
  · exact State.decided_keeps rfl rfl rfl rfl ⟨[_], rfl⟩ Counters.defaultRecs_valid

theorem State.loadImage_pending (s : State) : s.loadImage.pending = s.pending := by
  unfold State.loadImage
  split <;> rfl

/-- What the end of the image read does. -/
structure State.Starts (s t : State) : Prop where
  keeps : s.Keeps t
  pending : t.pending = s.pending
  served : s.cnt.Served → t.cnt.Served

theorem State.finishRead_starts (s : State) : s.Starts s.finishRead := by
  unfold State.finishRead
  extract_lets s1 s2
  have begun : s.loadImage.decideDerating.Keeps s1 := .quiet
  have halted : s1.Samples s2 := by
    show s1.Samples (if _ then _ else _)
    split
    · exact s1.estopOn_samples
    · exact .refl s1
  have closed := s2.conclude_samples
  have drained := s2.conclude.drain_takes
  refine ⟨((s.loadImage_keeps.trans begun).trans halted.keeps).trans (closed.keeps.trans drained.keeps), ?_,
    fun _ => drained.served s2.conclude_served⟩
  rw [drained.frames.pending, closed.pending, halted.pending]
  exact s.loadImage.decideDerating_follows.pending.trans s.loadImage_pending

theorem exec_imageReadEnd_starts {s u : State} (e : exec .imageReadEnd s = .next u) : s.Starts u := by
  cases e
  split
  · have f := State.finishRead_starts (s.passTo Config.imageReadMs)
    exact ⟨(s.passTo_keeps _).trans f.keeps, f.pending.trans (s.passTo_follows _).pending,
      fun h => f.served (State.passTime_served h _)⟩
  · exact ⟨.refl s, rfl, id⟩

theorem exec_powerOnReset_starts {s u : State} {strap : Bool} (e : exec (.powerOnReset strap) s = .next u) : s.Starts u := by
  cases e
  exact ⟨s.restart_keeps _ _, rfl, fun _ => s.restart_served _ _⟩

theorem exec_resetPin_starts {s u : State} {strap : Bool} (e : exec (.resetPin strap) s = .next u) : s.Starts u := by
  cases e
  exact ⟨s.restart_keeps _ _, rfl, fun _ => s.restart_served _ _⟩

end Sys2Proof.Machine
end

section
/-!
The statements on every step: the bounds (O3), the handles (O4), the frames (O60), the step itself (O1) and the reset (O2).
-/

namespace Sys2Proof.Machine

section
variable {s u : State}

theorem State.Moves.starts (m : s.Moves u) : s.Starts u := ⟨m.keeps, m.follows.pending, m.served⟩

theorem State.Swings.starts {side : Side} (m : s.Swings u side) : s.Starts u := ⟨m.keeps, m.follows.1.pending, m.served⟩

theorem State.BusMoves.starts (m : s.BusMoves u) : s.Starts u := ⟨m.polls.keeps, m.polls.frames.pending, m.served⟩

theorem State.PinMoves.starts (m : s.PinMoves u) : s.Starts u := ⟨m.samples.keeps, m.samples.pending, m.served⟩

theorem State.ScanMoves.starts (m : s.ScanMoves u) : s.Starts u := ⟨m.keeps, m.pending, m.served⟩

theorem State.Saves.starts (m : s.Saves u) : s.Starts u := ⟨m.keeps, m.frames.pending, m.served⟩

theorem State.LineMoves.starts (m : s.LineMoves u) : s.Starts u := ⟨m.keeps, m.frames.pending, m.served⟩

theorem State.Takes.starts (m : s.Takes u) : s.Starts u := ⟨m.keeps, m.frames.pending, m.served⟩

/-- Every command keeps the bounds and the handles, and leaves the queue. -/
theorem exec_starts {c : Instr} (e : exec c s = .next u) : s.Starts u := by
  cases c with
  | powerOnReset => exact exec_powerOnReset_starts e
  | resetPin => exact exec_resetPin_starts e
  | imageReadEnd => exact exec_imageReadEnd_starts e
  | characterReceived => exact (exec_characterReceived_takes e).starts
  | haltCharacter => exact (exec_haltCharacter_lineMoves e).starts
  | lineBreak => exact (exec_lineBreak_lineMoves e).starts
  | rejectedRecord => exact (exec_rejectedRecord_takes e).starts
  | transmitCharacterSent => exact (exec_transmitCharacterSent_takes e).starts
  | calpCompletion => exact (exec_calpCompletion_scanMoves e).starts
  | supervisionTimerExpiry => exact (exec_supervisionTimerExpiry_lineMoves e).starts
  | waitLimitExpiry => exact (exec_waitLimitExpiry_moves e).starts
  | leadTimeExpiry => exact (exec_leadTimeExpiry_moves e).starts
  | holdTimerExpiry => exact (exec_holdTimerExpiry_moves e).starts
  | inputCountedChange => exact (exec_inputCountedChange_pinMoves e).starts
  | estopActive => exact (exec_estopActive_pinMoves e).starts
  | estopReleaseCounted => exact (exec_estopReleaseCounted_pinMoves e).starts
  | speedComputation => exact (exec_speedComputation_pinMoves e).starts
  | contactorMade => exact (exec_contactorMade_pinMoves e).starts
  | contactorMakeTimeout => exact (exec_contactorMakeTimeout_moves e).starts
  | contactorDropout => exact (exec_contactorDropout_moves e).starts
  | weldedContactor => exact (exec_weldedContactor_pinMoves e).starts
  | pumpRestPassed => exact (exec_pumpRestPassed_moves e).starts
  | pumpOvercurrent => exact (exec_pumpOvercurrent_moves e).starts
  | supplyStateChange => exact (exec_supplyStateChange_pinMoves e).starts
  | scanResult => exact (exec_scanResult_scanMoves e).starts
  | settleTimerExpiry => exact (exec_settleTimerExpiry_moves e).starts
  | stall => exact (exec_stall_moves e).starts
  | runLimitTimeout => exact (exec_runLimitTimeout_moves e).starts
  | groundTimeExpiry => exact (exec_groundTimeExpiry_moves e).starts
  | overload => exact (exec_overload_moves e).starts
  | unlatchWindowExpiry => exact (exec_unlatchWindowExpiry_moves e).starts
  | doortimeExpiry => exact (exec_doortimeExpiry_swings e).starts
  | pullinWindowExpiry => exact (exec_pullinWindowExpiry_swings e).starts
  | obstruction => exact (exec_obstruction_swings e).starts
  | reverseEnd => exact (exec_reverseEnd_swings e).starts
  | pollCycleStart => exact (exec_pollCycleStart_busMoves e).starts
  | pollAbort => exact (exec_pollAbort_busMoves e).starts
  | replyReceived => exact (exec_replyReceived_busMoves e).starts
  | replyWindowClose => exact (exec_replyWindowClose_busMoves e).starts
  | resetTimerExpiry => exact (exec_resetTimerExpiry_busMoves e).starts
  | patternSlot => exact (exec_patternSlot_moves e).starts
  | lampCheck => exact (exec_lampCheck_moves e).starts
  | readbackMismatch => exact (exec_readbackMismatch_moves e).starts
  | rearTrailExpiry => exact (exec_rearTrailExpiry_moves e).starts
  | sideTrailExpiry => exact (exec_sideTrailExpiry_moves e).starts
  | durationCount => exact (exec_durationCount_moves e).starts
  | saveEnd => exact (exec_saveEnd_saves e).starts
  | roadSpeedEdge => exact (exec_roadSpeedEdge_pinMoves e).starts
  | inputRawChange => exact (exec_inputRawChange_pinMoves e).starts
  | _ => exact (exec_request_takes e).starts

/-- Every step keeps the bounds and the handles. -/
theorem step_keeps (e : step s = .next u) : s.Keeps u ∧ (s.cnt.Served → u.cnt.Served) := by
  unfold step at e
  split at e
  · cases e
    exact ⟨.of_follows (s.passTime_follows 1) (s.passTime_thins 1) (s.passTime_paced 1), fun h => State.passTime_served h 1⟩
  · next c rest _ =>
    have taken := exec_starts e
    exact ⟨State.Keeps.trans .quiet taken.keeps, taken.served⟩

/-! ### What each kind of command leaves as it is -/

theorem State.Frames.apart (f : s.Frames u) :
    u.pending = s.pending ∧ u.conv = s.conv ∧ u.inputs = s.inputs ∧ u.supply = s.supply ∧ u.startup = s.startup ∧
      u.eval.edges = s.eval.edges ∧ u.eval.speed = s.eval.speed :=
  ⟨f.pending, f.conv, f.inputs, f.supply, f.startup, f.edges, f.speed⟩

theorem State.Frames.line (f : s.Frames u) : u.pending = s.pending ∧ u.conv = s.conv ∧ u.inputs = s.inputs :=
  ⟨f.pending, f.conv, f.inputs⟩

theorem State.Swings.apart {side : Side} (m : s.Swings u side) :
    u.pending = s.pending ∧ u.conv = s.conv ∧ u.supply = s.supply ∧ u.startup = s.startup ∧
      u.eval.edges = s.eval.edges ∧ u.eval.speed = s.eval.speed :=
  have f := m.follows.1
  ⟨f.pending, f.conv, f.supply, f.startup, f.edges, f.speed⟩

theorem State.BusMoves.apart (m : s.BusMoves u) :
    u.pending = s.pending ∧ u.conv = s.conv ∧ u.inputs = s.inputs ∧ u.link = s.link ∧ u.store = s.store ∧
      u.settings = s.settings ∧ u.supply = s.supply ∧ u.startup = s.startup ∧ u.eval.edges = s.eval.edges ∧
      u.eval.speed = s.eval.speed :=
  have p := m.polls
  have f := p.frames
  ⟨f.pending, f.conv, f.inputs, p.link, p.store, p.settings, f.supply, f.startup, f.edges, f.speed⟩

theorem State.PinMoves.apart (m : s.PinMoves u) :
    u.pending = s.pending ∧ u.conv = s.conv ∧ u.link = s.link ∧ u.bus = s.bus ∧ u.settings = s.settings ∧
      u.startup = s.startup :=
  have p := m.samples
  ⟨p.pending, p.conv, p.link, p.bus, p.settings, p.startup⟩

theorem State.ScanMoves.apart (m : s.ScanMoves u) :
    u.pending = s.pending ∧ s.inputs.recounted u.inputs [.near, .off] ∧ u.startup = s.startup :=
  ⟨m.pending, m.inputs, m.startup⟩

theorem State.Saves.apart (m : s.Saves u) :
    u.pending = s.pending ∧ u.conv = s.conv ∧ u.inputs = s.inputs ∧ u.link = s.link ∧ u.bus = s.bus ∧
      u.halt = s.halt ∧ u.supply = s.supply ∧ u.startup = s.startup :=
  have f := m.frames
  ⟨f.pending, f.conv, f.inputs, m.link, m.bus, m.halt, f.supply, f.startup⟩

theorem State.LineMoves.apart (m : s.LineMoves u) :
    u.pending = s.pending ∧ u.conv = s.conv ∧ u.inputs = s.inputs ∧ u.bus = s.bus ∧ u.store = s.store ∧
      u.supply = s.supply ∧ u.startup = s.startup :=
  have f := m.frames
  ⟨f.pending, f.conv, f.inputs, m.bus, m.store, f.supply, f.startup⟩

end

/-! ### The statements -/

/-- Settles O3: each command keeps the bounds, by the lemmas of its block, and so does an idle millisecond. -/
theorem stepKeepsBounds : Obligations.StepKeepsBounds := by
  intro s t h e
  obtain ⟨bounded, served⟩ := (State.inv_iff s).mp h
  obtain ⟨keeps, kept⟩ := step_keeps e
  exact (State.inv_iff t).mpr ⟨keeps.bounded bounded, kept served⟩

/-- Settles O4: records are only admitted with the first free handle, and leave the table for the list. -/
theorem stepKeepsHandles : Obligations.StepKeepsHandles := by
  intro s t h g e
  exact (step_keeps e).1.handles ((State.inv_iff s).mp h).1 g

/-- Settles O60, command by command. -/
theorem eventFrames : Obligations.EventFrames := by
  unfold Obligations.EventFrames
  refine ⟨fun s u c e => ?_, fun s u c e => ?_⟩
  · cases c with
    | waitLimitExpiry => exact (exec_waitLimitExpiry_moves e).follows
    | leadTimeExpiry => exact (exec_leadTimeExpiry_moves e).follows
    | holdTimerExpiry => exact (exec_holdTimerExpiry_moves e).follows
    | contactorMakeTimeout => exact (exec_contactorMakeTimeout_moves e).follows
    | contactorDropout => exact (exec_contactorDropout_moves e).follows
    | pumpRestPassed => exact (exec_pumpRestPassed_moves e).follows
    | pumpOvercurrent => exact (exec_pumpOvercurrent_moves e).follows
    | settleTimerExpiry => exact (exec_settleTimerExpiry_moves e).follows
    | stall => exact (exec_stall_moves e).follows
    | runLimitTimeout => exact (exec_runLimitTimeout_moves e).follows
    | groundTimeExpiry => exact (exec_groundTimeExpiry_moves e).follows
    | overload => exact (exec_overload_moves e).follows
    | unlatchWindowExpiry => exact (exec_unlatchWindowExpiry_moves e).follows
    | doortimeExpiry => exact (exec_doortimeExpiry_swings e).follows
    | pullinWindowExpiry => exact (exec_pullinWindowExpiry_swings e).follows
    | obstruction => exact (exec_obstruction_swings e).follows
    | reverseEnd => exact (exec_reverseEnd_swings e).follows
    | patternSlot => exact (exec_patternSlot_moves e).follows
    | lampCheck => exact (exec_lampCheck_moves e).follows
    | readbackMismatch => exact (exec_readbackMismatch_moves e).follows
    | rearTrailExpiry => exact (exec_rearTrailExpiry_moves e).follows
    | sideTrailExpiry => exact (exec_sideTrailExpiry_moves e).follows
    | durationCount => exact (exec_durationCount_moves e).follows
    | _ => exact trivial
  · cases c with
    | powerOnReset => exact ⟨(exec_powerOnReset_starts e).pending, trivial⟩
    | resetPin => exact ⟨(exec_resetPin_starts e).pending, trivial⟩
    | imageReadEnd => exact ⟨(exec_imageReadEnd_starts e).pending, trivial⟩
    | characterReceived => exact (exec_characterReceived_takes e).frames.line
    | haltCharacter => exact (exec_haltCharacter_lineMoves e).apart
    | lineBreak => exact (exec_lineBreak_lineMoves e).apart
    | rejectedRecord => exact (exec_rejectedRecord_takes e).frames.line
    | transmitCharacterSent => exact (exec_transmitCharacterSent_takes e).frames.line
    | calpCompletion => exact (exec_calpCompletion_scanMoves e).apart
    | supervisionTimerExpiry => exact (exec_supervisionTimerExpiry_lineMoves e).apart
    | waitLimitExpiry => exact (exec_waitLimitExpiry_moves e).follows.frames.apart
    | leadTimeExpiry => exact (exec_leadTimeExpiry_moves e).follows.frames.apart
    | holdTimerExpiry => exact (exec_holdTimerExpiry_moves e).follows.frames.apart
    | inputCountedChange => exact (exec_inputCountedChange_pinMoves e).apart
    | estopActive => exact (exec_estopActive_pinMoves e).apart
    | estopReleaseCounted => exact (exec_estopReleaseCounted_pinMoves e).apart
    | speedComputation => exact (exec_speedComputation_pinMoves e).apart
    | contactorMade => exact (exec_contactorMade_pinMoves e).apart
    | contactorMakeTimeout => exact (exec_contactorMakeTimeout_moves e).follows.frames.apart
    | contactorDropout => exact (exec_contactorDropout_moves e).follows.frames.apart
    | weldedContactor => exact (exec_weldedContactor_pinMoves e).apart
    | pumpRestPassed => exact (exec_pumpRestPassed_moves e).follows.frames.apart
    | pumpOvercurrent => exact (exec_pumpOvercurrent_moves e).follows.frames.apart
    | supplyStateChange => exact (exec_supplyStateChange_pinMoves e).apart
    | scanResult => exact (exec_scanResult_scanMoves e).apart
    | settleTimerExpiry => exact (exec_settleTimerExpiry_moves e).follows.frames.apart
    | stall => exact (exec_stall_moves e).follows.frames.apart
    | runLimitTimeout => exact (exec_runLimitTimeout_moves e).follows.frames.apart
    | groundTimeExpiry => exact (exec_groundTimeExpiry_moves e).follows.frames.apart
    | overload => exact (exec_overload_moves e).follows.frames.apart
    | unlatchWindowExpiry => exact (exec_unlatchWindowExpiry_moves e).follows.frames.apart
    | doortimeExpiry => exact (exec_doortimeExpiry_swings e).apart
    | pullinWindowExpiry => exact (exec_pullinWindowExpiry_swings e).apart
    | obstruction => exact (exec_obstruction_swings e).apart
    | reverseEnd => exact (exec_reverseEnd_swings e).apart
    | pollCycleStart => exact (exec_pollCycleStart_busMoves e).apart
    | pollAbort => exact (exec_pollAbort_busMoves e).apart
    | replyReceived => exact (exec_replyReceived_busMoves e).apart
    | replyWindowClose => exact (exec_replyWindowClose_busMoves e).apart
    | resetTimerExpiry => exact (exec_resetTimerExpiry_busMoves e).apart
    | patternSlot => exact (exec_patternSlot_moves e).follows.frames.apart
    | lampCheck => exact (exec_lampCheck_moves e).follows.frames.apart
    | readbackMismatch => exact (exec_readbackMismatch_moves e).follows.frames.apart
    | rearTrailExpiry => exact (exec_rearTrailExpiry_moves e).follows.frames.apart
    | sideTrailExpiry => exact (exec_sideTrailExpiry_moves e).follows.frames.apart
    | durationCount => exact (exec_durationCount_moves e).follows.frames.apart
    | saveEnd => exact (exec_saveEnd_saves e).apart
    | roadSpeedEdge => exact (exec_roadSpeedEdge_pinMoves e).apart
    | inputRawChange => exact (exec_inputRawChange_pinMoves e).apart
    | _ => exact (exec_request_takes e).frames.apart

/-- Settles O1: the two arms of the step. -/
theorem stepTakesFrontCommand : Obligations.StepTakesFrontCommand := by
  refine ⟨fun s c rest => rfl, fun s h => ⟨s.passTime 1, ?_, s.passTime_follows 1, s.passTime_now 1⟩⟩
  rw [step, h]

/-- Settles O2, by evaluation of the reset state. -/
theorem resetMeetsInvariants : Obligations.ResetMeetsInvariants := by
  refine ⟨?_, Plan.reset_handlesGood, ?_⟩ <;> decide

end Sys2Proof.Machine
end

section
/-!
The agreement of records, resources and outputs is not kept by every step: `State.sound` does not ask that a record with a
predecessor in the table be `PENDING` (R5), and a state that it accepts leads to one that it refuses.
-/

namespace Sys2Proof.Machine

/-- A record for a door as an admission leaves it, in a state of its own and behind a predecessor or none. -/
def doorShutRecord (h : Handle) (side : Side) (st : RecState) (pred : Option Handle) : Record :=
  { handle := h, kind := .doorShut, side := some side, origin := .link, target := none, pred := pred, seq := none,
    creep := false, state := st, wait := none, flags := ⟨false, false, false, false, false⟩, pump := none, holds := 0,
    nudges := 0, start := none, ended := none, waitFrom := none, leadEnd := none, holdFrom := none, key := none }

/-- The record of NEAR runs and holds its channel, and has a predecessor: the record of OFF, which waits for a door that is
already shut. The next event of the queue closes with a look. -/
def successorRuns : State :=
  { State.reset with
    pending := [.speedComputation]
    plan :=
      { State.reset.plan with
        records := [doorShutRecord 1 .off .waiting none, doorShutRecord 2 .near .running (some 1)]
        peak := 2, nextHandle := 3 }
    arb := { State.reset.arb with near := some ⟨2, 18⟩ }
    near := Door.reset.enter .closing 0
    off := { Door.reset with state := .shut } }

theorem successorRuns_meets :
    successorRuns.inv = true ∧ successorRuns.plan.handlesGood = true ∧ successorRuns.sound = true := by decide

/-- The look grants OFF to the first record, which is already there and ends `DONE`; its successor is freed and goes to
`WAITING` while it still drives NEAR. -/
theorem successorRuns_breaks : ∃ t, step successorRuns = .next t ∧ t.sound = false := ⟨_, rfl, by decide⟩

/-- Refutes O5: a granted record whose predecessor ends `DONE` goes to `WAITING` and keeps its resource. -/
theorem not_stepKeepsDrives : ¬ Obligations.StepKeepsDrives := by
  intro keeps
  obtain ⟨inv, handles, sound⟩ := successorRuns_meets
  obtain ⟨t, taken, broken⟩ := successorRuns_breaks
  have kept := keeps successorRuns t inv handles sound taken
  rw [broken] at kept
  cases kept

end Sys2Proof.Machine
end

section
/-!
Motion requests: the forms of `MOVE` and `SEQN` (O16), the admission of a record (O17 to O19), the refusals (O20) and the
admission of a chain (O21), in the terms of R2 to R5 and R16 to R20.
-/

namespace Sys2Proof.Machine

/-! ### A request that can be taken at once (R182, R183) -/

/-- A request taken at once whose whole effect is a reply. -/
theorem State.serve_replies {s : State} {t : Tag} {n : ReqName} {fs : List Field} (h : s.ready ⟨t, n, fs⟩) {w : String}
    {out : List Field} (e : s.serve ⟨t, n, fs⟩ = s.answer t n w out) :
    ∃ u, (.next (s.deliver ⟨t, n, fs⟩) : Answer) = .next u ∧ s.replies u t n w out :=
  ⟨_, rfl, by rw [State.deliver_ready h, e]; exact State.answer_ready h rfl t n w out⟩

/-- A request taken at once that has an effect and then a reply. -/
theorem State.serve_replies_after {s x : State} {t : Tag} {n : ReqName} {fs : List Field} (h : s.ready ⟨t, n, fs⟩)
    {w : String} {out : List Field} (e : s.serve ⟨t, n, fs⟩ = x.answer t n w out) (hx : x.link = s.link) :
    ∃ u, (.next (s.deliver ⟨t, n, fs⟩) : Answer) = .next u ∧ x.replies u t n w out :=
  ⟨_, rfl, by rw [State.deliver_ready h, e]; exact State.answer_ready h hx t n w out⟩

/-- The close of an event leaves the link. -/
theorem State.conclude_link {s x : State} (h : x.link = s.link) : x.conclude.link = s.link :=
  x.conclude_follows.link.trans h

/-! ### The forms of `MOVE` and `SEQN` (R19, R20) -/

theorem moveOptions_of_form {opts : List Field} {a : Option Int} {creep : Bool}
    (h : (opts, a, creep) ∈ [([], none, false), ([.word "CREEP"], none, true)] ∨
      (∃ h, a = some h ∧ (opts, creep) ∈
        [([.wnum "AFTER" h], false), ([.wnum "AFTER" h, .word "CREEP"], true), ([.word "CREEP", .wnum "AFTER" h], true)])) :
    moveOptions opts = some (a, creep) := by
  simp only [List.mem_cons, List.not_mem_nil, or_false, Prod.mk.injEq] at h
  rcases h with (⟨rfl, rfl, rfl⟩ | ⟨rfl, rfl, rfl⟩) | ⟨n, rfl, ⟨rfl, rfl⟩ | ⟨rfl, rfl⟩ | ⟨rfl, rfl⟩⟩ <;> simp [moveOptions]

theorem readMove_word {w : String} {k : Kind} (h : reading Kind.all Kind.word w = some k) (rest : List Field) :
    readMove (.word w :: rest) = moveRest k rest := by
  simp [readMove, h]

/-- Each door kind reads its side and takes no `CREEP` (R19). -/
theorem moveRest_door {k : Kind} (hk : k = .doorOpen ∨ k = .doorShut) (side : Side) {opts : List Field} {a : Option Int}
    {creep : Bool} (h : moveOptions opts = some (a, creep)) :
    moveRest k (.word (sideWord side) :: opts) = if creep then none else some ⟨k, some side, none, a, false⟩ := by
  have hs : reading allSides sideWord (sideWord side) = some side := by cases side <;> decide
  rcases hk with rfl | rfl <;> cases creep <;> simp [moveRest, hs, h]

/-- What a form that reads has: a target for `LIFT` and `TILT` alone, a side for a door alone, and `CREEP` for none of
these (R19). -/
theorem moveRest_fields {k : Kind} {fs : List Field} {f : MoveForm} (e : moveRest k fs = some f) :
    (f.target.isSome ↔ f.kind = .lift ∨ f.kind = .tilt) ∧ (f.side.isSome ↔ f.kind = .doorOpen ∨ f.kind = .doorShut) ∧
      (f.side.isSome → f.creep = false) := by
  unfold moveRest at e
  split at e
  case h_6 | h_7 =>
    split at e
    · cases e
      simp
    · cases e
  case h_8 => cases e
  all_goals
    obtain ⟨o, -, rfl⟩ := Option.map_eq_some_iff.mp e
    simp

/-- Settles O16, form by form. -/
theorem motionFormsRead : Obligations.MotionFormsRead := by
  refine ⟨⟨fun opts a creep h => ?_, fun fs f e => ?_⟩, fun s => ?_⟩
  · have o := moveOptions_of_form h
    refine ⟨fun n => ?_, fun n => ?_, ?_, ?_, ?_, fun k w side hk => ?_⟩
    · rw [readMove_word (k := .lift) (by decide)]
      simp [moveRest, o]
    · rw [readMove_word (k := .tilt) (by decide)]
      simp [moveRest, o]
    · rw [readMove_word (k := .level) (by decide)]
      simp [moveRest, o]
    · rw [readMove_word (k := .stow) (by decide)]
      simp [moveRest, o]
    · rw [readMove_word (k := .unstow) (by decide)]
      simp [moveRest, o]
    · simp only [List.mem_cons, List.not_mem_nil, or_false, Prod.mk.injEq] at hk
      rcases hk with ⟨rfl, rfl⟩ | ⟨rfl, rfl⟩
      · rw [readMove_word (k := .doorOpen) (by decide)]
        exact moveRest_door (.inl rfl) side o
      · rw [readMove_word (k := .doorShut) (by decide)]
        exact moveRest_door (.inr rfl) side o
  · unfold readMove at e
    split at e
    · split at e
      · exact moveRest_fields e
      · cases e
    · cases e
  · refine ⟨?_, rfl, rfl, rfl, rfl, by decide, by decide, by decide, by decide⟩
    unfold State.stowed
    cases s.chanValue 1 <;> simp

/-! ### The record an admission makes (R2 to R5, R18) -/

/-- A record without a predecessor enters `BLOCKED` on its first false required condition (R5, R12). -/
theorem State.compete_blocked {s : State} {r : Record} {c : Cond} (h : s.firstFalse r (s.required r) = some c) :
    s.compete r = { r with pred := none, state := .blocked, wait := some (.cond c), waitFrom := some s.now } := by
  have h : s.firstFalse { r with pred := none } (s.required { r with pred := none }) = some c := h
  simp only [State.compete, State.entry, h]

/-- A record without a predecessor whose conditions all hold enters `WAITING` (R5, R12). -/
theorem State.compete_waiting {s : State} {r : Record} (h : s.firstFalse r (s.required r) = none) :
    s.compete r =
      { r with
        pred := none, state := .waiting, wait := if r.state = .waiting then r.wait else none, waitFrom := some s.now } := by
  have h : s.firstFalse { r with pred := none } (s.required { r with pred := none }) = none := h
  simp only [State.compete, State.entry, h]

/-- What a record that competes keeps. -/
theorem State.compete_same (s : State) (r : Record) :
    s.compete r =
      { r with pred := none, state := (s.compete r).state, wait := (s.compete r).wait, waitFrom := some s.now } := by
  cases h : s.firstFalse r (s.required r) with
  | none => rw [State.compete_waiting h]
  | some c => rw [State.compete_blocked h]

/-- The conditions that a record requires do not look at its state (R36, R38). -/
theorem State.firstFalse_compete (s : State) (r : Record) :
    s.firstFalse (s.compete r) (s.required (s.compete r)) = s.firstFalse r (s.required r) := by
  rw [State.compete_same]
  rfl

theorem clampInt_eq {lo hi n : Int} (h : lo ≤ hi) : clampInt lo hi n = if n < lo then lo else if hi < n then hi else n := by
  unfold clampInt
  split
  · omega
  · split <;> omega

theorem State.make_target (s : State) (a : Ask) : (s.make a).target = a.target.map (s.clampTarget a.kind) := rfl

theorem State.make_clamped (s : State) (a : Ask) :
    (s.make a).flags.clamped = true ↔ a.target.map (s.clampTarget a.kind) ≠ a.target := by
  simp [State.make]

/-- Settles O17: the record is made before its state is decided, and keeps target and flags through that. -/
theorem admissionClamps : Obligations.AdmissionClamps := by
  refine ⟨rfl, rfl, fun s a n ha => ⟨fun hk top => ?_, fun hk => ?_, ?_⟩⟩
  · rw [State.make_target, State.make_clamped, ha, hk]
    simp only [Option.map_some, State.clampTarget, clampInt_eq top, ne_eq, Option.some.injEq, true_and]
    split
    · omega
    · split <;> omega
  · rw [State.make_target, State.make_clamped, ha, hk]
    simp only [Option.map_some, State.clampTarget, clampInt_eq (show (-100 : Int) ≤ 150 by decide), ne_eq,
      Option.some.injEq, true_and]
    split
    · omega
    · split <;> omega
  · obtain ⟨r, hr, hh, he⟩ := s.enrol_records a
    refine ⟨r, by rw [hr]; simp, hh, ?_⟩
    rw [he]
    split
    · exact ⟨rfl, rfl⟩
    · rw [State.compete_same]
      exact ⟨rfl, rfl⟩

/-- Settles O18, by the search of `firstFree`. -/
theorem handlesAllocated : Obligations.HandlesAllocated := by
  intro s inv good
  obtain ⟨d, hd, he, hfree, hused⟩ := Plan.newHandle_first ((State.inv_iff s).mp inv).1.plan good
  obtain ⟨-, -, next, -⟩ := (Plan.handlesGood_iff _).mp good
  obtain ⟨lo, hi⟩ := firstFree_range s.plan.used 255 s.plan.nextHandle next.1 next.2
  refine ⟨hfree, lo, hi, fun d' hd' he' => ?_, fun a => ?_⟩
  · have same : d' = d := cycled_injective hd' hd (he'.symm.trans he)
    rw [same]
    exact hused
  · show succ255 s.plan.newHandle = _
    have hi : s.plan.newHandle ≤ 255 := hi
    unfold succ255
    split <;> split <;> omega

/-! ### `MOVE` -/

theorem MoveForm.ask_make (s : State) (f : MoveForm) (p : Option Handle) :
    (s.make (f.ask p)).flags.clamped = true ↔ (s.make (f.ask p)).target ≠ f.target := State.make_clamped s _

/-- Settles O19. -/
theorem moveAdmits : Obligations.MoveAdmits := by
  intro s t fs f p ready form range clear pred room
  obtain ⟨r, hr, hh, he⟩ := s.enrol_records (f.ask p)
  have served : s.serve ⟨t, .move, fs⟩ = s.takeMove t (f.ask p) := by
    simp [State.serve, State.reqMove, form, range, clear, pred, Config.tableCap, room]
  have flags : r.flags = (s.make (f.ask p)).flags := by
    rw [he]
    split
    · rfl
    · rw [State.compete_same]
  obtain ⟨u, hu, replied⟩ := State.serve_replies_after ready served (State.conclude_link rfl)
  refine ⟨u, s.enrol (f.ask p), r, hu, ?_, rfl, hr, rfl, rfl, rfl, hh, ?_⟩
  · rw [flags]
    exact replied
  · cases p with
    | some k =>
      have he : r = s.make (f.ask (some k)) := he
      subst he
      exact ⟨rfl, rfl, rfl, rfl, rfl, rfl, MoveForm.ask_make s f _, rfl, rfl, rfl, rfl, rfl, fun _ => ⟨rfl, rfl⟩, nofun,
        nofun⟩
    | none =>
      have he : r = s.compete (s.make (f.ask none)) := he
      have conditions : s.firstFalse r (s.required r) = _ := he ▸ s.firstFalse_compete (s.make (f.ask none))
      have kept := s.compete_same (s.make (f.ask none))
      rw [← he] at kept
      refine ⟨by rw [kept]; rfl, by rw [kept]; rfl, by rw [kept]; rfl, by rw [kept], by rw [kept]; rfl, by rw [kept]; rfl,
        by rw [kept]; exact MoveForm.ask_make s f _, by rw [kept]; rfl, by rw [kept]; rfl, by rw [kept]; rfl,
        by rw [kept]; rfl, by rw [kept]; rfl, nofun, fun _ hc => ?_, fun c _ hc => ?_⟩
      · rw [he, State.compete_waiting (conditions.symm.trans hc)]
        exact ⟨rfl, rfl⟩
      · rw [he, State.compete_blocked (conditions.symm.trans hc)]
        exact ⟨rfl, rfl, rfl⟩

/-! ### Refusals (R16, R17) -/

section
variable {s : State}

theorem State.refusal_halted (h : s.halt.set = true) : s.refusal = some "HALTED" := by
  simp [State.refusal, h]

theorem State.refusal_expired (h : s.halt.set = false) (e : s.link.sup.state = .expired) : s.refusal = some "EXPIRED" := by
  simp [State.refusal, h, e]

theorem State.refusal_notArmed (h : s.halt.set = false) (e : s.link.sup.state ≠ .expired)
    (a : s.settings.plain.supReq = 1 ∧ s.link.sup.taken = false) : s.refusal = some "NOTARMED" := by
  simp [State.refusal, h, e, a]

theorem State.refusal_clear (h : s.halt.set = false) (e : s.link.sup.state ≠ .expired)
    (a : ¬(s.settings.plain.supReq = 1 ∧ s.link.sup.taken = false)) : s.refusal = none := by
  simp [State.refusal, h, e, a]

theorem State.resolvePred_unknown {h : Handle} (ht : s.find h = none) (hr : ∀ r ∈ s.plan.recent, r.handle ≠ h) :
    s.resolvePred h = .inl "NOHANDLE" := by
  have none : (s.plan.recent.find? fun r => r.handle == h) = none := by
    rw [List.find?_eq_none]
    simpa using hr
  simp [State.resolvePred, ht, none]

theorem State.resolvePred_ended {h : Handle} {r : Record} {e : EndData} (ht : s.find h = none)
    (hr : (s.plan.recent.find? fun r => r.handle == h) = some r) (he : r.ended = some e) :
    s.resolvePred h = if e.outcome = .done then .inr none else .inl "PREDFAILED" := by
  simp [State.resolvePred, ht, hr, Record.endedDone, he]

theorem State.resolvePred_waits {h : Handle} (ht : (s.find h).isSome = true) : s.resolvePred h = .inr (some h) := by
  simp [State.resolvePred, ht]

theorem MoveForm.inRange_iff (f : MoveForm) : f.inRange = true ↔ ∀ h, f.after = some h → 1 ≤ h ∧ h ≤ 255 := by
  unfold MoveForm.inRange
  cases f.after <;> simp [Machine.inRange]

theorem SeqName.needsTilt_iff (q : SeqName) : q.needsTilt = true ↔ q ≠ .toBed := by
  cases q <;> simp [SeqName.needsTilt]

end

section
variable {s : State} {fs : List Field} {f : MoveForm}

/-- A `MOVE` that has passed checks 1 to 4 and whose predecessor is refused (R16, R17). -/
theorem State.reqMove_predRefused (form : readMove fs = some f) (range : ∀ h, f.after = some h → 1 ≤ h ∧ h ≤ 255)
    (clear : s.refusal = none) {w : String} (pred : s.movePred f.after = .inl w) (t : Tag) :
    s.reqMove t fs = s.answer t .move w [] := by
  simp [State.reqMove, form, (MoveForm.inRange_iff f).mpr range, clear, pred]

/-- A `MOVE` that has passed checks 1 to 5 with the table full (R16). -/
theorem State.reqMove_full (form : readMove fs = some f) (range : ∀ h, f.after = some h → 1 ≤ h ∧ h ≤ 255)
    (clear : s.refusal = none) {p : Option Handle} (pred : s.movePred f.after = .inr p) (full : 12 ≤ s.plan.records.length)
    (t : Tag) : s.reqMove t fs = s.answer t .move "FULL" [] := by
  simp [State.reqMove, form, (MoveForm.inRange_iff f).mpr range, clear, pred, Config.tableCap, Nat.not_lt.mpr full]

end

/-- A predecessor that is there, or has ended `DONE`, or is not named: none of these is refused (R17). -/
theorem State.movePred_taken {s : State} {a : Option Int}
    (h : a = none ∨ (∃ h, a = some h ∧ (s.find h.toNat).isSome) ∨
      ∃ h r e, a = some h ∧ s.find h.toNat = none ∧ (s.plan.recent.find? fun r => r.handle == h.toNat) = some r ∧
        r.ended = some e ∧ e.outcome = .done) : ∃ p, s.movePred a = .inr p := by
  rcases h with rfl | ⟨h, rfl, there⟩ | ⟨h, r, e, rfl, gone, found, ended, done⟩
  · exact ⟨none, rfl⟩
  · exact ⟨_, State.resolvePred_waits there⟩
  · exact ⟨none, (State.resolvePred_ended gone found ended).trans (if_pos done)⟩

/-- Settles O20, check by check. -/
theorem motionRefused : Obligations.MotionRefused := by
  refine ⟨fun s t fs ready => ?_, fun s t fs ready => ?_⟩
  · refine ⟨fun form => State.serve_replies ready ?_, fun f form => ⟨?_, fun range => ?_⟩⟩
    · simp [State.serve, State.reqMove, form]
    · rintro ⟨h, ha, out⟩
      have range : f.inRange = false := Bool.eq_false_iff.mpr fun c => out ((MoveForm.inRange_iff f).mp c h ha)
      exact State.serve_replies ready (by simp [State.serve, State.reqMove, form, range])
    · have refused {w : String} (h : s.refusal = some w) : s.serve ⟨t, .move, fs⟩ = s.answer t .move w [] := by
        simp [State.serve, State.reqMove, form, (MoveForm.inRange_iff f).mpr range, h]
      refine ⟨fun h => State.serve_replies ready (refused (State.refusal_halted h)), fun h => ⟨fun e =>
        State.serve_replies ready (refused (State.refusal_expired h e)), fun e => ⟨fun a =>
          State.serve_replies ready (refused (State.refusal_notArmed h e a)), fun a => ?_⟩⟩⟩
      have clear := State.refusal_clear h e a
      refine ⟨fun h ha gone none => ?_, fun h r e ha gone found ended failed => ?_, fun there full => ?_⟩
      · have pred : s.movePred f.after = .inl "NOHANDLE" := by
          rw [ha]
          exact State.resolvePred_unknown gone none
        exact State.serve_replies ready (State.reqMove_predRefused form range clear pred t)
      · have pred : s.movePred f.after = .inl "PREDFAILED" := by
          rw [ha]
          exact (State.resolvePred_ended gone found ended).trans (if_neg failed)
        exact State.serve_replies ready (State.reqMove_predRefused form range clear pred t)
      · obtain ⟨p, pred⟩ := State.movePred_taken there
        exact State.serve_replies ready (State.reqMove_full form range clear pred full t)
  · refine ⟨fun form => State.serve_replies ready ?_, fun q form => ?_⟩
    · simp [State.serve, State.reqSeqn, form]
    · have refused {w : String} (h : s.refusal = some w) : s.serve ⟨t, .seqn, fs⟩ = s.answer t .seqn w [] := by
        simp [State.serve, State.reqSeqn, form, h]
      refine ⟨fun h => State.serve_replies ready (refused (State.refusal_halted h)), fun h e =>
        State.serve_replies ready (refused (State.refusal_expired h e)), fun h e a b =>
          State.serve_replies ready (refused (State.refusal_notArmed h e ⟨a, b⟩)), fun clear tilt none => ?_,
            fun clear tilt full => ?_⟩
      · exact State.serve_replies ready
          (by simp [State.serve, State.reqSeqn, form, clear, (SeqName.needsTilt_iff q).mpr tilt, none])
      · have known : (q.needsTilt && (s.chanValue 1).isNone) = false := by
          rcases tilt with rfl | tilt
          · rfl
          · simp [tilt]
        exact State.serve_replies ready
          (by simp [State.serve, State.reqSeqn, form, clear, known, Config.tableCap, Nat.not_le.mpr full])

/-! ### `SEQN` -/

/-- The records of the second list are what an admission makes of the first in one sequence, each tail-lift record behind the
one before it; the handle is that of the tail-lift record before the first (R20). -/
inductive Chained (clamp : Kind → Int → Int) (seq : Nat) :
    Option Handle → List (Kind × Option Side × Option Int) → List Record → Prop
  | nil (last : Option Handle) : Chained clamp seq last [] []
  | cons {last : Option Handle} {x : Kind × Option Side × Option Int} {xs : List (Kind × Option Side × Option Int)}
      {r : Record} {rs : List Record} (asked : r.kind = x.1 ∧ r.side = x.2.1 ∧ r.target = x.2.2.map (clamp x.1))
      (sequence : r.seq = some seq ∧ r.origin = .link ∧ r.creep = false)
      (pred : r.pred = if x.1.isLift then last else none)
      (later : Chained clamp seq (if x.1.isLift then some r.handle else last) xs rs) :
      Chained clamp seq last (x :: xs) (r :: rs)

/-- What an admission asks for stands in the record it makes. -/
theorem State.enrol_asked (s : State) (a : Ask) :
    ∃ r, (s.enrol a).plan.records = s.plan.records ++ [r] ∧ r.handle = s.plan.newHandle ∧
      (r.kind = a.kind ∧ r.side = a.side ∧ r.target = a.target.map (s.clampTarget a.kind)) ∧
      (r.seq = a.seq ∧ r.origin = a.origin ∧ r.creep = a.creep) ∧ r.pred = a.pred := by
  obtain ⟨r, hr, hh, he⟩ := s.enrol_records a
  refine ⟨r, hr, hh, ?_⟩
  rw [he]
  split
  · exact ⟨⟨rfl, rfl, rfl⟩, ⟨rfl, rfl, rfl⟩, rfl⟩
  · next hp =>
    rw [State.compete_same]
    exact ⟨⟨rfl, rfl, rfl⟩, ⟨rfl, rfl, rfl⟩, (Option.not_isSome_iff_eq_none.mp hp).symm⟩

theorem State.admitAll_chained (seq : Nat) :
    ∀ (xs : List (Kind × Option Side × Option Int)) (s : State) (last : Option Handle),
      ∃ rs, (s.admitAll seq last xs).plan.records = s.plan.records ++ rs ∧ Chained s.clampTarget seq last xs rs
  | [], s, last => ⟨[], by rw [List.append_nil]; rfl, .nil last⟩
  | (k, side, target) :: xs, s, last => by
    obtain ⟨r, hr, hh, asked, sequence, pred⟩ := s.enrol_asked
      { kind := k, side := side, target := target, creep := false, origin := .link, key := none
        pred := if k.isLift then last else none, seq := some seq }
    obtain ⟨rs, hrs, chained⟩ := State.admitAll_chained seq xs
      (s.enrol
        { kind := k, side := side, target := target, creep := false, origin := .link, key := none
          pred := if k.isLift then last else none, seq := some seq })
      (if k.isLift then some s.plan.newHandle else last)
    refine ⟨r :: rs, ?_, .cons asked sequence pred ?_⟩
    · unfold State.admitAll
      rw [hrs, hr, List.append_assoc]
      rfl
    · rw [hh]
      exact chained

/-- An admission of a list changes the plan table alone. -/
theorem State.admitAll_plan (seq : Nat) :
    ∀ (xs : List (Kind × Option Side × Option Int)) (s : State) (last : Option Handle),
      s.admitAll seq last xs = { s with plan := (s.admitAll seq last xs).plan } ∧
        (s.admitAll seq last xs).plan.recent = s.plan.recent
  | [], _, _ => ⟨rfl, rfl⟩
  | (k, side, target) :: xs, s, last => by
    unfold State.admitAll
    obtain ⟨same, recent⟩ := State.admitAll_plan seq xs
      (s.enrol
        { kind := k, side := side, target := target, creep := false, origin := .link, key := none
          pred := if k.isLift then last else none, seq := some seq })
      (if k.isLift then some s.plan.newHandle else last)
    exact ⟨by rw [same]; rfl, recent⟩

section
variable {clamp : Kind → Int → Int} {seq : Nat} {last : Option Handle} {xs : List (Kind × Option Side × Option Int)}
  {rs : List Record}

theorem Chained.length (h : Chained clamp seq last xs rs) : rs.length = xs.length := by
  induction h with
  | nil => rfl
  | cons _ _ _ _ ih => exact congrArg (· + 1) ih

theorem Chained.kinds (h : Chained clamp seq last xs rs) :
    rs.map (fun r => (r.kind, r.side)) = xs.map (fun k => (k.1, k.2.1)) := by
  induction h with
  | nil => rfl
  | cons asked _ _ _ ih => rw [List.map_cons, List.map_cons, ih, asked.1, asked.2.1]

theorem Chained.targets (h : Chained clamp seq last xs rs) :
    rs.map (·.target) = xs.map (fun k => k.2.2.map (clamp k.1)) := by
  induction h with
  | nil => rfl
  | cons asked _ _ _ ih => rw [List.map_cons, List.map_cons, ih, asked.2.2]

theorem Chained.sequence (h : Chained clamp seq last xs rs) :
    ∀ r ∈ rs, r.seq = some seq ∧ r.origin = .link ∧ r.creep = false := by
  induction h with
  | nil => exact List.forall_mem_nil _
  | cons _ sequence _ _ ih => exact List.forall_mem_cons.mpr ⟨sequence, ih⟩

theorem Chained.doors (h : Chained clamp seq last xs rs) : ∀ r ∈ rs, r.kind.isLift = false → r.pred = none := by
  induction h with
  | nil => exact List.forall_mem_nil _
  | cons asked _ pred _ ih =>
    refine List.forall_mem_cons.mpr ⟨fun door => ?_, ih⟩
    rw [pred, ← asked.1, door]
    rfl

/-- The predecessor of each tail-lift record is the tail-lift record before it. -/
theorem Chained.preds (h : Chained clamp seq last xs rs) :
    (rs.filter fun r => r.kind.isLift).map (·.pred) =
      (last :: (rs.filter fun r => r.kind.isLift).map fun r => some r.handle).take
        (rs.filter fun r => r.kind.isLift).length := by
  induction h with
  | nil => rfl
  | @cons last x xs r rs asked _ pred _ ih =>
    rw [← asked.1] at pred ih
    cases lift : r.kind.isLift
    · have out : (r :: rs).filter (fun r => r.kind.isLift) = rs.filter fun r => r.kind.isLift :=
        List.filter_cons_of_neg (by simp [lift])
      rw [out]
      rwa [if_neg (by simp [lift])] at ih
    · have kept : (r :: rs).filter (fun r => r.kind.isLift) = r :: rs.filter fun r => r.kind.isLift :=
        List.filter_cons_of_pos lift
      rw [if_pos lift] at pred ih
      rw [kept, List.map_cons, List.map_cons, List.length_cons, List.take_succ_cons, pred, ih]

end

/-- Settles O21: the chain is what `State.admitAll` makes of the expansion. -/
theorem seqnAdmits : Obligations.SeqnAdmits := by
  intro s t fs q inv good ready form clear tilt room
  have known : (q.needsTilt && (s.chanValue 1).isNone) = false := by
    rcases tilt with rfl | tilt
    · rfl
    · simp [tilt]
  have served : s.serve ⟨t, .seqn, fs⟩ = s.takeSeqn t (s.expand q) := by
    simp [State.serve, State.reqSeqn, form, clear, known, Config.tableCap, room]
  rw [State.takeSeqn_eq] at served
  obtain ⟨rs, hrs, chained⟩ := State.admitAll_chained s.plan.newSeq (s.expand q) s none
  obtain ⟨same, recent⟩ := State.admitAll_plan s.plan.newSeq (s.expand q) s none
  have keeps := State.enrolSeqn_keeps (State.refusal_none clear) room
  obtain ⟨u, hu, replied⟩ := State.serve_replies_after ready served
    (State.conclude_link (s.enrolSeqn_follows (s.expand q)).link)
  have length := chained.length
  have empty : s.expand q = [] ↔ rs = [] := by
    rw [← List.length_eq_zero_iff, ← List.length_eq_zero_iff, length]
  have records : (s.enrolSeqn (s.expand q)).plan.records = s.plan.records ++ rs := by
    unfold State.enrolSeqn
    split
    · next h => rw [empty.mp h, List.append_nil]
    · exact hrs
  refine ⟨u, s.enrolSeqn (s.expand q), rs, hu, ?_, ?_, records, ?_, chained.kinds, chained.targets, chained.sequence,
    chained.preds, chained.doors, fun h => ?_, fun h => ?_, keeps.handles ((State.inv_iff s).mp inv).1 good⟩
  · rw [records, List.drop_left, ← length] at replied
    exact replied
  · unfold State.enrolSeqn
    split
    · rfl
    · rw [same]
  · unfold State.enrolSeqn
    split
    · rfl
    · exact recent
  · rw [State.enrolSeqn, if_neg (mt empty.mp h)]
    show succ255 s.plan.newSeq = _
    obtain ⟨-, -, -, next⟩ := (Plan.handlesGood_iff _).mp good
    have hi : s.plan.newSeq ≤ 255 := (firstFree_range _ 255 s.plan.nextSeq next.1 next.2).2
    unfold succ255
    split <;> split <;> omega
  · rw [State.enrolSeqn, if_pos (empty.mpr h)]

end Sys2Proof.Machine
end

section
/-!
The halt latch: the halt character and the break (O13), `HALT` (O23) and `RESM` (O25), in the terms of R28 to R30, R180 and
R181.
-/

namespace Sys2Proof.Machine

/-! ### A halt event (R28) -/

section
variable {s : State} {c : Cause}

/-- With the latch set, a lasting cause that is not present joins the present causes with its notice (R28). -/
theorem State.raiseHalt_joins (h : s.halt.set = true) (l : c.lasting = true) (n : s.halt.has c = false) :
    s.raiseHalt c = State.notify { s with halt := s.halt.mark c true } (.halted c) := by
  simp [State.raiseHalt, h, l, n]

/-- With the latch set, any other cause does nothing (R28). -/
theorem State.raiseHalt_idle (h : s.halt.set = true) (n : c.lasting = false ∨ s.halt.has c = true) : s.raiseHalt c = s := by
  rcases n with n | n <;> simp [State.raiseHalt, h, n]

theorem HaltLatch.mark_first (l : HaltLatch) (c : Cause) (on : Bool) : (l.mark c on).first = l.first := by
  cases c <;> rfl

theorem HaltLatch.mark_has_self {l : HaltLatch} (h : c.lasting = true) (on : Bool) : (l.mark c on).has c = on := by
  cases c <;> simp_all [HaltLatch.mark, HaltLatch.has, Cause.lasting]

theorem HaltLatch.mark_has_other {l : HaltLatch} {d : Cause} (h : d ≠ c) (on : Bool) : (l.mark c on).has d = l.has d := by
  cases c <;> cases d <;> simp_all [HaltLatch.mark, HaltLatch.has]

/-- After a halt event the latch is set. -/
theorem State.raiseHalt_set (s : State) (c : Cause) : (s.raiseHalt c).halt.set = true := by
  cases h : s.halt.set
  · rw [(State.raiseHalt_clear h c).2.1, HaltLatch.mark_set]
  · by_cases n : c.lasting = false ∨ s.halt.has c = true
    · rw [State.raiseHalt_idle h n, h]
    · rw [not_or, Bool.not_eq_false, Bool.not_eq_true] at n
      rw [State.raiseHalt_joins h n.1 n.2]
      exact (HaltLatch.mark_set _ _ _).trans h

/-- How many records a halt event that is no lasting cause ends (R28, R29). -/
theorem State.raiseHalt_count (h : c.lasting = false) :
    s.plan.records.length - (s.raiseHalt c).plan.records.length = if s.halt.set then 0 else s.plan.records.length := by
  cases hs : s.halt.set
  · rw [(State.raiseHalt_clear hs c).1]
    rfl
  · rw [State.raiseHalt_idle hs (.inl h)]
    exact Nat.sub_self _

end

/-- An empty table stays empty through the close of an event. -/
theorem State.conclude_empty {s : State} (h : s.plan.records = []) : s.conclude.plan.records = [] := by
  have l := s.conclude_thins.length
  rw [h] at l
  exact List.eq_nil_of_length_eq_zero (Nat.le_zero.mp l)

/-! ### The statements -/

/-- Settles O13: both rows are `State.haltChar`. -/
theorem haltCharacterAndBreak : Obligations.HaltCharacterAndBreak := by
  refine ⟨⟨fun s => rfl, fun s => ⟨{ s.raiseHalt .linkChar with link := (s.raiseHalt .linkChar).link.halted }, rfl,
    s.raiseHalt_set _, ?_, fun h => ?_, fun h => ?_⟩⟩, fun s => rfl⟩
  · have link : (s.raiseHalt .linkChar).link = s.link := (s.raiseHalt_follows .linkChar).link
    simp only [link]
    rfl
  · simp only [State.raiseHalt_idle (c := .linkChar) h (.inl rfl)]
  · obtain ⟨empty, halt, noted⟩ := State.raiseHalt_clear h .linkChar
    have first : (s.raiseHalt .linkChar).halt.first = some .linkChar := by
      rw [halt]
      rfl
    exact ⟨empty, State.conclude_empty empty, first, noted⟩

/-- Settles O23: the reply counts what `State.raiseHalt_count` says. -/
theorem haltRequestHalts : Obligations.HaltRequestHalts := by
  intro s t ready
  have served : s.serve ⟨t, .halt, []⟩ =
      (s.raiseHalt .request).conclude.answer t .halt "OK" [.num (if s.halt.set then 0 else s.plan.records.length : Nat)] := by
    rw [← State.raiseHalt_count (s := s) (c := .request) rfl]
    rfl
  have link : (s.raiseHalt .request).link = s.link := (s.raiseHalt_follows .request).link
  obtain ⟨u, hu, replied⟩ := State.serve_replies_after ready served (State.conclude_link link)
  refine ⟨u, hu, ?_, ?_, fun f fs ready => State.serve_replies ready rfl⟩
  · have cast : (.num ((if s.halt.set then 0 else s.plan.records.length : Nat) : Int) : Field) =
        .num (if s.halt.set then 0 else s.plan.records.length) := by
      split <;> rfl
    rw [← cast]
    exact replied
  · rw [replied.1]
    show (s.raiseHalt .request).conclude.halt.set = true
    rw [(State.conclude_follows _).halt]
    exact s.raiseHalt_set _

theorem HaltLatch.present_iff (l : HaltLatch) :
    l.present = true ↔ l.estop = true ∨ l.welded = true ∨ ∃ i : Fin 6, l.stations[i] = true := by
  simp only [HaltLatch.present, Bool.or_eq_true, vector_any_iff, id, or_assoc]

/-- The latch as `State.clearHalt` leaves it has no present cause (R30). -/
theorem HaltLatch.clear_present :
    HaltLatch.present { set := false, first := none, estop := false, welded := false, stations := Vector.replicate 6 false } =
      false := by decide

/-- Settles O25, by whether the latch is set and a cause is present. -/
theorem resmAnswers : Obligations.ResmAnswers := by
  intro s t ready
  refine ⟨fun h => State.serve_replies ready ?_, fun h present => ?_, fun h e w n => ?_⟩
  · simp [State.serve, State.reqResm, h]
  · have present := (HaltLatch.present_iff _).mpr present
    have served : s.serve ⟨t, .resm, []⟩ = s.answer t .resm "REFUSED"
        ((if s.halt.stations.toList.any id then [.word "STATION"] else []) ++
          (if s.halt.estop then [.word "ESTOP"] else []) ++ if s.halt.welded then [.word "WELDED"] else []) := by
      simp [State.serve, State.reqResm, h, present, wordIf]
    obtain ⟨u, hu, replied⟩ := State.serve_replies ready served
    exact ⟨u, s.halt.stations.toList.any id, hu, vector_any_iff _ _, replied⟩
  · have clear : s.halt.present = false := by
      rw [Bool.eq_false_iff, ne_eq, HaltLatch.present_iff]
      simp [e, w, n]
    have served : s.serve ⟨t, .resm, []⟩ = s.clearHalt.conclude.answer t .resm "OK" [] := by
      simp [State.serve, State.reqResm, h, clear]
    obtain ⟨u, hu, replied⟩ := State.serve_replies_after ready served (State.conclude_link s.clearHalt_link)
    exact ⟨u, s.clearHalt, hu, replied, rfl, rfl, rfl, HaltLatch.clear_present⟩

end Sys2Proof.Machine
end

section
/-!
Queries: their answers (O26, O27) and that they change nothing else (O28), in the terms of R22, R23, R35, R67, R92, R109,
R146, R161, R188, R189 and R193.
-/

namespace Sys2Proof.Machine

/-! ### What `QREC` and `GETV` look up -/

theorem State.lookUp_table {s : State} {h : Handle} {r : Record} (e : s.find h = some r) : s.lookUp h = some r := by
  simp [State.lookUp, e]

theorem State.lookUp_recent {s : State} {h : Handle} (e : s.find h = none) :
    s.lookUp h = s.plan.recent.find? fun y => y.handle == h := by
  simp [State.lookUp, e]

/-- The characters of a word as one number, by which words are told apart. -/
def wordCode (w : String) : Nat := w.toList.foldl (fun n c => n * 256 + c.toNat) 0

/-- The settings have 63 names (R193). -/
theorem SettingName.words_nodup : (SettingName.all.map SettingName.word).Nodup := by
  have codes : ((SettingName.all.map SettingName.word).map wordCode).Nodup := by decide
  exact codes.of_map _

theorem SettingName.mem_all (n : SettingName) : n ∈ SettingName.all := by
  unfold SettingName.all
  simp only [List.mem_append, List.mem_map, List.mem_flatMap, List.mem_finRange]
  cases n with
  | plain p => exact .inl (.inl ⟨p, by cases p <;> decide, rfl⟩)
  | stn i => exact .inl (.inr ⟨i, trivial, rfl⟩)
  | cal n hi => exact .inr ⟨n, trivial, by cases hi <;> simp⟩

/-- Each word of a setting names that setting alone (R193). -/
theorem SettingName.read_word (n : SettingName) : reading SettingName.all SettingName.word n.word = some n := by
  unfold reading
  cases found : SettingName.all.find? fun x => x.word == n.word with
  | none =>
    have other := List.find?_eq_none.mp found n n.mem_all
    simp at other
  | some m =>
    have same : m.word = n.word := by simpa using List.find?_some found
    exact congrArg some
      (List.inj_on_of_nodup_map SettingName.words_nodup (List.mem_of_find?_eq_some found) n.mem_all same)

/-- The kinds of an authority, in the order of R193, are those it has. -/
theorem Auth.kinds_eq (a : Auth) : a.kinds = Kind.lifts.filter a.has := by
  obtain ⟨a, b, c, d, e⟩ := a
  revert a b c d e
  decide

theorem append_congr {α : Type} {a b c d : List α} (h : a = b) (g : c = d) : a ++ c = b ++ d := by rw [h, g]

theorem State.reqQrec_some {s : State} {t : Tag} {h : Nat} (pos : 0 < h) {r : Record} (e : s.lookUp h = some r) :
    s.reqQrec t [.num h] = s.answer t .qrec "OK" (recordFields r) := by
  simp [State.reqQrec, pos, e]

theorem State.reqQrec_none {s : State} {t : Tag} {h : Nat} (pos : 0 < h) (e : s.lookUp h = none) :
    s.reqQrec t [.num h] = s.answer t .qrec "NOHANDLE" [] := by
  simp [State.reqQrec, pos, e]

/-- Settles O26. -/
theorem queriesAnswer : Obligations.QueriesAnswer := by
  refine ⟨fun s t h ready pos => ?_, fun s t ready => State.serve_replies ready rfl, ?_, fun r => ?_, ?_, ?_, ?_⟩
  · obtain ⟨u, hu⟩ : ∃ u, (.next (s.deliver ⟨t, .qrec, [.num h]⟩) : Answer) = .next u := ⟨_, rfl⟩
    have replies {w : String} {out : List Field} (e : s.reqQrec t [.num h] = s.answer t .qrec w out) :
        s.replies u t .qrec w out := by
      cases hu
      rw [State.deliver_ready ready]
      show s.replies (s.reqQrec t [.num h]) t .qrec w out
      rw [e]
      exact State.answer_ready ready rfl t .qrec w out
    refine ⟨u, hu, fun r e => replies (State.reqQrec_some pos (State.lookUp_table e)), fun r e f =>
      replies (State.reqQrec_some pos ((State.lookUp_recent e).trans f)), fun e none =>
        replies (State.reqQrec_none pos ((State.lookUp_recent e).trans ?_))⟩
    rw [List.find?_eq_none]
    simpa using none
  · intro s t n c f fs row ready
    simp only [List.mem_cons, List.not_mem_nil, or_false, Prod.mk.injEq] at row
    rcases row with ⟨rfl, rfl⟩ | ⟨rfl, rfl⟩ | ⟨rfl, rfl⟩ | ⟨rfl, rfl⟩ <;> exact State.serve_replies ready rfl
  · simp only [recordFields, Flags.fields, List.flatten_cons, List.flatten_nil, List.append_nil, List.append_assoc]
    refine append_congr ?_ (append_congr ?_ (append_congr ?_ (append_congr ?_ (append_congr ?_ (append_congr ?_
      (append_congr rfl (append_congr rfl (append_congr rfl (append_congr rfl (append_congr rfl (append_congr rfl
        (append_congr rfl ?_))))))))))))
    · unfold Record.status Record.reasonWord
      rcases r.ended with _ | ⟨_, _ | _, _⟩ <;> cases r.wait <;> rfl
    · rcases r.side with _ | _ | _ <;> rfl
    · cases r.origin <;> simp [Origin.number]
    · cases r.target <;> rfl
    · cases r.pred <;> rfl
    · cases r.seq <;> rfl
    · unfold Record.shownPos
      cases r.ended with
      | some e => cases he : e.pos <;> simp [he, optField, posReport]
      | none => rcases r.start with _ | _ | _ <;> rfl
  · exact ⟨rfl, rfl, rfl, rfl, fun c => ⟨rfl, rfl⟩, rfl, rfl, rfl⟩
  · intro w
    refine ⟨fun p => rfl, fun n hi => rfl, fun i => ?_⟩
    show entryFields w.stn[i] = _
    rcases w.stn[i] with _ | ⟨n, a | a | side | _⟩
    · rfl
    · simp [entryFields, Role.kinds, Auth.kinds_eq, Role.word, Role.sideWord, Kind.lifts]
    · simp [entryFields, Role.kinds, Auth.kinds_eq, Role.word, Role.sideWord, Kind.lifts]
    · cases side <;> rfl
    · rfl
  · intro s t n ready
    exact State.serve_replies ready (by simp [State.serve, State.reqGetv, SettingName.read_word])

/-! ### Queries change nothing but the transmit queue -/

/-- A request's row is the arrival of its record (R182). -/
theorem exec_of_request {i : Instr} {r : Request} (h : i.request = some r) (s : State) :
    exec i s = .next (s.deliver r) := by
  cases i <;> cases h <;> rfl

section
variable (s : State) (t : Tag) (fs : List Field)

theorem State.reqQrec_answers : ∃ w xs, s.reqQrec t fs = s.answer t .qrec w xs := by
  unfold State.reqQrec
  split
  · split <;> exact ⟨_, _, rfl⟩
  · exact ⟨_, _, rfl⟩

theorem State.reqPlan_answers : ∃ w xs, s.reqPlan t fs = s.answer t .plan w xs := by
  unfold State.reqPlan
  split <;> exact ⟨_, _, rfl⟩

theorem State.reqGetv_answers : ∃ w xs, s.reqGetv t fs = s.answer t .getv w xs := by
  unfold State.reqGetv
  split
  · split <;> exact ⟨_, _, rfl⟩
  · exact ⟨_, _, rfl⟩

theorem State.reqStat_answers : ∃ w xs, s.reqStat t fs = s.answer t .stat w xs := by
  unfold State.reqStat
  split
  · split <;> exact ⟨_, _, rfl⟩
  · exact ⟨_, _, rfl⟩

theorem State.reqCounter_read (n : Int) : ∃ w xs, s.reqCounter t false n = s.answer t .cntr w xs := by
  unfold State.reqCounter
  split <;> exact ⟨_, _, rfl⟩

theorem State.reqCntr_read : ∃ w xs, s.reqCntr t (.word "READ" :: fs) = s.answer t .cntr w xs := by
  unfold State.reqCntr
  split
  case h_1 => exact s.reqCounter_read t _
  case h_6 => exact ⟨_, _, rfl⟩
  all_goals simp_all

end

/-- Settles O28: a query is served by a reply. -/
theorem queriesChangeNothing : Obligations.QueriesChangeNothing := by
  intro s u i r request ready query e
  have answers : ∃ w xs, s.serve r = s.answer r.tag r.name w xs := by
    obtain ⟨t, n, fs⟩ := r
    rcases query with h | h | h | h | ⟨h, read⟩ <;> subst h
    · exact s.reqQrec_answers t fs
    · exact s.reqPlan_answers t fs
    · exact s.reqGetv_answers t fs
    · exact s.reqStat_answers t fs
    · obtain ⟨rest, rfl⟩ : ∃ rest, fs = .word "READ" :: rest := List.head?_eq_some_iff.mp read
      exact s.reqCntr_read t rest
  obtain ⟨w, xs, served⟩ := answers
  rw [exec_of_request request, State.deliver_ready ready, served] at e
  cases e
  exact ⟨w, xs, State.answer_ready ready rfl r.tag r.name w xs⟩

end Sys2Proof.Machine
end

section
/-!
The groups of `STAT` (O27), in the terms of R23, R35, R67, R92, R109, R146, R161, R188 and R189.
-/

namespace Sys2Proof.Machine

/-- The fourteen conditions of the whole part, by their numbers (R35, R36). -/
theorem State.condFields_eq (s : State) :
    s.condFields =
      [.wnum "C1" (yes (s.cond .parked)), .wnum "C2" (yes (s.cond .master)), .wnum "C3" (yes (s.cond .calib)),
        .wnum "C4" (yes (s.cond .liftSns)), .wnum "C5" (yes (s.cond .tiltSns)), .wnum "C6" (yes (s.cond .presSns)),
        .wnum "C7" (yes (s.cond .inclSns)), .wnum "C8" (yes (s.cond .notStowed)), .wnum "C9" (yes (s.cond .atBed)),
        .wnum "C10" (yes (s.cond .bodyLvl)), .wnum "C11" (yes (s.cond .rollOk)), .wnum "C12" (yes (s.cond .beaconOk)),
        .wnum "C13" (yes (s.cond .supply)), .wnum "C14" (yes (s.cond .oilOk))] := by
  simp [State.condFields, Cond.all]
  decide

/-- A count raised by the weight of each index that a test picks. -/
theorem weights_eq (p : Fin 6 → Bool) : ∀ (xs : List (Fin 6)) (a : Nat),
    xs.foldl (fun n i => if p i then n + 2 ^ i.val else n) a = a + ((xs.filter p).map fun i => 2 ^ i.val).sum
  | [], _ => rfl
  | i :: xs, a => by
    rw [List.foldl_cons, weights_eq p xs]
    cases h : p i
    · rw [List.filter_cons_of_neg (by simp [h])]
      rfl
    · rw [List.filter_cons_of_pos h, List.map_cons, List.sum_cons, if_pos rfl, Nat.add_assoc]

theorem keySum_eq (ks : Vector KeySt 6) (f : KeySt → Bool) :
    keySum ks f = (((List.finRange 6).filter fun k => f ks[k]).map fun k => 2 ^ k.val).sum :=
  (weights_eq (fun k => f ks[k]) _ 0).trans (Nat.zero_add _)

theorem LampCh.faultFields_eq (c : LampCh) :
    c.faultFields =
      if c.openF = false ∧ c.shortF = false ∧ c.stuckF = false then [.word "NONE"]
      else
        (if c.openF then [.word "OPEN"] else []) ++ (if c.shortF then [.word "SHORT"] else []) ++
          if c.stuckF then [.word "STUCK"] else [] := by
  unfold LampCh.faultFields LampCh.faulty LampCh.faults
  cases c.openF <;> cases c.shortF <;> cases c.stuckF <;> rfl

/-- The word of a group reads its fields, and its row is the arrival of its record (R188). -/
theorem State.statGroup_row {s : State} {t : Tag} {w : String} {c : List Field → Instr} {xs : List Field}
    (row : (w, c, xs) ∈
      [("AXES", .statAxes t, s.statAxes), ("DOORS", .statDoors t, s.statDoors), ("SUPPLY", .statSupply t, s.statSupply),
        ("COND", .statCond t, s.statCond), ("PLAN", .statPlan t, s.statPlan),
        ("STATIONS", .statStations t, s.statStations), ("BEACONS", .statBeacons t, s.statBeacons),
        ("PART", .statPart t, s.statPart), ("LINK", .statLink t, s.statLink)]) :
    s.statGroup w = some xs ∧ ∀ fs, exec (c fs) s = .next (s.deliver ⟨t, .stat, .word w :: fs⟩) := by
  simp only [List.mem_cons, List.not_mem_nil, or_false, Prod.mk.injEq] at row
  rcases row with ⟨rfl, rfl, rfl⟩ | ⟨rfl, rfl, rfl⟩ | ⟨rfl, rfl, rfl⟩ | ⟨rfl, rfl, rfl⟩ | ⟨rfl, rfl, rfl⟩ |
    ⟨rfl, rfl, rfl⟩ | ⟨rfl, rfl, rfl⟩ | ⟨rfl, rfl, rfl⟩ | ⟨rfl, rfl, rfl⟩ <;> exact ⟨rfl, fun fs => rfl⟩

/-- Settles O27, group by group. -/
theorem statAnswers : Obligations.StatAnswers := by
  intro s t w c xs row
  obtain ⟨group, rows⟩ := State.statGroup_row row
  refine ⟨fun ready => ?_, fun f fs ready => ?_, ?_⟩
  · rw [rows]
    exact State.serve_replies ready (by simp [State.serve, State.reqStat, group])
  · rw [rows]
    exact State.serve_replies ready rfl
  intro bit left level holder draw
  have hbit : bit = yes := rfl
  have hleft : left = fun d => (s.left d : Int) := by
    funext d
    cases d <;> rfl
  have hlevel : level = levelOf := by
    funext b
    rcases b with _ | _ | _ <;> rfl
  have hholder : holder = fun x => (holderOf x : Int) := by
    funext x
    cases x <;> rfl
  have hdraw : draw = fun x => (drawOf x : Int) := by
    funext x
    cases x <;> rfl
  clear_value bit left level holder draw
  subst hbit hleft hlevel hholder hdraw
  refine ⟨?_, by decide, by decide, ?_, ?_, ?_, ?_, ?_, ?_, ?_, ?_, ?_, rfl, rfl, rfl, rfl, rfl, rfl, rfl, rfl, rfl, rfl, rfl, rfl⟩
  · -- plan
    have station : s.halt.stations.toList.any id = true ↔ ∃ i : Fin 6, s.halt.stations[i] = true := vector_any_iff _ _
    simp only [State.statPlan, wordIf, station, List.flatten_cons, List.flatten_nil, List.append_nil, List.append_assoc]
    refine append_congr ?_ rfl
    rcases s.halt.first with _ | _ | _ | _ | _ | _ <;> rfl
  · -- supply
    simp only [State.statSupply, State.limit, State.engineOn, State.committed, Config.beaconReserve, beq_iff_eq]
    rfl
  · -- doors
    intro fields
    have side (x : Side) (n : Fin 9) (y i : String) (hn : currentChan x = n) :
        s.doorFields x y i = fields x n ("H" ++ y) ("PT" ++ y) ("OT" ++ y) ("CL" ++ y) ("LA" ++ y) ("OP" ++ y) i := by
      subst hn
      simp only [fields, State.doorFields, State.phaseTime, State.obsTime, State.chanWord]
      cases (s.door x).phase <;> cases (s.door x).obsSince <;> rfl
    exact append_congr (side .near 7 "N" "IN" rfl) (side .off 8 "F" "IF" rfl)
  · rfl -- part
  · intro l
    simp only [State.statLink]
    cases l.sup.interval <;> rfl
  · -- axes
    intro reads status incline
    have hincline (f : Option Int) : incline f = inclineOf (f.map filtered) := by
      cases f <;> rfl
    simp only [State.statAxes, State.pitch, State.roll, ← hincline]
    refine append_congr (append_congr ?_ ?_) rfl
    · cases s.packRecord <;> rfl
    · unfold State.holderFields
      cases s.packRecord <;> cases s.axis.run
      · rfl
      · rfl
      · rfl
      · next r run =>
        simp only [State.runFields, Run.time]
        refine if_congr Iff.rfl rfl ?_
        cases run.runKind <;> cases run.cls <;> rfl
  · -- cond
    refine append_congr ?_ rfl
    rw [State.condFields_eq]
    unfold State.speedShown
    cases s.eval.speed <;> rfl
  · intro r c h
    cases c <;> first | rfl | exact absurd rfl h
  · -- stations
    intro sum station
    have pressed (x : Station) (f : KeySt → Bool) :
        (keySum x.keys f : Int) = sum ((List.finRange 6).filter fun k => f x.keys[k]) := by
      exact congrArg Nat.cast (keySum_eq x.keys f)
    have report (i : Fin 6) : s.stationReport i = station i := by
      have hx : s.stationReport i = _ := rfl
      simp only [State.stationReport, station, stationFields, noStationFields, pressed]
      rcases (s.bus.stations[i]).entry with _ | ⟨a, _ | _ | side | _⟩
      · rfl
      · cases (s.bus.stations[i]).lastMiss <;> rfl
      · cases (s.bus.stations[i]).lastMiss <;> rfl
      · cases side <;> cases (s.bus.stations[i]).lastMiss <;> rfl
      · cases (s.bus.stations[i]).lastMiss <;> rfl
    have six : List.finRange 6 = [0, 1, 2, 3, 4, 5] := by decide
    simp only [State.statStations, ← report, List.append_assoc, six, List.flatMap_cons, List.flatMap_nil, List.append_nil]
  · intro lamp
    have report (l : Lamp) : s.lampReport l = lamp l ("C" ++ lampLetter l) ("R" ++ lampLetter l) ("F" ++ lampLetter l) := by
      simp only [State.lampReport, lamp]
      refine append_congr rfl ?_
      exact LampCh.faultFields_eq _
    simp only [State.statBeacons, allLamps, List.flatMap_cons, List.flatMap_nil, List.append_nil, List.append_assoc, report]
    refine append_congr ?_ rfl
    unfold State.rearMoving
    cases s.packRecord <;> rfl
end Sys2Proof.Machine
end

section
/-! Start-up: the two resets (O58), in the terms of R199. -/

namespace Sys2Proof.Machine

/-- Settles O58: both rows are `State.restart`. -/
theorem resetsRestart : Obligations.ResetsRestart := by
  intro s strap c k row
  have restarts : exec c s = .next (s.restart k strap) := by
    simp only [List.mem_cons, List.not_mem_nil, or_false, Prod.mk.injEq] at row
    rcases row with ⟨rfl, rfl⟩ | ⟨rfl, rfl⟩ <;> rfl
  refine ⟨s.restart k strap, restarts, rfl, fun l => ?_, fun d => ?_, rfl, rfl, rfl, rfl, rfl, rfl, rfl, rfl, rfl, rfl, rfl,
    rfl, rfl⟩
  · simp only [State.restart, Fin.getElem_fin, mapAt_getElem]
    rfl
  · cases d with
    | door side sw => cases side <;> cases sw <;> rfl
    | _ => rfl

end Sys2Proof.Machine
end

section
/-!
SUPPORT. Endings: what the ending of one record leaves of the table, the pack and the doors, and that records, resources and
outputs still agree after it (R7, R13, R48, R56, R95).
-/

namespace Sys2Proof.Machine

/-! ### Records but for the flag `DERATED` -/

/-- The record without its flag `DERATED`, which counting may set in any event (R76). -/
def Record.bare (r : Record) : Record := { r with flags := { r.flags with derated := false } }

/-- The records of the table without their flags `DERATED`. -/
def State.bareRecords (s : State) : List Record := s.plan.records.map Record.bare

theorem Record.bare_eq {r y : Record} (h : y.bare = r.bare) :
    y = { r with flags := { r.flags with derated := y.flags.derated } } := by
  obtain ⟨h1, h2, h3, h4, h5, h6, h7, h8, h9, h10, ⟨f1, f2, f3, f4, f5⟩, h12, h13, h14, h15, h16, h17, h18, h19, h20⟩ := r
  obtain ⟨g1, g2, g3, g4, g5, g6, g7, g8, g9, g10, ⟨e1, e2, e3, e4, e5⟩, g12, g13, g14, g15, g16, g17, g18, g19, g20⟩ := y
  simp only [Record.bare, Record.mk.injEq, Flags.mk.injEq, and_true] at h ⊢
  exact h

theorem State.find_bare (s : State) (h : Handle) :
    (s.find h).map Record.bare = s.bareRecords.find? fun r => r.handle == h := by
  rw [State.bareRecords, List.find?_map]
  rfl

theorem State.handles_bare (s : State) : s.handles = s.bareRecords.map (·.handle) := by
  simp [State.handles, State.bareRecords, Record.bare]

theorem State.mem_bare {s : State} {r : Record} (h : r ∈ s.plan.records) : r.bare ∈ s.bareRecords := List.mem_map_of_mem h

section
variable {s t : State}

/-- Counting leaves the records but for the flag `DERATED`. -/
theorem State.Counts.bare (c : s.Counts t) : t.bareRecords = s.bareRecords := by
  unfold State.bareRecords
  obtain ⟨-, hp⟩ | ⟨run, x, -, -, -, -, -, hp⟩ := c.slowed
  · rw [hp]
  · rw [hp]
    simp only [State.upd, List.map_map]
    refine List.map_congr_left fun r _ => ?_
    simp only [Function.comp]
    split <;> rfl

theorem State.find_of_bare (e : t.bareRecords = s.bareRecords) {h : Handle} {r : Record} (f : s.find h = some r) :
    ∃ y, t.find h = some y ∧ y.bare = r.bare := by
  have same := t.find_bare h
  rw [e, ← s.find_bare h, f] at same
  exact Option.map_eq_some_iff.mp same

theorem State.mem_of_bare (e : t.bareRecords = s.bareRecords) {r : Record} (m : r ∈ t.plan.records) :
    ∃ y ∈ s.plan.records, y.bare = r.bare := by
  have m := State.mem_bare m
  rw [e] at m
  exact List.mem_map.mp m

end

/-! ### Agreement taken apart -/

theorem State.recordSound_iff (s : State) (r : Record) :
    s.recordSound r = true ↔
      r.kind.isLift = r.side.isNone ∧ (r.origin = .link ∨ r.pred = none) ∧
        (r.state.granted = true →
          (r.side = none → s.holdsPack r.handle = true) ∧
            ∀ side, r.side = some side → s.holdsDoor side r.handle = true ∧ r.state = .running) := by
  unfold State.recordSound
  cases hs : r.side <;> cases hg : r.state.granted <;> simp [Option.isNone_iff_eq_none, and_assoc]

/-- A held pack: its holder is a granted tail-lift record, and the outputs are those of its run while it is in `RUNNING`
(R48, R56, R77). -/
structure State.PackHeld (s : State) (x : Holding) (run : Run) (r : Record) : Prop where
  pack : s.arb.pack = some x
  axis : s.axis.run = some run
  find : s.find x.handle = some r
  side : r.side = none
  granted : r.state.granted = true
  driven : r.state = .running →
    run.cls.isSome = true ∧ s.axis.valves = valvesFor run.lift run.dir run.cls ∧ run.pump = (s.arb.contactor != .opened)
  still : r.state ≠ .running → run.cls = none ∧ s.axis.valves = .off ∧ s.arb.contactor = .opened

theorem State.packSound_iff (s : State) : s.packSound = true ↔ s.packFree ∨ ∃ x run r, s.PackHeld x run r := by
  unfold State.packSound State.packFree
  constructor
  · intro h
    split at h
    · next hp hr =>
      simp only [Bool.and_eq_true, beq_iff_eq] at h
      exact .inl ⟨hp, hr, h.1, h.2⟩
    · next x run hp hr =>
      split at h
      · next r hf =>
        simp only [Bool.and_eq_true, Option.isNone_iff_eq_none] at h
        obtain ⟨⟨side, granted⟩, h⟩ := h
        refine .inr ⟨x, run, r, hp, hr, hf, side, granted, fun e => ?_, fun e => ?_⟩
        · simpa [e, and_assoc] using h
        · simpa [e, and_assoc] using h
      · cases h
    · cases h
    · cases h
  · rintro (⟨hp, hr, hv, hc⟩ | ⟨x, run, r, hp, hr, hf, side, granted, driven, still⟩)
    · simp [hp, hr, hv, hc]
    · by_cases e : r.state = .running
      · obtain ⟨a, b, c⟩ := driven e
        simp [hp, hr, hf, side, RecState.granted, e, a, b, c]
      · obtain ⟨a, b, c⟩ := still e
        simp [hp, hr, hf, side, granted, e, a, b, c]

/-- A free door channel drives nothing (R48, R95). -/
structure State.DoorIdle (s : State) (side : Side) : Prop where
  channel : s.arb.channel side = none
  phase : (s.door side).phase = none
  motorOpen : (s.door side).motorOpen = false
  motorClose : (s.door side).motorClose = false
  latch : (s.door side).latch = false

/-- A held door channel: its holder is a running record of the side, and the outputs are those of the phase (R95). -/
structure State.DoorHeld (s : State) (side : Side) (x : Holding) (p : Phase) (r : Record) : Prop where
  channel : s.arb.channel side = some x
  phase : (s.door side).phase = some p
  find : s.find x.handle = some r
  ofSide : r.side = some side
  running : r.state = .running
  motorOpen : (s.door side).motorOpen = (p == .opening || p == .reverse)
  motorClose : (s.door side).motorClose = (p == .closing || p == .pullin)
  latch : (s.door side).latch = (p == .unlatch)
  moving : (s.door side).state = .moving

theorem State.doorSound_iff (s : State) (side : Side) :
    s.doorSound side = true ↔ s.DoorIdle side ∨ ∃ x p r, s.DoorHeld side x p r := by
  unfold State.doorSound
  constructor
  · intro h
    dsimp only at h
    split at h
    · next hc hp =>
      simp only [Bool.and_eq_true, Bool.not_eq_true'] at h
      exact .inl ⟨hc, hp, h.1.1, h.1.2, h.2⟩
    · next x p hc hp =>
      split at h
      · next r hf =>
        simp only [Bool.and_eq_true, beq_iff_eq] at h
        obtain ⟨⟨⟨⟨⟨a, b⟩, c⟩, d⟩, e⟩, f⟩ := h
        exact .inr ⟨x, p, r, hc, hp, hf, a, b, c, d, e, f⟩
      · simp at h
    · cases h
    · cases h
  · rintro (⟨hc, hp, a, b, c⟩ | ⟨x, p, r, hc, hp, hf, a, b, c, d, e, f⟩)
    · simp [hc, hp, a, b, c]
    · simp [hc, hp, hf, a, b, c, d, e, f]

/-- Records, resources and outputs agree. -/
structure State.Sound (s : State) : Prop where
  records : ∀ r ∈ s.plan.records, s.recordSound r = true
  pack : s.packFree ∨ ∃ x run r, s.PackHeld x run r
  door : ∀ side, s.DoorIdle side ∨ ∃ x p r, s.DoorHeld side x p r

theorem State.sound_iff (s : State) : s.sound = true ↔ s.Sound := by
  simp only [State.sound, Bool.and_eq_true, List.all_eq_true]
  constructor
  · rintro ⟨⟨⟨records, pack⟩, near⟩, off⟩
    refine ⟨records, s.packSound_iff.mp pack, fun side => (s.doorSound_iff side).mp ?_⟩
    cases side
    · exact near
    · exact off
  · intro h
    exact ⟨⟨⟨h.records, s.packSound_iff.mpr h.pack⟩, (s.doorSound_iff _).mpr (h.door _)⟩, (s.doorSound_iff _).mpr (h.door _)⟩

/-! ### Counting keeps the agreement -/

section
variable {s t : State}

theorem State.Counts.holdsPack (c : s.Counts t) (h : Handle) : t.holdsPack h = s.holdsPack h := by
  rw [State.holdsPack, State.holdsPack, c.arb]

theorem State.Counts.holdsDoor (c : s.Counts t) (side : Side) (h : Handle) : t.holdsDoor side h = s.holdsDoor side h := by
  rw [State.holdsDoor, State.holdsDoor, c.arb]

theorem State.Counts.find (c : s.Counts t) {h : Handle} {r : Record} (f : s.find h = some r) :
    ∃ y, t.find h = some y ∧ y.bare = r.bare := State.find_of_bare c.bare f

theorem State.Counts.packFree (c : s.Counts t) (h : s.packFree) : t.packFree := by
  obtain ⟨hp, hr, hv, hc⟩ := h
  obtain ⟨axis, -⟩ := c.unslowed fun run e => by rw [hr] at e; cases e
  exact ⟨by rw [c.arb, hp], by rw [axis, hr], by rw [axis, hv], by rw [c.arb, hc]⟩

theorem State.Counts.packHeld (c : s.Counts t) {x : Holding} {run : Run} {r : Record} (h : s.PackHeld x run r) :
    ∃ run y, t.PackHeld x run y := by
  obtain ⟨y, hy, e⟩ := c.find h.find
  have state : y.state = r.state := by rw [Record.bare_eq e]
  have side : y.side = r.side := by rw [Record.bare_eq e]
  obtain ⟨axis, -⟩ | ⟨run', x', hr', hx', hp, hc, axis, -⟩ := c.slowed
  · refine ⟨run, y, by rw [c.arb, h.pack], by rw [axis, h.axis], hy, side.trans h.side, state ▸ h.granted, fun g => ?_, fun g => ?_⟩
    · rw [axis, c.arb]
      exact h.driven (state ▸ g)
    · rw [axis, c.arb]
      exact h.still (state ▸ g)
  · have same : run' = run := Option.some.inj (hr'.symm.trans h.axis)
    subst same
    have running : r.state = .running := by
      by_contra g
      rw [(h.still g).1] at hc
      cases hc
    refine ⟨_, y, by rw [c.arb, h.pack], by rw [axis]; rfl, hy, side.trans h.side, state ▸ h.granted, fun _ => ?_,
      fun g => absurd (state.trans running) g⟩
    rw [axis, c.arb]
    exact ⟨rfl, rfl, (h.driven running).2.2⟩

theorem State.Counts.sound (c : s.Counts t) (h : s.Sound) : t.Sound where
  records r m := by
    obtain ⟨y, hy, e⟩ := State.mem_of_bare c.bare m
    have same : t.recordSound r = s.recordSound y := by
      rw [Record.bare_eq e]
      unfold State.recordSound
      simp only [c.holdsPack, c.holdsDoor]
    rw [same]
    exact h.records y hy
  pack := by
    rcases h.pack with free | ⟨x, run, r, held⟩
    · exact .inl (c.packFree free)
    · exact .inr ⟨x, c.packHeld held⟩
  door side := by
    have d := c.door side
    rcases h.door side with free | ⟨x, p, r, held⟩
    · exact .inl ⟨by rw [c.arb]; exact free.channel, d ▸ free.phase, d ▸ free.motorOpen, d ▸ free.motorClose, d ▸ free.latch⟩
    · obtain ⟨y, hy, e⟩ := c.find held.find
      have state : y.state = r.state := by rw [Record.bare_eq e]
      have hside : y.side = r.side := by rw [Record.bare_eq e]
      exact .inr ⟨x, p, y, by rw [c.arb]; exact held.channel, d ▸ held.phase, hy, hside.trans held.ofSide,
        state.trans held.running, d ▸ held.motorOpen, d ▸ held.motorClose, d ▸ held.latch, d ▸ held.moving⟩

end

end Sys2Proof.Machine
end

section
/-!
SUPPORT. The ending of one record: its outputs go off, its resource is freed, it leaves the table for the recent-outcomes
list, and the end event is counted (R13, R15, R48).
-/

namespace Sys2Proof.Machine

/-! ### An ending in two parts -/

/-- Whether the ending of a record ends rear or side movement (R150, R151). -/
def State.movedBy (s : State) (r : Record) : Bool :=
  match r.side with
  | some side => s.holdsDoor side r.handle && s.sideMoving side
  | none => s.holdsPack r.handle && r.state.granted

/-- Whether a record that ends made a run or entered a phase (R163). -/
def State.ranBy (s : State) (r : Record) : Bool :=
  match r.side with
  | some _ => s.movedBy r
  | none => s.holdsPack r.handle && (match s.axis.run with | some run => decide (0 < run.runs) | none => false)

/-- The outputs of the record off and its entry in the recent-outcomes list, before its resource is freed (R13, R15). -/
def State.listed (s : State) (r : Record) (o : RecOutcome) (why : Option EndReason) : State :=
  let s1 := s.stopOutputs r
  let e : EndData := ⟨o, why, s1.posOf r⟩
  { s1 with
    plan :=
      { s1.plan with
        records := s1.plan.records.filter fun x => x.handle ≠ r.handle
        recent := (r.finish e :: s1.plan.recent).take Config.recentCap } }.notify (.ended r.handle r.kind o why e.pos)

/-- The state in which a record has ended, before its end event is counted (R13). -/
def State.quit (s : State) (r : Record) (o : RecOutcome) (why : Option EndReason) : State :=
  (s.listed r o why).release r (s.movedBy r)

/-- An ending is `State.quit` and the count of the end event. -/
theorem State.endOne_eq {s : State} {h : Handle} {r : Record} (e : s.find h = some r) (o : RecOutcome)
    (why : Option EndReason) :
    s.endOne h o why =
      (s.quit r o why).count (endSources r ⟨o, why, s.endPos r⟩ (s.ranBy r)) (some r.origin) r.side
        (s.quit r o why).axis.lastLoad := by
  obtain ⟨rfl, -⟩ := State.find_spec e
  unfold State.endOne
  rw [e, ← s.stopOutputs_pos]
  cases hr : r.side
  · simp only [State.quit, State.listed, State.movedBy, State.ranBy, hr] <;> rfl
  · simp only [State.quit, State.listed, State.movedBy, State.ranBy, hr]

theorem State.endOne_absent {s : State} {h : Handle} (e : s.find h = none) (o : RecOutcome) (why : Option EndReason) :
    s.endOne h o why = s := by
  unfold State.endOne
  rw [e]

/-! ### The outputs go off -/

theorem State.storeLoad_same (s : State) (run : Run) :
    s.storeLoad run =
      { s with
        fresh := (s.storeLoad run).fresh, axis := { s.axis with lastLoad := (s.storeLoad run).axis.lastLoad } } := by
  unfold State.storeLoad
  split
  · split <;> rfl
  · rfl

/-- A run that ends: the arbiter and the axis it leaves, and that the rest stays (R60, R74). -/
theorem State.leaveRun_some {s : State} {run : Run} (h : s.axis.run = some run) :
    s.leaveRun.axis.valves = .off ∧ s.leaveRun.arb = (if run.pump then s.pumpStop.arb else s.arb) ∧
      s.leaveRun = { s with fresh := s.leaveRun.fresh, axis := s.leaveRun.axis, arb := s.leaveRun.arb } := by
  unfold State.leaveRun
  rw [h]
  dsimp only
  rw [State.storeLoad_same]
  cases run.pump <;> exact ⟨rfl, rfl, rfl⟩

theorem State.leaveRun_same (s : State) :
    s.leaveRun = { s with fresh := s.leaveRun.fresh, axis := s.leaveRun.axis, arb := s.leaveRun.arb } := by
  cases h : s.axis.run with
  | some run => exact (State.leaveRun_some h).2.2
  | none =>
    unfold State.leaveRun
    rw [h]

theorem State.leaveRun_pack (s : State) : s.leaveRun.arb.pack = s.arb.pack := by
  cases h : s.axis.run with
  | some run =>
    rw [(State.leaveRun_some h).2.1]
    split <;> rfl
  | none =>
    unfold State.leaveRun
    rw [h]

theorem State.leaveRun_channel (s : State) (side : Side) : s.leaveRun.arb.channel side = s.arb.channel side := by
  cases h : s.axis.run with
  | some run =>
    rw [(State.leaveRun_some h).2.1]
    split <;> cases side <;> rfl
  | none =>
    unfold State.leaveRun
    rw [h]

theorem State.stopOutputs_same (s : State) (r : Record) :
    s.stopOutputs r =
      { s with
        fresh := (s.stopOutputs r).fresh, axis := (s.stopOutputs r).axis, arb := (s.stopOutputs r).arb
        near := (s.stopOutputs r).near, off := (s.stopOutputs r).off } := by
  unfold State.stopOutputs
  split
  · next side _ =>
    split
    · cases side <;> rfl
    · rfl
  · split
    · rw [s.leaveRun_same]
    · rfl

/-! ### What an ending leaves -/

section
variable {s : State} {r : Record} (o : RecOutcome) (why : Option EndReason)

theorem State.release_same (s : State) (r : Record) (moved : Bool) :
    s.release r moved =
      { s with arb := (s.release r moved).arb, axis := (s.release r moved).axis, beac := (s.release r moved).beac } := by
  unfold State.release
  split
  · next side _ =>
    split
    · cases moved <;> cases side <;> rfl
    · rfl
  · split
    · cases moved <;> rfl
    · rfl

/-- The record leaves the table and heads the recent-outcomes list with its final position (R13, R15). -/
theorem State.quit_plan (s : State) (r : Record) :
    (s.quit r o why).plan =
      { s.plan with
        records := s.plan.records.filter fun x => x.handle ≠ r.handle
        recent := (r.finish ⟨o, why, s.endPos r⟩ :: s.plan.recent).take 8 } := by
  unfold State.quit State.listed
  rw [State.release_same, ← s.stopOutputs_pos, s.stopOutputs_same]
  rfl

theorem State.quit_cnt (s : State) (r : Record) : (s.quit r o why).cnt = s.cnt := by
  unfold State.quit State.listed
  rw [State.release_same, s.stopOutputs_same]
  rfl

theorem State.quit_now (s : State) (r : Record) : (s.quit r o why).now = s.now := by
  unfold State.quit State.listed
  rw [State.release_same, s.stopOutputs_same]
  rfl

theorem State.stopOutputs_waiter (pack : r.side = none → s.holdsPack r.handle = false)
    (door : ∀ side, r.side = some side → s.holdsDoor side r.handle = false) : s.stopOutputs r = s := by
  unfold State.stopOutputs
  cases hs : r.side with
  | none => simp [pack hs]
  | some side => simp [door side hs]

theorem State.stopOutputs_still (hs : r.side = none) (hr : r.state ≠ .running) : s.stopOutputs r = s := by
  simp [State.stopOutputs, hs, hr]

theorem State.stopOutputs_running (hs : r.side = none) (hp : s.holdsPack r.handle = true) (hr : r.state = .running) :
    s.stopOutputs r = s.leaveRun := by
  simp [State.stopOutputs, hs, hp, hr]

theorem State.stopOutputs_door {side : Side} (hs : r.side = some side) (hd : s.holdsDoor side r.handle = true) :
    s.stopOutputs r = s.stopDoor side := by
  simp [State.stopOutputs, hs, hd]

theorem State.release_waiter (pack : r.side = none → s.holdsPack r.handle = false)
    (door : ∀ side, r.side = some side → s.holdsDoor side r.handle = false) (moved : Bool) : s.release r moved = s := by
  unfold State.release
  cases hs : r.side with
  | none => simp [pack hs]
  | some side => simp [door side hs]

theorem State.release_pack (hs : r.side = none) (hp : s.holdsPack r.handle = true) (moved : Bool) :
    (s.release r moved).arb = { s.arb with pack := none } ∧ (s.release r moved).axis = { s.axis with run := none } := by
  unfold State.release
  simp only [hs, hp]
  cases moved <;> exact ⟨rfl, rfl⟩

theorem State.release_door {side : Side} (hs : r.side = some side) (hd : s.holdsDoor side r.handle = true) (moved : Bool) :
    (s.release r moved).arb = s.arb.setChannel side none ∧ (s.release r moved).axis = s.axis := by
  unfold State.release
  simp only [hs, hd]
  cases moved <;> cases side <;> exact ⟨rfl, rfl⟩

/-- A record that holds nothing gives nothing up. -/
theorem State.quit_waiter (pack : r.side = none → s.holdsPack r.handle = false)
    (door : ∀ side, r.side = some side → s.holdsDoor side r.handle = false) :
    (s.quit r o why).arb = s.arb ∧ (s.quit r o why).axis = s.axis ∧ (s.quit r o why).near = s.near ∧
      (s.quit r o why).off = s.off := by
  unfold State.quit State.listed
  rw [State.stopOutputs_waiter pack door, State.release_waiter]
  · exact ⟨rfl, rfl, rfl, rfl⟩
  · exact pack
  · exact door

/-- The holder of the pack gives it up (R13, R48, R68). -/
theorem State.quit_packHolder (hs : r.side = none) (hp : s.holdsPack r.handle = true) :
    (s.quit r o why).arb = { (s.stopOutputs r).arb with pack := none } ∧
      (s.quit r o why).axis = { (s.stopOutputs r).axis with run := none } ∧ (s.quit r o why).near = s.near ∧
        (s.quit r o why).off = s.off := by
  have same : (s.stopOutputs r).near = s.near ∧ (s.stopOutputs r).off = s.off := by
    by_cases hr : r.state = .running
    · rw [State.stopOutputs_running hs hp hr, s.leaveRun_same]
      exact ⟨rfl, rfl⟩
    · rw [State.stopOutputs_still hs hr]
      exact ⟨rfl, rfl⟩
  have holds : (s.stopOutputs r).holdsPack r.handle = true := by
    by_cases hr : r.state = .running
    · rw [State.stopOutputs_running hs hp hr, State.holdsPack, s.leaveRun_pack]
      exact hp
    · rwa [State.stopOutputs_still hs hr]
  obtain ⟨arb, axis⟩ := State.release_pack (s := s.listed r o why) hs holds (s.movedBy r)
  refine ⟨arb, axis, ?_, ?_⟩
  · rw [State.quit, State.release_same]
    exact same.1
  · rw [State.quit, State.release_same]
    exact same.2

/-- The holder of a door channel gives it up, with its outputs off and the door state derived (R13, R107). -/
theorem State.quit_doorHolder {side : Side} (hs : r.side = some side) (hd : s.holdsDoor side r.handle = true) :
    (s.quit r o why).arb = s.arb.setChannel side none ∧ (s.quit r o why).axis = s.axis ∧
      (s.quit r o why).door side = (s.door side).stop (s.derived side) ∧
        ∀ other, other ≠ side → (s.quit r o why).door other = s.door other := by
  have stopped := State.stopOutputs_door hs hd
  have arb : (s.stopDoor side).arb = s.arb := by cases side <;> rfl
  have axis : (s.stopDoor side).axis = s.axis := by cases side <;> rfl
  have holds : (s.listed r o why).holdsDoor side r.handle = true := by
    show (s.stopOutputs r).holdsDoor side r.handle = true
    rw [stopped, State.holdsDoor, arb]
    exact hd
  obtain ⟨arb', axis'⟩ := State.release_door (s := s.listed r o why) hs holds (s.movedBy r)
  have door (x : Side) : (s.quit r o why).door x = (s.stopDoor side).door x := by
    rw [← stopped, State.quit, State.release_same]
    cases x <;> rfl
  refine ⟨?_, ?_, ?_, fun other h => ?_⟩
  · rw [← arb, ← stopped]
    exact arb'
  · rw [← axis, ← stopped]
    exact axis'
  · rw [door]
    cases side <;> rfl
  · rw [door]
    cases side <;> cases other <;> first | rfl | exact absurd rfl h

end

/-! ### Agreement is kept by an ending -/

theorem State.find_filter {s : State} {h k : Handle} (ne : k ≠ h) :
    ((s.plan.records.filter fun x => x.handle ≠ h).find? fun r => r.handle == k) = s.find k := by
  unfold State.find
  rw [List.find?_filter]
  congr 1
  funext r
  by_cases e : r.handle = k
  · simp [e, ne]
  · simp [e]

/-- The pack given up by its holder is free (R13, R48). -/
theorem State.Sound.quit_packFree {s : State} (h : s.Sound) {r : Record} (hr : s.find r.handle = some r)
    (hp : s.holdsPack r.handle = true) (o : RecOutcome) (why : Option EndReason) : (s.quit r o why).packFree := by
  rcases h.pack with ⟨free, -⟩ | ⟨x, run, y, held⟩
  · simp [State.holdsPack, free] at hp
  · have same : x.handle = r.handle := by simpa [State.holdsPack, held.pack] using hp
    have found := held.find
    rw [same, hr] at found
    cases found
    obtain ⟨arb, axis, -⟩ := State.quit_packHolder o why held.side hp
    by_cases e : r.state = .running
    · obtain ⟨-, -, pump⟩ := held.driven e
      obtain ⟨valves, left, -⟩ := State.leaveRun_some held.axis
      rw [State.stopOutputs_running held.side hp e] at arb axis
      refine ⟨by rw [arb], by rw [axis], by rw [axis]; exact valves, ?_⟩
      rw [arb]
      show s.leaveRun.arb.contactor = .opened
      rw [left]
      cases hc : run.pump
      · rw [hc] at pump
        simpa using pump.symm
      · rfl
    · obtain ⟨-, valves, contactor⟩ := held.still e
      rw [State.stopOutputs_still held.side e] at arb axis
      exact ⟨by rw [arb], by rw [axis], by rw [axis]; exact valves, by rw [arb]; exact contactor⟩

/-- Taking the record `k` out of the table keeps the agreement, if every resource either is as it was and not held by `k`, or
is free now, and only what `k` held has been freed. -/
theorem State.Sound.without {s t : State} (h : s.Sound) (k : Handle)
    (records : t.plan.records = s.plan.records.filter fun x => x.handle ≠ k)
    (pack : t.packFree ∨ t.arb.pack = s.arb.pack ∧ t.axis = s.axis ∧ t.arb.contactor = s.arb.contactor ∧
      s.holdsPack k = false)
    (door : ∀ side, t.DoorIdle side ∨ t.arb.channel side = s.arb.channel side ∧ t.door side = s.door side ∧
      s.holdsDoor side k = false)
    (holdsPack : ∀ j, j ≠ k → s.holdsPack j = true → t.holdsPack j = true)
    (holdsDoor : ∀ side j, j ≠ k → s.holdsDoor side j = true → t.holdsDoor side j = true) : t.Sound := by
  have find {j : Handle} (ne : j ≠ k) : t.find j = s.find j := by
    rw [State.find, records]
    exact State.find_filter ne
  refine ⟨fun r m => ?_, ?_, fun side => ?_⟩
  · rw [records, List.mem_filter, decide_eq_true_eq] at m
    obtain ⟨kind, origin, granted⟩ := (s.recordSound_iff r).mp (h.records r m.1)
    refine (t.recordSound_iff r).mpr ⟨kind, origin, fun g => ⟨fun hs => ?_, fun side hs => ?_⟩⟩
    · exact holdsPack _ m.2 ((granted g).1 hs)
    · exact ⟨holdsDoor side _ m.2 ((granted g).2 side hs).1, ((granted g).2 side hs).2⟩
  · rcases pack with free | ⟨pack, axis, contactor, other⟩
    · exact .inl free
    · rcases h.pack with ⟨a, b, c, d⟩ | ⟨x, run, r, held⟩
      · exact .inl ⟨pack.trans a, axis ▸ b, axis ▸ c, contactor.trans d⟩
      · have ne : x.handle ≠ k := by simpa [State.holdsPack, held.pack] using other
        refine .inr ⟨x, run, r, pack.trans held.pack, axis ▸ held.axis, (find ne).trans held.find, held.side, held.granted,
          fun e => ?_, fun e => ?_⟩
        · rw [axis, contactor]
          exact held.driven e
        · rw [axis, contactor]
          exact held.still e
  · rcases door side with idle | ⟨channel, door, other⟩
    · exact .inl idle
    · rcases h.door side with ⟨a, b, c, d, e⟩ | ⟨x, p, r, held⟩
      · exact .inl ⟨channel.trans a, door ▸ b, door ▸ c, door ▸ d, door ▸ e⟩
      · have ne : x.handle ≠ k := by simpa [State.holdsDoor, held.channel] using other
        exact .inr ⟨x, p, r, channel.trans held.channel, door ▸ held.phase, (find ne).trans held.find, held.ofSide,
          held.running, door ▸ held.motorOpen, door ▸ held.motorClose, door ▸ held.latch, door ▸ held.moving⟩

theorem State.holdsPack_unique {s : State} {j k : Handle} (hj : s.holdsPack j = true) (hk : s.holdsPack k = true) : j = k := by
  unfold State.holdsPack at hj hk
  split at hj
  · next x hx =>
    rw [hx] at hk
    simp only [beq_iff_eq] at hj hk
    exact hj.symm.trans hk
  · cases hj

theorem State.holdsDoor_unique {s : State} {side : Side} {j k : Handle} (hj : s.holdsDoor side j = true)
    (hk : s.holdsDoor side k = true) : j = k := by
  unfold State.holdsDoor at hj hk
  split at hj
  · next x hx =>
    rw [hx] at hk
    simp only [beq_iff_eq] at hj hk
    exact hj.symm.trans hk
  · cases hj

/-- A record that holds the pack is a tail-lift record, and one that holds a door channel is a door record of its side. -/
theorem State.Sound.holder_side {s : State} (h : s.Sound) {k : Handle} {r : Record} (hr : s.find k = some r) :
    (s.holdsPack k = true → r.side = none) ∧ ∀ side, s.holdsDoor side k = true → r.side = some side := by
  refine ⟨fun hp => ?_, fun side hd => ?_⟩
  · rcases h.pack with ⟨free, -⟩ | ⟨x, run, y, held⟩
    · simp [State.holdsPack, free] at hp
    · have same : x.handle = k := by simpa [State.holdsPack, held.pack] using hp
      have found := held.find
      rw [same, hr] at found
      cases found
      exact held.side
  · rcases h.door side with idle | ⟨x, p, y, held⟩
    · simp [State.holdsDoor, idle.channel] at hd
    · have same : x.handle = k := by simpa [State.holdsDoor, held.channel] using hd
      have found := held.find
      rw [same, hr] at found
      cases found
      exact held.ofSide

theorem State.Sound.quit {s : State} (h : s.Sound) {r : Record} (hr : s.find r.handle = some r) (o : RecOutcome)
    (why : Option EndReason) : (s.quit r o why).Sound := by
  have records : (s.quit r o why).plan.records = s.plan.records.filter fun x => x.handle ≠ r.handle := by
    rw [State.quit_plan]
  obtain ⟨ofPack, ofDoor⟩ := h.holder_side hr
  by_cases hp : s.holdsPack r.handle = true
  · have hs := ofPack hp
    obtain ⟨arb, axis, near, off⟩ := State.quit_packHolder o why hs hp
    have channel (side : Side) : (s.quit r o why).arb.channel side = s.arb.channel side := by
      rw [arb]
      by_cases e : r.state = .running
      · rw [State.stopOutputs_running hs hp e, ← s.leaveRun_channel]
        cases side <;> rfl
      · rw [State.stopOutputs_still hs e]
        cases side <;> rfl
    refine h.without r.handle records (.inl (h.quit_packFree hr hp o why)) (fun side => .inr ⟨channel side, ?_, ?_⟩)
      (fun j ne hj => absurd (State.holdsPack_unique hj hp) ne) fun side j _ hj => ?_
    · cases side
      · exact near
      · exact off
    · rw [Bool.eq_false_iff]
      intro hd
      rw [ofDoor side hd] at hs
      cases hs
    · rw [State.holdsDoor, channel side]
      exact hj
  rw [Bool.not_eq_true] at hp
  by_cases hd : ∃ mine, s.holdsDoor mine r.handle = true
  · obtain ⟨mine, hd⟩ := hd
    have hs := ofDoor mine hd
    obtain ⟨arb, axis, stopped, others⟩ := State.quit_doorHolder o why hs hd
    have channel {side : Side} (ne : side ≠ mine) : (s.quit r o why).arb.channel side = s.arb.channel side := by
      rw [arb]
      cases side <;> cases mine <;> first | rfl | exact absurd rfl ne
    have pack : (s.quit r o why).arb.pack = s.arb.pack ∧ (s.quit r o why).arb.contactor = s.arb.contactor := by
      rw [arb]
      cases mine <;> exact ⟨rfl, rfl⟩
    refine h.without r.handle records (.inr ⟨pack.1, axis, pack.2, hp⟩) (fun side => ?_) (fun j _ hj => ?_)
      fun side j ne hj => ?_
    · by_cases ne : side = mine
      · subst ne
        refine .inl ⟨?_, by rw [stopped]; rfl, by rw [stopped]; rfl, by rw [stopped]; rfl, by rw [stopped]; rfl⟩
        rw [arb]
        cases side <;> rfl
      · refine .inr ⟨channel ne, others side ne, ?_⟩
        rw [Bool.eq_false_iff]
        intro hd'
        rw [ofDoor side hd'] at hs
        exact ne (Option.some.inj hs)
    · rw [State.holdsPack, pack.1]
      exact hj
    · have other : side ≠ mine := fun e => ne (State.holdsDoor_unique (e ▸ hj) hd)
      rw [State.holdsDoor, channel other]
      exact hj
  · have noDoor (side : Side) : s.holdsDoor side r.handle = false := by
      rw [Bool.eq_false_iff]
      exact fun hd' => hd ⟨side, hd'⟩
    obtain ⟨arb, axis, near, off⟩ := State.quit_waiter o why (fun _ => hp) fun side _ => noDoor side
    refine h.without r.handle records (.inr ⟨by rw [arb], axis, by rw [arb], hp⟩)
      (fun side => .inr ⟨by rw [arb], ?_, noDoor side⟩) (fun j _ hj => ?_) fun side j _ hj => ?_
    · cases side
      · exact near
      · exact off
    · rw [State.holdsPack, arb]
      exact hj
    · rw [State.holdsDoor, arb]
      exact hj

end Sys2Proof.Machine
end

section
/-!
SUPPORT. Endings of records with their successors: the agreement of records, resources and outputs through them, the pack
they free, and the pump they leave as it is (R7, R13, R28, R48, R60).
-/

namespace Sys2Proof.Machine

/-! ### One ending and many -/

section
variable {s : State} (o : RecOutcome) (why : Option EndReason)

theorem State.Sound.endOne (h : s.Sound) (k : Handle) : (s.endOne k o why).Sound := by
  cases hr : s.find k with
  | none => rwa [State.endOne_absent hr]
  | some r =>
    have same := (State.find_spec hr).1
    rw [State.endOne_eq hr]
    exact (State.count_counts _ _ _ _ _).sound (h.quit (same ▸ hr) o why)

theorem State.Sound.endEach (h : s.Sound) (ks : List Handle) : (s.endEach ks o why).Sound :=
  List.foldlRecOn ks _ (motive := State.Sound) h fun _ ht k _ => ht.endOne o why k

end

theorem State.Sound.endChain : ∀ (fuel : Nat) {s : State}, s.Sound → ∀ (k : Handle) {o : RecOutcome}
    (why : Option EndReason), o ≠ .done → (s.endChain fuel k o why).Sound
  | 0, _, h, _, _, _, _ => h
  | fuel + 1, s, h, k, o, why, ho => by
    have later : ((s.successors k).foldl (fun t j => t.endChain fuel j .cancelled (some .pred))
        (s.endOne k o why)).Sound :=
      List.foldlRecOn (s.successors k) _ (motive := State.Sound) (h.endOne o why k) fun t ht j _ =>
        State.Sound.endChain fuel ht j _ nofun
    unfold State.endChain
    cases o with
    | done => exact absurd rfl ho
    | stopped => exact later
    | failed => exact later
    | cancelled => exact later

theorem State.Sound.endTree {s : State} (h : s.Sound) {o : RecOutcome} (ho : o ≠ .done) (why : Option EndReason)
    (k : Handle) : (s.endTree k o why).Sound := State.Sound.endChain _ h k why ho

/-! ### The pack freed -/

theorem State.packFree.quit {s : State} (h : s.packFree) (r : Record) (o : RecOutcome) (why : Option EndReason) :
    (s.quit r o why).packFree := by
  obtain ⟨pack, run, valves, contactor⟩ := h
  have none (k : Handle) : s.holdsPack k = false := by simp [State.holdsPack, pack]
  by_cases hd : ∃ side, r.side = some side ∧ s.holdsDoor side r.handle = true
  · obtain ⟨side, hs, hd⟩ := hd
    obtain ⟨arb, axis, -⟩ := State.quit_doorHolder o why hs hd
    rw [State.packFree, arb, axis]
    cases side <;> exact ⟨pack, run, valves, contactor⟩
  · obtain ⟨arb, axis, -⟩ := State.quit_waiter (r := r) o why (fun _ => none _) fun side hs => by
      rw [Bool.eq_false_iff]
      exact fun hd' => hd ⟨side, hs, hd'⟩
    rw [State.packFree, arb, axis]
    exact ⟨pack, run, valves, contactor⟩

theorem State.packFree.endOne {s : State} (h : s.packFree) (k : Handle) (o : RecOutcome) (why : Option EndReason) :
    (s.endOne k o why).packFree := by
  cases hr : s.find k with
  | none => rwa [State.endOne_absent hr]
  | some r =>
    rw [State.endOne_eq hr]
    exact (State.count_counts _ _ _ _ _).packFree (h.quit r o why)

theorem State.packFree.endChain : ∀ (fuel : Nat) {s : State}, s.packFree → ∀ (k : Handle) (o : RecOutcome)
    (why : Option EndReason), (s.endChain fuel k o why).packFree
  | 0, _, h, _, _, _ => h
  | fuel + 1, s, h, k, o, why => by
    have one := h.endOne k o why
    have later : ((s.successors k).foldl (fun t j => t.endChain fuel j .cancelled (some .pred))
        (s.endOne k o why)).packFree :=
      List.foldlRecOn _ _ (motive := State.packFree) one fun t ht j _ => State.packFree.endChain fuel ht j _ _
    unfold State.endChain
    cases o with
    | done => exact List.foldlRecOn _ _ (motive := State.packFree) one fun t ht j _ => ht
    | stopped => exact later
    | failed => exact later
    | cancelled => exact later

/-- What an ending with its successors is, when the record itself has ended: endings or releases of its successors. -/
theorem State.endTree_eq (s : State) (k : Handle) (o : RecOutcome) (why : Option EndReason) :
    s.endTree k o why =
      if o = .done then (s.successors k).foldl State.freePred (s.endOne k o why)
      else (s.successors k).foldl (fun t j => t.endChain 12 j .cancelled (some .pred)) (s.endOne k o why) := by
  cases o <;> rfl

/-- Everything that a step of an ending keeps, the whole of it keeps. -/
theorem State.endTree_induction {P : State → Prop} {s : State} {k : Handle} {o : RecOutcome} {why : Option EndReason}
    (one : P (s.endOne k o why)) (free : ∀ t j, P t → P (t.freePred j))
    (chain : o ≠ .done → ∀ t j, P t → P (t.endChain 12 j .cancelled (some .pred))) : P (s.endTree k o why) := by
  rw [State.endTree_eq]
  split
  · exact List.foldlRecOn _ _ (motive := P) one fun t ht j _ => free t j ht
  · next ho => exact List.foldlRecOn _ _ (motive := P) one fun t ht j _ => chain ho t j ht

theorem State.Sound.find_holder {s : State} (h : s.Sound) {k : Handle} (hp : s.holdsPack k = true) :
    ∃ x run r, s.PackHeld x run r ∧ x.handle = k := by
  rcases h.pack with ⟨free, -⟩ | ⟨x, run, r, held⟩
  · simp [State.holdsPack, free] at hp
  · exact ⟨x, run, r, held, by simpa [State.holdsPack, held.pack] using hp⟩

theorem State.Sound.endOne_packFree {s : State} (h : s.Sound) {k : Handle} (hp : s.holdsPack k = true) (o : RecOutcome)
    (why : Option EndReason) : (s.endOne k o why).packFree := by
  obtain ⟨x, run, r, held, rfl⟩ := h.find_holder hp
  have same := (State.find_spec held.find).1
  rw [State.endOne_eq held.find]
  exact (State.count_counts _ _ _ _ _).packFree (h.quit_packFree (same ▸ held.find) (same ▸ hp) o why)

/-- The ending of the pack's holder with its successors leaves the pack free (R13, R48). -/
theorem State.Sound.endTree_packFree {s : State} (h : s.Sound) {k : Handle} (hp : s.holdsPack k = true) (o : RecOutcome)
    (why : Option EndReason) : (s.endTree k o why).packFree :=
  State.endTree_induction (h.endOne_packFree hp o why) (fun _ _ free => free) fun _ _ j free => free.endChain _ j _ _

/-! ### Endings take no time -/

theorem State.count_now (s : State) (sources : List Source) (o : Option Origin) (side : Option Side) (load : Nat) :
    (s.count sources o side load).now = s.now := by
  unfold State.count
  split
  · rfl
  · exact s.applyCounters_now _

theorem State.endOne_now (s : State) (k : Handle) (o : RecOutcome) (why : Option EndReason) :
    (s.endOne k o why).now = s.now := by
  cases hr : s.find k with
  | none => rw [State.endOne_absent hr]
  | some r => rw [State.endOne_eq hr, State.count_now, State.quit_now]

theorem State.endChain_now : ∀ (fuel : Nat) (s : State) (k : Handle) (o : RecOutcome) (why : Option EndReason),
    (s.endChain fuel k o why).now = s.now
  | 0, _, _, _, _ => rfl
  | fuel + 1, s, k, o, why => by
    have one := s.endOne_now k o why
    have later : ((s.successors k).foldl (fun t j => t.endChain fuel j .cancelled (some .pred))
        (s.endOne k o why)).now = s.now :=
      List.foldlRecOn _ _ (motive := fun t : State => t.now = s.now) one fun t ht j _ =>
        (State.endChain_now fuel t j _ _).trans ht
    unfold State.endChain
    cases o with
    | done => exact List.foldlRecOn _ _ (motive := fun t : State => t.now = s.now) one fun t ht j _ => ht
    | stopped => exact later
    | failed => exact later
    | cancelled => exact later

theorem State.endTree_now (s : State) (k : Handle) (o : RecOutcome) (why : Option EndReason) :
    (s.endTree k o why).now = s.now := State.endChain_now _ s k o why

theorem State.endLost_now (s : State) (k : Handle) (o : RecOutcome) : (s.endLost k o).now = s.now :=
  List.foldlRecOn _ _ (motive := fun t : State => t.now = s.now) (s.endOne_now k o _) fun t ht j _ =>
    (t.endTree_now j _ _).trans ht

theorem State.linkLostEnds_now (s : State) : s.linkLostEnds.now = s.now :=
  List.foldlRecOn _ _ (motive := fun t : State => t.now = s.now) rfl fun t ht r _ => by
    cases r.origin
    · exact (t.endLost_now _ _).trans ht
    · exact ht

/-! ### The contactor and pump rest -/

/-- The arbiter of `t` is that of `s` but for who holds what. -/
def State.PumpKept (s t : State) : Prop :=
  t.arb = { s.arb with pack := t.arb.pack, near := t.arb.near, off := t.arb.off }

theorem State.PumpKept.trans {s t u : State} (a : s.PumpKept t) (b : t.PumpKept u) : s.PumpKept u := by
  unfold State.PumpKept at *
  rw [b, a]

theorem State.Counts.pumpKept {s t : State} (c : s.Counts t) : s.PumpKept t := by
  unfold State.PumpKept
  rw [c.arb]

/-- With the contactor open an ending leaves the pump as it is: no pump-driven run can be ending (R56). -/
theorem State.Sound.endOne_pumpKept {s : State} (h : s.Sound) (open_ : s.arb.contactor = .opened) (k : Handle)
    (o : RecOutcome) (why : Option EndReason) : s.PumpKept (s.endOne k o why) := by
  cases hr : s.find k with
  | none =>
    rw [State.endOne_absent hr]
    rfl
  | some r =>
    obtain ⟨rfl, -⟩ := State.find_spec hr
    rw [State.endOne_eq hr]
    refine State.PumpKept.trans ?_ (State.count_counts _ _ _ _ _).pumpKept
    obtain ⟨ofPack, ofDoor⟩ := h.holder_side hr
    unfold State.PumpKept
    by_cases hp : s.holdsPack r.handle = true
    · obtain ⟨arb, -⟩ := State.quit_packHolder o why (ofPack hp) hp
      rw [arb]
      by_cases e : r.state = .running
      · obtain ⟨x, run, y, held, hx⟩ := h.find_holder hp
        have found := held.find
        rw [hx, hr] at found
        cases found
        have pump : run.pump = false := by simpa [open_] using (held.driven e).2.2
        rw [State.stopOutputs_running held.side hp e, (State.leaveRun_some held.axis).2.1, pump]
        rfl
      · rw [State.stopOutputs_still (ofPack hp) e]
    · by_cases hd : ∃ side, s.holdsDoor side r.handle = true
      · obtain ⟨side, hd⟩ := hd
        obtain ⟨arb, -⟩ := State.quit_doorHolder o why (ofDoor side hd) hd
        rw [arb]
        cases side <;> rfl
      · obtain ⟨arb, -⟩ := State.quit_waiter (r := r) o why (fun _ => Bool.not_eq_true _ ▸ hp) fun side _ => by
          rw [Bool.eq_false_iff]
          exact fun hd' => hd ⟨side, hd'⟩
        rw [arb]

/-- Sound, and the pump as it was in `s`, with the contactor open. -/
structure State.PumpStands (s t : State) : Prop where
  sound : t.Sound
  contactor : t.arb.contactor = .opened
  kept : s.PumpKept t

theorem State.PumpStands.endOne {s t : State} (h : s.PumpStands t) (k : Handle) (o : RecOutcome) (why : Option EndReason) :
    s.PumpStands (t.endOne k o why) := by
  have kept := h.sound.endOne_pumpKept h.contactor k o why
  refine ⟨h.sound.endOne o why k, ?_, h.kept.trans kept⟩
  rw [kept]
  exact h.contactor

theorem State.PumpStands.endEach {s t : State} (h : s.PumpStands t) (ks : List Handle) (o : RecOutcome)
    (why : Option EndReason) : s.PumpStands (t.endEach ks o why) :=
  List.foldlRecOn ks _ (motive := s.PumpStands) h fun _ ht k _ => ht.endOne k o why

theorem State.PumpStands.endChain {s : State} : ∀ (fuel : Nat) {t : State}, s.PumpStands t → ∀ (k : Handle)
    (o : RecOutcome) (why : Option EndReason), o ≠ .done → s.PumpStands (t.endChain fuel k o why)
  | 0, _, h, _, _, _, _ => h
  | fuel + 1, t, h, k, o, why, ho => by
    have later : s.PumpStands ((t.successors k).foldl (fun u j => u.endChain fuel j .cancelled (some .pred))
        (t.endOne k o why)) :=
      List.foldlRecOn _ _ (motive := s.PumpStands) (h.endOne k o why) fun u hu j _ =>
        State.PumpStands.endChain fuel hu j _ _ nofun
    unfold State.endChain
    cases o with
    | done => exact absurd rfl ho
    | stopped => exact later
    | failed => exact later
    | cancelled => exact later

end Sys2Proof.Machine
end

section
/-!
SUPPORT. Many endings in a row: the table they leave and the notices they queue (R13, R24, R28, R187).
-/

namespace Sys2Proof.Machine

/-! ### The table after endings -/

theorem State.endOne_bare (s : State) (k : Handle) (o : RecOutcome) (why : Option EndReason) :
    (s.endOne k o why).bareRecords = s.bareRecords.filter fun r => r.handle ≠ k := by
  cases hr : s.find k with
  | none =>
    rw [State.endOne_absent hr]
    have none := s.find_bare k
    rw [hr, Option.map_none, eq_comm, List.find?_eq_none] at none
    exact (List.filter_eq_self.mpr fun r m => by simpa using none r m).symm
  | some r =>
    obtain ⟨rfl, -⟩ := State.find_spec hr
    rw [State.endOne_eq hr, (State.count_counts _ _ _ _ _).bare, State.bareRecords, State.quit_plan, State.bareRecords,
      List.filter_map]
    rfl

theorem State.length_bare (s : State) : s.bareRecords.length = s.plan.records.length := List.length_map _

/-- Records end one by one, each with its own outcome and all for one reason. -/
def State.endPairs (s : State) (l : List (Handle × RecOutcome)) (why : Option EndReason) : State :=
  l.foldl (fun t p => t.endOne p.1 p.2 why) s

theorem State.endPairs_cons (s : State) (p : Handle × RecOutcome) (l : List (Handle × RecOutcome))
    (why : Option EndReason) : s.endPairs (p :: l) why = (s.endOne p.1 p.2 why).endPairs l why := rfl

theorem State.endEach_pairs (s : State) (ks : List Handle) (o : RecOutcome) (why : Option EndReason) :
    s.endEach ks o why = s.endPairs (ks.map fun k => (k, o)) why := by
  rw [State.endPairs, List.foldl_map]
  rfl

theorem State.endPairs_follows (s : State) (l : List (Handle × RecOutcome)) (why : Option EndReason) :
    s.Follows (s.endPairs l why) := 
  State.Follows.foldl (fun (t : State) (p : Handle × RecOutcome) => t.endOne p.1 p.2 why) (fun t p => t.endOne_follows p.1 p.2 why) l s

theorem State.endPairs_bare (why : Option EndReason) : ∀ (l : List (Handle × RecOutcome)) (s : State),
    (s.endPairs l why).bareRecords = s.bareRecords.filter fun r => r.handle ∉ l.map Prod.fst
  | [], s => by simp [State.endPairs]
  | p :: l, s => by
    rw [State.endPairs_cons, State.endPairs_bare why l, State.endOne_bare, List.filter_filter]
    refine List.filter_congr fun r _ => ?_
    rw [Bool.eq_iff_iff]
    simp [not_or, and_comm]

/-- An ending leaves every other record but for its flag `DERATED`. -/
theorem State.endOne_find {s : State} {j k : Handle} (ne : j ≠ k) {r : Record} (f : s.find j = some r) (o : RecOutcome)
    (why : Option EndReason) : ∃ y, (s.endOne k o why).find j = some y ∧ y.bare = r.bare := by
  have there := (s.endOne k o why).find_bare j
  have same : ((s.bareRecords.filter fun y => y.handle ≠ k).find? fun y => y.handle == j) =
      s.bareRecords.find? fun y => y.handle == j := by
    rw [List.find?_filter]
    congr 1
    funext y
    by_cases e : y.handle = j
    · simp [e, ne]
    · simp [e]
  rw [State.endOne_bare, same, ← s.find_bare, f, Option.map_some, Option.map_eq_some_iff] at there
  exact there

/-- Each record that ends queues its notice (R13). -/
theorem State.endPairs_noted (why : Option EndReason) {r : Record} {o : RecOutcome} (l : List (Handle × RecOutcome))
    (nd : (l.map Prod.fst).Nodup) (m : (r.handle, o) ∈ l) : ∀ {s : State} {y : Record}, s.find r.handle = some y →
      y.bare = r.bare → ∃ p, s.queued (s.endPairs l why) (.ended r.handle r.kind o why p) := by
  induction l with
  | nil => cases m
  | cons q l ih =>
    intro s y f e
    rw [List.map_cons, List.nodup_cons] at nd
    rw [State.endPairs_cons]
    by_cases he : r.handle = q.1
    · rcases List.mem_cons.mp m with rfl | m
      · have kind : y.kind = r.kind := by rw [Record.bare_eq e]
        rw [← kind]
        exact ⟨_, (State.endOne_noted f o why).follows (State.endPairs_follows _ l why)⟩
      · exact absurd (he ▸ List.mem_map_of_mem m) nd.1
    · have m : (r.handle, o) ∈ l := (List.mem_cons.mp m).resolve_left fun e => he (e ▸ rfl)
      obtain ⟨z, hz, ez⟩ := State.endOne_find he f q.2 why
      obtain ⟨p, n⟩ := ih nd.2 m hz (ez.trans e)
      exact ⟨p, n.since (s.endOne_follows _ _ _)⟩

/-- With every record ended for one reason, each queues its notice (R13, R28). -/
theorem State.endEach_noted {s : State} (nd : s.handles.Nodup) (o : RecOutcome) (why : Option EndReason) {r : Record}
    (m : r ∈ s.plan.records) : ∃ p, s.queued (s.endEach s.handles o why) (.ended r.handle r.kind o why p) := by
  have fst : (s.handles.map fun k => (k, o)).map Prod.fst = s.handles := by
    rw [List.map_map]
    exact List.map_id _
  rw [← fst] at nd
  rw [State.endEach_pairs]
  refine State.endPairs_noted why _ nd (List.mem_map.mpr ⟨r.handle, List.mem_map_of_mem m, rfl⟩) (State.find_of_mem ?_ m) rfl
  rwa [fst] at nd

/-! ### An empty table drives nothing -/

theorem State.Sound.outputsOff {s : State} (h : s.Sound) (empty : s.plan.records = []) : s.outputsOff = true := by
  have none (k : Handle) : s.find k = none := by rw [State.find, empty, List.find?_nil]
  obtain ⟨-, -, valves, contactor⟩ : s.packFree := by
    rcases h.pack with free | ⟨x, run, r, held⟩
    · exact free
    · exact absurd held.find (by rw [none]; nofun)
  have idle (side : Side) : s.DoorIdle side := by
    rcases h.door side with idle | ⟨x, p, r, held⟩
    · exact idle
    · exact absurd held.find (by rw [none]; nofun)
  have near := idle .near
  have off := idle .off
  simp only [State.outputsOff, valves, contactor, List.all_cons, List.all_nil, show s.near = s.door .near from rfl,
    show s.off = s.door .off from rfl, near.motorOpen, near.motorClose, near.latch, off.motorOpen, off.motorClose, off.latch]
  rfl

/-! ### A halt event (R28) -/

/-- The state of a halt event in which the records end: the latch set and the notice queued. -/
def State.halting (s : State) (c : Cause) : State :=
  State.notify { s with halt := { s.halt with set := true, first := some c }.mark c true } (.halted c)

theorem State.raiseHalt_eq {s : State} (h : s.halt.set = false) (c : Cause) :
    s.raiseHalt c =
      (((s.halting c).endEach s.handles .cancelled (some .halted)).count [.halts] c.origin none
        ((s.halting c).endEach s.handles .cancelled (some .halted)).axis.lastLoad) := by
  unfold State.raiseHalt
  rw [h]
  rfl

theorem State.Sound.of_same {s t : State} (h : s.Sound) (plan : t.plan = s.plan := by rfl) (arb : t.arb = s.arb := by rfl)
    (axis : t.axis = s.axis := by rfl) (near : t.near = s.near := by rfl) (off : t.off = s.off := by rfl) : t.Sound := by
  rw [← State.sound_iff] at h ⊢
  rw [← h]
  unfold State.sound State.recordSound State.packSound State.doorSound State.holdsPack State.holdsDoor State.find State.door
  rw [plan, arb, axis, near, off]

theorem State.Sound.raiseHalt {s : State} (h : s.Sound) (c : Cause) : (s.raiseHalt c).Sound := by
  cases hs : s.halt.set with
  | false =>
    rw [State.raiseHalt_eq hs]
    have start : (s.halting c).Sound := h.of_same
    exact (State.count_counts _ _ _ _ _).sound (start.endEach _ _ _)
  | true =>
    by_cases n : c.lasting = false ∨ s.halt.has c = true
    · rwa [State.raiseHalt_idle hs n]
    · rw [not_or, Bool.not_eq_false, Bool.not_eq_true] at n
      rw [State.raiseHalt_joins hs n.1 n.2]
      exact h.of_same

/-- A halt event with the latch clear queues an `ENDED` notice for every record (R13, R28). -/
theorem State.raiseHalt_noted {s : State} (h : s.halt.set = false) (c : Cause) (nd : s.handles.Nodup) {r : Record}
    (m : r ∈ s.plan.records) :
    ∃ p, s.queued (s.raiseHalt c) (.ended r.handle r.kind .cancelled (some .halted) p) := by
  rw [State.raiseHalt_eq h]
  obtain ⟨p, q⟩ := State.endEach_noted (s := s.halting c) nd .cancelled (some .halted) m
  obtain ⟨before, after, hq⟩ := q.follows (State.count_follows _ [.halts] c.origin none
    ((s.halting c).endEach s.handles .cancelled (some .halted)).axis.lastLoad)
  exact ⟨p, .halted c :: before, after, hq⟩

/-! ### The loss of the link (R24, R187) -/

/-- The link records with the outcomes that the loss of the link gives them (R24). -/
def lostRecords (rs : List Record) : List (Handle × RecOutcome) :=
  (rs.filter fun r => r.origin == .link).map fun r => (r.handle, if r.state.granted then .failed else .cancelled)

/-- No record that waits behind another is a station record, so the loss of the link ends no record but by its own rule
(R24, R25, R26). -/
theorem State.Sound.endLost_eq {s : State} (h : s.Sound) (nd : s.handles.Nodup) (k : Handle) (o : RecOutcome) :
    s.endLost k o = s.endOne k o (some .linkLost) := by
  unfold State.endLost
  dsimp only
  rw [List.filter_eq_nil_iff.mpr ?_]
  · rfl
  · intro j m
    obtain ⟨r, mr, rfl⟩ := List.mem_map.mp m
    obtain ⟨mr, pred⟩ := List.mem_filter.mp mr
    rw [State.find_of_mem nd mr]
    obtain ⟨-, origin, -⟩ := (s.recordSound_iff r).mp (h.records r mr)
    rcases origin with origin | origin
    · simp [origin]
    · simp [origin] at pred

theorem State.endOne_nodup {s : State} (nd : s.handles.Nodup) (k : Handle) (o : RecOutcome) (why : Option EndReason) :
    (s.endOne k o why).handles.Nodup := by
  rw [State.handles_bare, State.endOne_bare]
  rw [State.handles_bare] at nd
  exact nd.sublist (List.filter_sublist.map _)

theorem State.Sound.linkLostEnds_fold : ∀ (rs : List Record) {s : State}, s.Sound → s.handles.Nodup →
    rs.foldl
        (fun t r =>
          match r.origin with
          | .station _ => t
          | .link => t.endLost r.handle (if r.state.granted then .failed else .cancelled)) s =
      s.endPairs (lostRecords rs) (some .linkLost)
  | [], _, _, _ => rfl
  | r :: rs, s, h, nd => by
    rw [List.foldl_cons]
    cases ho : r.origin with
    | station i =>
      have skip : lostRecords (r :: rs) = lostRecords rs := by simp [lostRecords, ho]
      rw [skip]
      exact State.Sound.linkLostEnds_fold rs h nd
    | link =>
      have take : lostRecords (r :: rs) =
          (r.handle, if r.state.granted then .failed else .cancelled) :: lostRecords rs := by simp [lostRecords, ho]
      rw [take, State.endPairs_cons]
      dsimp only
      rw [h.endLost_eq nd]
      exact State.Sound.linkLostEnds_fold rs (h.endOne _ _ _) (State.endOne_nodup nd _ _ _)

theorem State.Sound.linkLostEnds_eq {s : State} (h : s.Sound) (nd : s.handles.Nodup) :
    s.linkLostEnds = s.endPairs (lostRecords s.plan.records) (some .linkLost) :=
  State.Sound.linkLostEnds_fold s.plan.records h nd

theorem lostRecords_fst (rs : List Record) :
    (lostRecords rs).map Prod.fst = (rs.filter fun r => r.origin == .link).map (·.handle) := by
  rw [lostRecords, List.map_map]
  rfl

theorem mem_lostRecords {s : State} (nd : s.handles.Nodup) {r : Record} (m : r ∈ s.plan.records) :
    r.handle ∈ (lostRecords s.plan.records).map Prod.fst ↔ r.origin = .link := by
  rw [lostRecords_fst]
  constructor
  · intro e
    obtain ⟨y, my, e⟩ := List.mem_map.mp e
    obtain ⟨my, link⟩ := List.mem_filter.mp my
    have same : some y = some r := by rw [← State.find_of_mem nd my, ← State.find_of_mem nd m, e]
    cases same
    exact eq_of_beq link
  · intro link
    exact List.mem_map_of_mem (List.mem_filter.mpr ⟨m, by rw [link]; rfl⟩)

/-- What the loss of the link makes of the table and queues: every link record ends, `FAILED` if it was granted and
`CANCELLED` if not, and every station record stays (R24). -/
structure State.LosesLink (s x : State) : Prop where
  gone : ∀ r ∈ x.plan.records, r.origin ≠ .link
  stay : ∀ r ∈ s.plan.records, r.origin ≠ .link →
    ∃ y ∈ x.plan.records, y = { r with flags := { r.flags with derated := y.flags.derated } }
  noted : ∀ r ∈ s.plan.records, r.origin = .link →
    ∃ p, s.queued x (.ended r.handle r.kind (if r.state.granted then .failed else .cancelled) (some .linkLost) p)

theorem State.Sound.linkLostEnds_bare {s : State} (h : s.Sound) (nd : s.handles.Nodup) :
    s.linkLostEnds.bareRecords =
      s.bareRecords.filter fun r => r.handle ∉ (lostRecords s.plan.records).map Prod.fst := by
  rw [h.linkLostEnds_eq nd, State.endPairs_bare]

theorem State.Sound.losesLink {s : State} (h : s.Sound) (nd : s.handles.Nodup) : s.LosesLink s.linkLostEnds where
  gone r m link := by
    have m := State.mem_bare m
    rw [h.linkLostEnds_bare nd] at m
    obtain ⟨m, out⟩ := List.mem_filter.mp m
    obtain ⟨y, my, e⟩ := List.mem_map.mp m
    have handle : y.handle = r.bare.handle := by rw [← e]; rfl
    have origin : y.origin = r.origin := by rw [Record.bare_eq e]
    rw [decide_eq_true_eq, ← handle, mem_lostRecords nd my, origin] at out
    exact out link
  stay r m link := by
    have left : r.bare ∈ s.linkLostEnds.bareRecords := by
      rw [h.linkLostEnds_bare nd, List.mem_filter, decide_eq_true_eq]
      refine ⟨State.mem_bare m, ?_⟩
      rw [show r.bare.handle = r.handle from rfl, mem_lostRecords nd m]
      exact link
    obtain ⟨y, my, e⟩ := List.mem_map.mp left
    exact ⟨y, my, Record.bare_eq e⟩
  noted r m link := by
    rw [h.linkLostEnds_eq nd]
    refine State.endPairs_noted _ _ ?_ (List.mem_map.mpr ⟨r, List.mem_filter.mpr ⟨m, by rw [link]; rfl⟩, rfl⟩)
      (State.find_of_mem nd m) rfl
    show ((lostRecords s.plan.records).map Prod.fst).Nodup
    rw [lostRecords_fst]
    exact nd.sublist (List.filter_sublist.map _)

/-- The expiry of supervision from a sound state: what ends and what is queued (R24, R187). -/
theorem State.Sound.expire {s : State} (h : s.Sound) (nd : s.handles.Nodup) (byCount : Bool) :
    s.LosesLink (s.expire byCount) ∧
      s.queued (s.expire byCount)
        (.linkLost byCount s.link.sup.live (s.plan.records.length - (s.expire byCount).plan.records.length)) := by
  have quiet : State.Sound { s with link := s.link.expired } := h.of_same
  have noticed (n : Notice) : State.Sound (State.notify { s with link := s.link.expired } n) := h.of_same
  have same (n : Notice) : (State.linkLostEnds (State.notify { s with link := s.link.expired } n)).plan.records.length =
      (State.linkLostEnds { s with link := s.link.expired }).plan.records.length := by
    rw [← State.length_bare, ← State.length_bare, quiet.linkLostEnds_bare nd, (noticed n).linkLostEnds_bare nd]
    rfl
  have count : (s.expire byCount).plan.records.length =
      (State.linkLostEnds { s with link := s.link.expired }).plan.records.length := same _
  rw [count, State.expire_eq]
  set n := Notice.linkLost byCount s.link.sup.live
    (s.plan.records.length - (State.linkLostEnds { s with link := s.link.expired }).plan.records.length)
  obtain ⟨gone, stay, noted⟩ := (noticed n).losesLink nd
  refine ⟨⟨gone, stay, fun r m link => ?_⟩, ?_⟩
  · obtain ⟨p, before, after, q⟩ := noted r m link
    exact ⟨p, n :: before, after, q⟩
  · obtain ⟨after, q⟩ := (State.linkLostEnds_follows (State.notify { s with link := s.link.expired } n)).notes
    exact ⟨[], after, q⟩

end Sys2Proof.Machine
end

section
/-!
What ends many records at once: the halt latch and the halt event (O6, O24) and the loss of the link (O37, O38), in the terms
of R24, R28 and R185 to R187.
-/

namespace Sys2Proof.Machine

/-! ### A halt event -/

/-- Settles O6: the table of a halted state is empty, and an empty table drives nothing. -/
theorem haltedMeansStill : Obligations.HaltedMeansStill := by
  intro s inv sound halted
  exact ((State.sound_iff s).mp sound).outputsOff (((State.inv_iff s).mp inv).1.empty halted)

/-- Settles O24, by whether the latch is clear. -/
theorem haltEventStopsEverything : Obligations.HaltEventStopsEverything := by
  intro s c
  refine ⟨fun clear => ?_, fun set lasting absent => ?_, fun set idle => State.raiseHalt_idle set idle⟩
  · obtain ⟨empty, halt, noted⟩ := State.raiseHalt_clear clear c
    refine ⟨empty, s.raiseHalt_set c, ?_, fun lasting => ?_, noted, fun good r m => ?_, fun _ _ sound => ?_⟩
    · rw [halt, HaltLatch.mark_first]
    · rw [halt]
      exact HaltLatch.mark_has_self lasting true
    · exact State.raiseHalt_noted clear c (State.handles_nodup good) m
    · exact (((State.sound_iff s).mp sound).raiseHalt c).outputsOff empty
  · rw [State.raiseHalt_joins set lasting absent]
    exact ⟨HaltLatch.mark_has_self lasting true, HaltLatch.mark_first _ _ _, (HaltLatch.mark_set _ _ _).trans set,
      fun d ne => HaltLatch.mark_has_other ne true, rfl⟩

/-! ### Supervision -/

/-- A request taken at once whose effect leaves the transmit queue, with its reply. -/
theorem State.serve_replies_tx {s x : State} {t : Tag} {n : ReqName} {fs : List Field} (h : s.ready ⟨t, n, fs⟩)
    {w : String} {out : List Field} (e : s.serve ⟨t, n, fs⟩ = x.answer t n w out) (hx : x.link.tx = s.link.tx) :
    ∃ u, (.next (s.deliver ⟨t, n, fs⟩) : Answer) = .next u ∧ x.replies u t n w out := by
  obtain ⟨-, room, -⟩ := State.waits_false h.1
  exact ⟨_, rfl, by rw [State.deliver_ready h, e]; exact State.answer_answers (by rw [hx]; omega) t n w out⟩

/-- Time passing before the loss of the link changes nothing of what is lost. -/
theorem State.Counts.losesLink {s m x : State} (c : s.Counts m) (f : s.Follows m) (h : m.LosesLink x) : s.LosesLink x where
  gone := h.gone
  stay r mem link := by
    obtain ⟨y, my, e⟩ := State.mem_of_bare c.bare.symm mem
    have origin : y.origin = r.origin := by rw [Record.bare_eq e]
    obtain ⟨z, mz, ez⟩ := h.stay y my (origin ▸ link)
    have bare : z.bare = y.bare := by rw [ez]; rfl
    exact ⟨z, mz, Record.bare_eq (bare.trans e)⟩
  noted r mem link := by
    obtain ⟨y, my, e⟩ := State.mem_of_bare c.bare.symm mem
    have same : y.handle = r.handle ∧ y.kind = r.kind ∧ y.state = r.state ∧ y.origin = r.origin := by
      rw [Record.bare_eq e]
      exact ⟨rfl, rfl, rfl, rfl⟩
    obtain ⟨handle, kind, state, origin⟩ := same
    obtain ⟨p, q⟩ := h.noted y my (origin.trans link)
    rw [handle, kind, state] at q
    exact ⟨p, q.since f⟩

/-- Settles O37: each answer is a branch of `State.reqLink` or `State.takeLive`, and the expiry is `State.Sound.expire`. -/
theorem supervisionAnswers : Obligations.SupervisionAnswers := by
  refine ⟨fun s t n ready => ⟨fun taken => ?_, fun free out => ?_, fun free lo hi => ?_⟩, fun s t n ready => ?_⟩
  · exact State.serve_replies ready (by simp [State.serve, State.reqLink, taken])
  · exact State.serve_replies ready (by simp [State.serve, State.reqLink, free, inRange, out])
  · have served : s.serve ⟨t, .link, [.num n]⟩ =
        (s.setSup { s.link.sup.arm n.toNat 0 s.now with taken := true }).answer t .link "OK" [.num n] := by
      simp [State.serve, State.reqLink, free, inRange, lo, hi]
    exact State.serve_replies_tx ready served rfl
  · have inside (lo : 0 ≤ n) (hi : n ≤ 99) : s.serve ⟨t, .live, [.num n]⟩ = s.takeLive t n.toNat := by
      simp [State.serve, State.reqLive, inRange, lo, hi]
    intro v went
    refine ⟨fun out => State.serve_replies ready ?_, fun lo hi => ⟨fun off => State.serve_replies ready ?_,
      fun armed right => ?_, fun armed wrong => ?_, fun expired zero => ?_, fun expired other => ?_⟩⟩
    · simp [State.serve, State.reqLive, inRange, out]
    · rw [inside lo hi, State.takeLive, off]
    · have served : s.serve ⟨t, .live, [.num n]⟩ =
          (s.setSup (v.arm (v.interval.getD 0) n.toNat s.now)).answer t .live "OK" [.num n.toNat] := by
        rw [inside lo hi, State.takeLive, armed, if_pos right]
      exact State.serve_replies_tx ready served rfl
    · have served : s.serve ⟨t, .live, [.num n]⟩ =
          (s.expire true).conclude.answer t .live "EXPIRED" [.num ((v.live + 1) % 100 : Nat)] := by
        rw [inside lo hi, State.takeLive, armed, if_neg wrong]
      have link : (s.expire true).link = s.link.expired := (s.expire_follows true).link
      obtain ⟨u, hu, replied⟩ := State.serve_replies_tx ready served (by rw [(State.conclude_follows _).link, link]; rfl)
      refine ⟨u, s.expire true, hu, replied, by rw [link]; rfl, by rw [link]; rfl, by rw [link]; rfl, fun good sound => ?_⟩
      obtain ⟨⟨gone, stay, ended⟩, noted⟩ := ((State.sound_iff s).mp sound).expire (State.handles_nodup good) true
      exact ⟨noted, gone, stay, ended⟩
    · have served : s.serve ⟨t, .live, [.num n]⟩ =
          (s.setSup (v.arm (v.interval.getD 0) 0 s.now)).answer t .live "OK" [.num 0] := by
        rw [inside lo hi, State.takeLive, expired]
        exact if_pos (by omega)
      exact State.serve_replies_tx ready served rfl
    · refine State.serve_replies ready ?_
      rw [inside lo hi, State.takeLive, expired]
      exact if_neg (by omega)

/-- Settles O38: time passes, and then supervision expires as `State.Sound.expire` says. -/
theorem supervisionExpires : Obligations.SupervisionExpires := by
  intro s t0 good sound armed deadline
  have c := s.passTo_counts t0
  have f := s.passTo_follows t0
  have nd : (s.passTo t0).handles.Nodup := by
    rw [State.handles_bare, c.bare, ← State.handles_bare]
    exact State.handles_nodup good
  have expired := (s.passTo t0).expire_follows false
  obtain ⟨loses, noted⟩ := (c.sound ((State.sound_iff s).mp sound)).expire nd false
  obtain ⟨gone, stay, ended⟩ := c.losesLink f loses
  have length : (s.passTo t0).plan.records.length = s.plan.records.length := by
    rw [← State.length_bare, c.bare, State.length_bare]
  rw [length, c.link] at noted
  refine ⟨(s.passTo t0).expire false, ?_, ?_, ?_, noted.since f, gone, stay, ended⟩
  · show execSupervisionTimerExpiry s = _
    simp only [execSupervisionTimerExpiry, armed, deadline]
  · exact (State.linkLostEnds_now _).trans (s.passTo_now t0)
  · rw [expired.link]
    show (s.passTo t0).link.expired = _
    rw [c.link]
    rfl

end Sys2Proof.Machine
end

section
/-!
Records that a timer ends: the wait and hold limits (O39) and the failures of a run (O42), in the terms of R12, R46, R60 and
R84 to R89.
-/

namespace Sys2Proof.Machine

/-! ### An ending after time has passed -/

theorem State.Counts.endPos {s t : State} (c : s.Counts t) {r y : Record} (e : y.bare = r.bare) : t.endPos y = s.endPos r := by
  rw [Record.bare_eq e]
  unfold State.endPos State.derived State.reported State.chanValue
  simp only [c.holdsDoor, c.door, c.conv, c.inputs]

/-- What ends in `x` since `m` has ended since `s`, if the record stood in `s` as it does in `m`. -/
theorem State.Ends.since {s m x : State} {r y : Record} {o : RecOutcome} {why : Option EndReason} (h : m.Ends x y o why)
    (f : s.Follows m) (handle : y.handle = r.handle) (kind : y.kind = r.kind) (pos : m.endPos y = s.endPos r) :
    s.Ends x r o why where
  gone := handle ▸ h.gone
  stays := handle ▸ h.stays
  noted := by
    have q := h.noted.since f
    rwa [handle, kind, pos] at q
  follows := f.trans h.follows

theorem Record.bare_handle {r y : Record} (e : y.bare = r.bare) : y.handle = r.handle := by rw [Record.bare_eq e]
theorem Record.bare_kind {r y : Record} (e : y.bare = r.bare) : y.kind = r.kind := by rw [Record.bare_eq e]
theorem Record.bare_state {r y : Record} (e : y.bare = r.bare) : y.state = r.state := by rw [Record.bare_eq e]
theorem Record.bare_side {r y : Record} (e : y.bare = r.bare) : y.side = r.side := by rw [Record.bare_eq e]

section
variable {s : State} {r : Record} (at_ : Nat) (o : RecOutcome) (why : Option EndReason)

/-- A record that ends at a time, with its successors. -/
theorem State.passTo_endTree_ends (f : s.find r.handle = some r) :
    s.Ends ((s.passTo at_).endTree r.handle o why) r o why := by
  have c := s.passTo_counts at_
  obtain ⟨y, hy, e⟩ := c.find f
  have handle := Record.bare_handle e
  have ends := State.endTree_ends (handle.symm ▸ hy) o why
  rw [handle] at ends
  exact ends.since (s.passTo_follows at_) handle (Record.bare_kind e) (c.endPos e)

theorem State.passTo_endTree_now (k : Handle) : ((s.passTo at_).endTree k o why).now = max s.now at_ :=
  (State.endTree_now _ _ _ _).trans (s.passTo_now at_)

theorem State.Sound.passTo_endTree_packFree (h : s.Sound) {k : Handle} (hp : s.holdsPack k = true) :
    ((s.passTo at_).endTree k o why).packFree := by
  have c := s.passTo_counts at_
  exact (c.sound h).endTree_packFree ((c.holdsPack k).trans hp) o why

end

/-- A granted record in another state than `RUNNING` is a tail-lift record and holds the pack (R5, R48). -/
theorem State.Sound.granted_holdsPack {s : State} (h : s.Sound) {k : Handle} {r : Record} (f : s.find k = some r)
    (granted : r.state.granted = true) (still : r.state ≠ .running) : r.side = none ∧ s.holdsPack k = true := by
  obtain ⟨rfl, m⟩ := State.find_spec f
  obtain ⟨-, -, holds⟩ := (s.recordSound_iff r).mp (h.records r m)
  obtain ⟨pack, door⟩ := holds granted
  cases hs : r.side with
  | none => exact ⟨rfl, pack hs⟩
  | some side => exact absurd (door side hs).2 still

/-- Settles O39: each report acts in the state it names, and then it is an ending after time has passed. -/
theorem waitAndHoldLimitsEnd : Obligations.WaitAndHoldLimitsEnd := by
  intro s h
  refine ⟨fun r t0 f waits from_ => ?_, fun r t0 sound f holding from_ => ?_, fun none => ⟨?_, ?_, ?_⟩, fun r f =>
    ⟨fun notBlocked notWaiting => ?_, fun notHolding => ?_, fun notLead => ?_⟩⟩
  · obtain ⟨rfl, -⟩ := State.find_spec f
    have queued : r.state.queued = true := by rcases waits with e | e <;> rw [e] <;> rfl
    refine ⟨_, ?_, State.passTo_endTree_ends (t0 + s.settings.plain.waitMax.toNat * 1000 + 1) _ _ f,
      State.passTo_endTree_now _ _ _ _⟩
    show execWaitLimitExpiry r.handle s = _
    simp only [execWaitLimitExpiry, f, from_, queued, if_true]
    rfl
  · obtain ⟨rfl, -⟩ := State.find_spec f
    obtain ⟨-, hp⟩ := ((State.sound_iff s).mp sound).granted_holdsPack f (by rw [holding]; rfl) (by rw [holding]; nofun)
    refine ⟨_, ?_, State.passTo_endTree_ends (t0 + s.settings.plain.holdMax.toNat) _ _ f,
      ((State.sound_iff s).mp sound).passTo_endTree_packFree _ _ _ hp, State.passTo_endTree_now _ _ _ _⟩
    show execHoldTimerExpiry r.handle s = _
    simp only [execHoldTimerExpiry, f, holding, from_]
    rfl
  · show execWaitLimitExpiry h s = _
    simp only [execWaitLimitExpiry, none]
  · show execHoldTimerExpiry h s = _
    simp only [execHoldTimerExpiry, none]
  · show execLeadTimeExpiry h s = _
    simp only [execLeadTimeExpiry, none]
  · have idle : r.state.queued = false := by
      cases e : r.state with
      | blocked => exact absurd e notBlocked
      | waiting => exact absurd e notWaiting
      | pending | lead | running | holding | settling => rfl
    show execWaitLimitExpiry h s = _
    simp only [execWaitLimitExpiry, f, idle]
    cases r.waitFrom <;> rfl
  · show execHoldTimerExpiry h s = _
    simp only [execHoldTimerExpiry, f]
    cases e : r.state with
    | holding => exact absurd e notHolding
    | pending | blocked | waiting | lead | running | settling => rfl
  · show execLeadTimeExpiry h s = _
    simp only [execLeadTimeExpiry, f]
    cases e : r.state with
    | lead => exact absurd e notLead
    | pending | blocked | waiting | running | holding | settling => rfl

/-! ### Pump rest at the end of a run (R60) -/

/-- The ending of a pump-driven run starts pump rest, and the endings that follow from it leave that (R7, R60). -/
theorem State.Sound.endTree_rest {s : State} (h : s.Sound) {r : Record} {run : Run} (f : s.find r.handle = some r)
    (hp : s.holdsPack r.handle = true) (running : r.state = .running) (axis : s.axis.run = some run)
    (pump : run.pump = true) (o : RecOutcome) (why : Option EndReason) :
    (s.endTree r.handle o why).arb.restUntil = some (s.now + 500) := by
  have side := (h.holder_side f).1 hp
  have one : (s.endOne r.handle o why).arb.restUntil = some (s.now + 500) := by
    rw [State.endOne_eq f, (State.count_counts _ _ _ _ _).arb, (State.quit_packHolder o why side hp).1,
      State.stopOutputs_running side hp running, (State.leaveRun_some axis).2.1, if_pos pump]
    rfl
  rw [State.endTree_eq]
  split
  · exact List.foldlRecOn _ _ (motive := fun t : State => t.arb.restUntil = some (s.now + 500)) one fun t ht j _ => ht
  · have start : (s.endOne r.handle o why).PumpStands (s.endOne r.handle o why) :=
      ⟨h.endOne _ _ _, (h.endOne_packFree hp o why).2.2.2, rfl⟩
    have all := List.foldlRecOn (s.successors r.handle) _ (motive := (s.endOne r.handle o why).PumpStands) start
      fun t ht j _ => State.PumpStands.endChain 12 ht j .cancelled (some .pred) nofun
    rw [all.kept]
    exact one

theorem State.Counts.pump {s t : State} (c : s.Counts t) {run : Run} (h : s.axis.run = some run) :
    ∃ run', t.axis.run = some run' ∧ run'.pump = run.pump ∧ run'.target = run.target := by
  rcases c.slowed with ⟨axis, -⟩ | ⟨run', x, hr, -, -, -, axis, -⟩
  · exact ⟨run, by rw [axis, h], rfl, rfl⟩
  · rw [h] at hr
    cases hr
    exact ⟨{ run with cls := some .creep }, by rw [axis]; rfl, rfl, rfl⟩

/-- What an ending frees at a time: the pack, with pump rest started after a pump-driven run (R13, R60). -/
def State.freedAt (s : State) (run : Run) (x : State) (t0 : Nat) : Prop :=
  x.packFree ∧ x.now = max s.now t0 ∧ (run.pump = true → x.arb.restUntil = some (x.now + 500))

theorem State.packRecord_spec {s : State} {r : Record} (h : s.packRecord = some r) :
    s.find r.handle = some r ∧ s.holdsPack r.handle = true := by
  obtain ⟨x, pack, f⟩ := Option.bind_eq_some_iff.mp h
  obtain ⟨handle, -⟩ := State.find_spec f
  exact ⟨handle ▸ f, by simp [State.holdsPack, pack, handle]⟩

/-- A running holder of the pack that ends at a time frees the pack (R13, R48, R60). -/
theorem State.Sound.passTo_endTree_freed {s : State} (h : s.Sound) {r : Record} {run : Run}
    (holder : s.packRecord = some r) (axis : s.axis.run = some run) (running : r.state = .running) (at_ : Nat)
    (o : RecOutcome) (why : Option EndReason) : s.freedAt run ((s.passTo at_).endTree r.handle o why) at_ := by
  obtain ⟨f, hp⟩ := State.packRecord_spec holder
  have c := s.passTo_counts at_
  refine ⟨h.passTo_endTree_packFree _ _ _ hp, State.passTo_endTree_now _ _ _ _, fun pump => ?_⟩
  obtain ⟨y, hy, e⟩ := c.find f
  obtain ⟨run', axis', pump', -⟩ := c.pump axis
  have handle := Record.bare_handle e
  rw [← handle] at hy hp ⊢
  rw [State.endTree_now]
  exact (c.sound h).endTree_rest hy ((c.holdsPack _).trans hp) ((Record.bare_state e).trans running) axis'
    (pump'.trans pump) o why

/-! ### A record flagged `GROUND` (R86) -/

/-- The record flagged `GROUND`. -/
def Record.grounded (r : Record) : Record := { r with flags := { r.flags with ground := true } }

/-- A change of a record's flags alone keeps the agreement. -/
theorem State.Sound.upd_flags {s : State} (h : s.Sound) (k : Handle) {f : Record → Record}
    (flags : ∀ r, f r = { r with flags := (f r).flags }) : (s.upd k f).Sound := by
  have keeps (r : Record) : (f r).handle = r.handle ∧ (f r).kind = r.kind ∧ (f r).side = r.side ∧
      (f r).origin = r.origin ∧ (f r).pred = r.pred ∧ (f r).state = r.state := by
    rw [flags r]
    exact ⟨rfl, rfl, rfl, rfl, rfl, rfl⟩
  have found {j : Handle} {r : Record} (e : s.find j = some r) :
      ∃ y, (s.upd k f).find j = some y ∧ y.side = r.side ∧ y.state = r.state := by
    have m : (s.upd k f).find j = (s.find j).map fun r => if r.handle = k then f r else r := by
      unfold State.find State.upd
      rw [List.find?_map]
      congr 2
      funext r
      simp only [Function.comp]
      split
      · rw [(keeps r).1]
      · rfl
    refine ⟨if r.handle = k then f r else r, by rw [m, e]; rfl, ?_⟩
    split
    · exact ⟨(keeps r).2.2.1, (keeps r).2.2.2.2.2⟩
    · exact ⟨rfl, rfl⟩
  refine ⟨fun r m => ?_, ?_, fun side => ?_⟩
  · obtain ⟨y, my, rfl⟩ := List.mem_map.mp m
    have sound := h.records y my
    split
    · obtain ⟨handle, kind, side, origin, pred, state⟩ := keeps y
      unfold State.recordSound at sound ⊢
      rw [handle, kind, side, origin, pred, state]
      exact sound
    · exact sound
  · rcases h.pack with free | ⟨x, run, r, held⟩
    · exact .inl free
    · obtain ⟨y, hy, side, state⟩ := found held.find
      exact .inr ⟨x, run, y, held.pack, held.axis, hy, side.trans held.side, state ▸ held.granted,
        fun e => held.driven (state ▸ e), fun e => held.still (state ▸ e)⟩
  · rcases h.door side with idle | ⟨x, p, r, held⟩
    · exact .inl ⟨idle.channel, by cases side <;> exact idle.phase, by cases side <;> exact idle.motorOpen,
        by cases side <;> exact idle.motorClose, by cases side <;> exact idle.latch⟩
    · obtain ⟨y, hy, hs, state⟩ := found held.find
      have door : (s.upd k f).door side = s.door side := by cases side <;> rfl
      exact .inr ⟨x, p, y, held.channel, door ▸ held.phase, hy, hs.trans held.ofSide, state.trans held.running,
        door ▸ held.motorOpen, door ▸ held.motorClose, door ▸ held.latch, door ▸ held.moving⟩

theorem State.Counts.recent {s t : State} (c : s.Counts t) : t.plan.recent = s.plan.recent := by
  rcases c.slowed with ⟨-, plan⟩ | ⟨run, x, -, -, -, -, -, plan⟩
  · rw [plan]
  · rw [plan]
    rfl

/-- A record that ends `DONE` heads the recent-outcomes list (R7, R15). -/
theorem State.endTree_done_recent {s : State} {r : Record} (f : s.find r.handle = some r) (why : Option EndReason) :
    ∃ rest, (s.endTree r.handle .done why).plan.recent = r.finish ⟨.done, why, s.endPos r⟩ :: rest := by
  have one : (s.endOne r.handle .done why).plan.recent = r.finish ⟨.done, why, s.endPos r⟩ :: s.plan.recent.take 7 := by
    rw [State.endOne_eq f, (State.count_counts _ _ _ _ _).recent, State.quit_plan]
    rfl
  refine ⟨s.plan.recent.take 7, ?_⟩
  rw [State.endTree_eq, if_pos rfl]
  exact List.foldlRecOn _ _
    (motive := fun t : State => t.plan.recent = r.finish ⟨.done, why, s.endPos r⟩ :: s.plan.recent.take 7) one
    fun t ht j _ => ht

/-- What a ground touch does at its time, from a running holder of the pack (R86). -/
theorem State.Sound.passTo_grounded {s : State} (h : s.Sound) {r : Record} {run : Run} (holder : s.packRecord = some r)
    (axis : s.axis.run = some run) (running : r.state = .running) (at_ : Nat) :
    s.freedAt run ((s.passTo at_).grounded r run) at_ ∧
      (run.target = 0 ∧ s.reported 0 ≤ s.settings.plain.gndBand →
        s.Ends ((s.passTo at_).grounded r run) r .done none ∧
          ∃ y rest, ((s.passTo at_).grounded r run).plan.recent = y :: rest ∧ y.handle = r.handle ∧
            y.flags.ground = true) ∧
      (¬(run.target = 0 ∧ s.reported 0 ≤ s.settings.plain.gndBand) →
        s.Ends ((s.passTo at_).grounded r run) r .failed (some .obstruct)) := by
  obtain ⟨f, hp⟩ := State.packRecord_spec holder
  have c := s.passTo_counts at_
  have settings := c.settings
  have reported : (s.passTo at_).reported 0 = s.reported 0 := by
    unfold State.reported State.chanValue
    rw [c.conv]
  unfold State.grounded
  rw [reported, settings]
  by_cases low : run.target = 0 ∧ s.reported 0 ≤ s.settings.plain.gndBand
  · rw [if_pos low]
    obtain ⟨y, hy, e⟩ := c.find f
    obtain ⟨run', axis', pump', -⟩ := c.pump axis
    have handle := Record.bare_handle e
    have sound := (c.sound h).upd_flags r.handle (f := Record.grounded) fun _ => rfl
    have found : ((s.passTo at_).upd r.handle Record.grounded).find r.handle = some y.grounded :=
      State.find_upd hy _ handle
    have found' : ((s.passTo at_).upd r.handle Record.grounded).find y.grounded.handle = some y.grounded := by
      rw [show y.grounded.handle = r.handle from handle]
      exact found
    have holds : ((s.passTo at_).upd r.handle Record.grounded).holdsPack y.grounded.handle = true := by
      rw [show y.grounded.handle = r.handle from handle]
      exact (c.holdsPack r.handle).trans hp
    have now : ((s.passTo at_).upd r.handle Record.grounded).now = max s.now at_ := s.passTo_now at_
    have ends := State.endTree_ends found' .done none
    obtain ⟨rest, recent⟩ := State.endTree_done_recent found' none
    have free := sound.endTree_packFree holds .done none
    have late := sound.endTree_rest found' holds ((Record.bare_state e).trans running) axis'
    rw [show y.grounded.handle = r.handle from handle] at ends recent free late
    refine ⟨⟨free, (State.endTree_now _ _ _ _).trans now, fun pump => ?_⟩, fun _ => ⟨?_, _, rest, recent, handle, rfl⟩,
      fun n => absurd low n⟩
    · rw [State.endTree_now]
      exact late (pump'.trans pump) _ _
    · refine ends.since ((s.passTo_follows at_).trans (State.upd_follows _ _ _)) handle (show y.kind = r.kind from Record.bare_kind e) ?_
      rw [← c.endPos e]
      unfold State.endPos
      rw [show y.grounded.side = y.side from rfl]
      rfl
  · rw [if_neg low]
    exact ⟨h.passTo_endTree_freed holder axis running at_ _ _, fun n => absurd n low,
      fun _ => State.passTo_endTree_ends at_ _ _ f⟩

/-- Settles O42: each failure is an ending of the pack's running holder after time has passed. -/
theorem driveFaultsEnd : Obligations.DriveFaultsEnd := by
  intro s r run sound holder axis running freed
  have h := (State.sound_iff s).mp sound
  obtain ⟨f, -⟩ := State.packRecord_spec holder
  refine ⟨⟨_, ?_, State.passTo_endTree_ends (run.markAt + 1500) _ _ f, h.passTo_endTree_freed holder axis running _ _ _⟩,
    ⟨_, ?_, State.passTo_endTree_ends (run.limitAt (s.settings.plain.runLimit run.lift)) _ _ f,
      h.passTo_endTree_freed holder axis running _ _ _⟩, fun t0 since => ?_, fun t0 since =>
    ⟨_, ?_, State.passTo_endTree_ends (t0 + 300) _ _ f, h.passTo_endTree_freed holder axis running _ _ _⟩⟩
  · show execStall s = _
    simp only [execStall, holder, axis, running, if_true]
    rfl
  · show execRunLimitTimeout s = _
    simp only [execRunLimitTimeout, holder, axis, running, if_true]
    rfl
  · obtain ⟨free, done, failed⟩ := h.passTo_grounded holder axis running (t0 + 200)
    refine ⟨_, ?_, free, fun zero low => done ⟨zero, low⟩, failed⟩
    show execGroundTimeExpiry s = _
    simp only [execGroundTimeExpiry, holder, axis, running, since]
    rfl
  · show execOverload s = _
    simp only [execOverload, holder, axis, running, since]
    rfl

end Sys2Proof.Machine
end

section
/-!
How a run begins (O40): the end of the lead time and what `State.enterRunning` makes of record, run and outputs, in the terms
of R10 and R74 to R78.
-/

namespace Sys2Proof.Machine

/-! ### Counting and derating -/

theorem State.count_derating_stays {s : State} (h : s.cnt.Ranged) (active : s.cnt.derating = true) (src : List Source)
    (o : Option Origin) (side : Option Side) (load : Nat) : (s.count src o side load).cnt.derating = true := by
  rw [(State.count_ranged h src o side load).derating, vector_any_iff]
  rw [h.derating, vector_any_iff] at active
  obtain ⟨i, hi⟩ := active
  refine ⟨i, ?_⟩
  unfold State.count
  split
  · exact hi
  · rw [State.applyCounters_recs]
    exact Counter.take_derates hi _ _ _ _

/-- What an event of the counters does to a run and its record: only where derating becomes active does it slow a FAST pump run
and flag its record (R76). -/
theorem State.count_cases {s : State} {run : Run} {x : Holding} (hr : s.axis.run = some run) (hx : s.arb.pack = some x)
    (src : List Source) (o : Option Origin) (side : Option Side) (load : Nat) :
    ((s.count src o side load).axis = s.axis ∧ (s.count src o side load).plan = s.plan ∧
      ((s.count src o side load).cnt.derating = true → s.cnt.derating = true ∨ ¬(run.pump = true ∧ run.cls = some .fast))) ∨
    ((s.count src o side load).axis = (s.creepRun run).axis ∧
      (s.count src o side load).plan = (s.upd x.handle Record.derate).plan ∧
        (s.count src o side load).cnt.derating = true ∧ s.cnt.derating = false ∧ run.pump = true ∧ run.cls = some .fast) := by
  unfold State.count
  split
  · exact .inl ⟨rfl, rfl, .inl⟩
  · unfold State.applyCounters
    rw [State.decideDerating_cnt]
    unfold State.decideDerating State.slowRun
    simp only [hr, hx]
    split
    · next active =>
      rw [Bool.and_eq_true, Bool.not_eq_true'] at active
      split
      · next fast => exact .inr ⟨rfl, rfl, active.1, active.2, fast⟩
      · next slow => exact .inl ⟨rfl, rfl, fun _ => .inr slow⟩
    · next still =>
      refine .inl ⟨rfl, rfl, fun active => .inl ?_⟩
      by_contra off
      exact still (by simp [active, off])

/-! ### A run begins (R74) -/

/-- The state in which a run begins, before its pump events are counted. -/
def State.begun (s : State) (h : Handle) (r : Record) (run : Run) : State :=
  { s.upd h (s.startRecord run) with
    axis :=
      { s.axis with
        run := some (s.startRun r run), valves := valvesFor run.lift run.dir (s.startRun r run).cls }
    beac := { s.beac with rearTrail := none }
    arb :=
      if run.pump then
        { s.arb with
          contactor := .making, contactorAt := s.now, fbOpenSince := none, overSince := none, spanOrigin := some r.origin }
      else s.arb }

theorem State.enterRunning_eq {s : State} {h : Handle} {r : Record} {run : Run} (f : s.find h = some r)
    (axis : s.axis.run = some run) :
    s.enterRunning h =
      if run.pump then
        (s.begun h r run).count ([.pumpStart, .pumpRun] ++ if s.engineOn then [] else [.engOffPump]) (some r.origin) none
          s.axis.lastLoad
      else s.begun h r run := by
  unfold State.enterRunning State.begun
  rw [f, axis]
  by_cases pump : run.pump = true
  · simp only [pump, if_true]
    rfl
  · simp only [pump]
    rfl

/-- A run that has begun: `x` is `s` with the run, its record and its outputs, in the class `cls` (R74 to R78). -/
structure State.Begins (s x : State) (h : Handle) (r : Record) (run : Run) (cls : SpeedClass) (derated : Bool) : Prop where
  find : x.find h = some { s.startRecord run r with flags := { r.flags with derated := derated } }
  axis : x.axis.run = some { s.startRun r run with cls := some cls }
  valves : x.axis.valves = valvesFor run.lift run.dir (some cls)
  beac : x.beac = { s.beac with rearTrail := none }
  arb : x.arb = (s.begun h r run).arb
  now : x.now = s.now

/-- The class and the flag of a run that has begun, before and after its own pump events (R75, R76). -/
theorem State.enterRunning_begins {s : State} {h : Handle} {r : Record} {run : Run} (f : s.find h = some r)
    (axis : s.axis.run = some run) (holds : s.holdsPack h = true) :
    ∃ cls derated, s.Begins (s.enterRunning h) h r run cls derated ∧
      (some cls = (s.startRun r run).cls ∧ derated = (r.flags.derated || (run.pump && s.cnt.derating)) ∧
          (run.pump = true → (s.enterRunning h).cnt.derating = true → s.cnt.derating = true ∨ cls = .creep) ∨
        (s.startRun r run).cls = some .fast ∧ cls = .creep ∧ derated = true ∧ run.pump = true ∧
          (s.enterRunning h).cnt.derating = true ∧ s.cnt.derating = false) := by
  obtain ⟨handle, -⟩ := State.find_spec f
  have found : (s.upd h (s.startRecord run)).find h = some (s.startRecord run r) := State.find_upd f _ handle
  obtain ⟨cls, hcls⟩ : ∃ cls, (s.startRun r run).cls = some cls := ⟨_, rfl⟩
  have pure : s.Begins (s.begun h r run) h r run cls (r.flags.derated || (run.pump && s.cnt.derating)) :=
    ⟨found, by rw [← hcls]; rfl, by rw [← hcls]; rfl, rfl, rfl, rfl⟩
  rw [State.enterRunning_eq f axis]
  cases pump : run.pump with
  | false =>
    rw [pump] at pure
    exact ⟨cls, _, pure, .inl ⟨hcls.symm, rfl, nofun⟩⟩
  | true =>
    rw [pump] at pure
    rw [if_pos rfl]
    obtain ⟨x, pack, rfl⟩ : ∃ x, (s.begun h r run).arb.pack = some x ∧ x.handle = h := by
      cases hp : s.arb.pack with
      | none => simp [State.holdsPack, hp] at holds
      | some x =>
        refine ⟨x, ?_, by simpa [State.holdsPack, hp] using holds⟩
        rw [← hp, State.begun, pump]
        rfl
    have hrun : (s.begun x.handle r run).axis.run = some (s.startRun r run) := rfl
    set src : List Source := [.pumpStart, .pumpRun] ++ if s.engineOn then [] else [.engOffPump]
    have c := (s.begun x.handle r run).count_counts src (some r.origin) none s.axis.lastLoad
    have now := (s.begun x.handle r run).count_now src (some r.origin) none s.axis.lastLoad
    rcases State.count_cases hrun pack src (some r.origin) none s.axis.lastLoad with
      ⟨same, plan, quiet⟩ | ⟨slow, plan, active, off, -, fast⟩
    · refine ⟨cls, _, ⟨?_, by rw [same]; exact pure.axis, by rw [same]; exact pure.valves, by rw [c.beac]; rfl, c.arb, now⟩,
        .inl ⟨hcls.symm, rfl, fun _ active => (quiet active).imp id fun n => ?_⟩⟩
      · rw [State.find, plan]
        exact pure.find
      · cases cls with
        | creep => rfl
        | fast => exact absurd ⟨pump, hcls⟩ n
    · refine ⟨.creep, true, ⟨?_, by rw [slow]; rfl, by rw [slow]; rfl, by rw [c.beac]; rfl, c.arb, now⟩,
        .inr ⟨fast, rfl, rfl, rfl, active, off⟩⟩
      rw [State.find, plan]
      exact State.find_upd found Record.derate handle

/-! ### The class of a run (R75, R76) -/

theorem State.startClass_fast (s : State) (r : Record) (run : Run) (nudge : Bool) (pos : Int) :
    s.startClass r run nudge pos = .fast ↔
      ¬(nudge = true ∨ r.creep = true ∨ run.rem pos ≤ s.settings.plain.slowZone run.lift) ∧
        ¬(run.pump = true ∧ s.cnt.derating = true) := by
  unfold State.startClass
  by_cases small : s.settings.plain.slowZone run.lift < run.rem pos
  · have : ¬run.rem pos ≤ s.settings.plain.slowZone run.lift := by omega
    cases nudge <;> cases r.creep <;> simp [small, this]
  · have : run.rem pos ≤ s.settings.plain.slowZone run.lift := by omega
    simp [small, this]

theorem SpeedClass.creep_iff (c : SpeedClass) : c = .creep ↔ ¬c = .fast := by cases c <;> simp

theorem State.enterRunning_derating_stays {s : State} (inv : s.cnt.Ranged) {h : Handle} {r : Record} {run : Run}
    (f : s.find h = some r) (axis : s.axis.run = some run) (active : s.cnt.derating = true) :
    (s.enterRunning h).cnt.derating = true := by
  rw [State.enterRunning_eq f axis]
  split
  · exact State.count_derating_stays (s := s.begun h r run) inv active _ _ _ _
  · exact active

theorem State.pressureLow_iff (s : State) :
    s.pressureLow = true ↔ s.chanOk 4 = true ∧ ∃ v, s.chanValue 4 = some v ∧ v < s.settings.plain.gndPres := by
  unfold State.pressureLow
  cases s.chanOk 4 <;> cases s.chanValue 4 <;> simp

theorem Plain.coast_eq (p : Plain) (lift : Bool) (dir : Dir) (nudge : Bool) :
    p.coast lift dir nudge =
      match lift, dir with
      | true, .up => if nudge then p.liftCrep else p.liftCoUp
      | true, .down => if nudge then p.liftCrep else p.liftCoDn
      | false, .up | false, .down => if nudge then p.tiltCrep else p.tiltCoas := by
  cases lift <;> cases dir <;> cases nudge <;> rfl

/-- The class and the flag `DERATED` of a run that has begun, as R76 has them. -/
theorem State.enterRunning_class {s : State} (inv : s.cnt.Ranged) {h : Handle} {r : Record} {run : Run}
    {cls : SpeedClass} {derated : Bool} (f : s.find h = some r) (axis : s.axis.run = some run) {slow : Prop}
    (fast : (s.startRun r run).cls = some .fast ↔ ¬slow ∧ ¬(run.pump = true ∧ s.cnt.derating = true))
    (how : some cls = (s.startRun r run).cls ∧ derated = (r.flags.derated || (run.pump && s.cnt.derating)) ∧
          (run.pump = true → (s.enterRunning h).cnt.derating = true → s.cnt.derating = true ∨ cls = .creep) ∨
        (s.startRun r run).cls = some .fast ∧ cls = .creep ∧ derated = true ∧ run.pump = true ∧
          (s.enterRunning h).cnt.derating = true ∧ s.cnt.derating = false) :
    (cls = .creep ↔ slow ∨ (run.pump = true ∧ (s.enterRunning h).cnt.derating = true)) ∧
      (derated = true ↔ r.flags.derated = true ∨
        (run.pump = true ∧ (s.enterRunning h).cnt.derating = true ∧ (s.cnt.derating = true ∨ ¬slow))) := by
  have stays := State.enterRunning_derating_stays inv f axis
  rcases how with ⟨same, rfl, quiet⟩ | ⟨began, rfl, rfl, pump, active, off⟩
  · have creep : cls = .creep ↔ slow ∨ (run.pump = true ∧ s.cnt.derating = true) := by
      rw [SpeedClass.creep_iff, ← Option.some.injEq, same, fast, not_and_or, not_not, not_not]
    rw [Bool.or_eq_true, Bool.and_eq_true]
    refine ⟨creep.trans ⟨Or.imp_right (And.imp_right stays), fun h => ?_⟩, Or.imp_right fun ⟨pump, active⟩ =>
      ⟨pump, stays active, .inl active⟩, Or.imp_right fun ⟨pump, active, before⟩ => ⟨pump, ?_⟩⟩
    · rcases h with h | ⟨pump, active⟩
      · exact .inl h
      · exact (quiet pump active).elim (fun before => .inr ⟨pump, before⟩) creep.mp
    · rcases before with before | quick
      · exact before
      · exact (quiet pump active).elim id fun c => ((creep.mp c).resolve_left quick).2
  · exact ⟨iff_of_true rfl (.inr ⟨pump, active⟩), iff_of_true rfl (.inr ⟨pump, active, .inr (fast.mp began).1⟩)⟩

/-! ### The end of the lead time (R10) -/

section
variable {s t : State} (c : s.Counts t)
include c

theorem State.Counts.holds (r : Record) (k : Cond) : t.holds r k = s.holds r k := by rw [c.rest]; cases k <;> rfl

theorem State.Counts.pumpOf (r : Record) : t.pumpOf r = s.pumpOf r := by rw [c.rest]; rfl

theorem State.Counts.pauseLost (r : Record) : t.pauseLost r = s.pauseLost r := by
  unfold State.pauseLost State.firstFalse
  rw [c.pumpOf]
  simp only [c.holds]

theorem State.Counts.resting : t.resting = s.resting := by
  unfold State.resting
  rw [c.arb]

end

/-- The pack of a granted record that is not in `RUNNING`: its run has no class and drives nothing (R48, R68). -/
theorem State.Sound.still {s : State} (h : s.Sound) {k : Handle} {r : Record} (f : s.find k = some r)
    (granted : r.state.granted = true) (rests : r.state ≠ .running) :
    s.holdsPack k = true ∧ s.axis.valves = .off ∧ s.arb.contactor = .opened ∧
      ∃ run, s.axis.run = some run ∧ run.cls = none := by
  obtain ⟨-, hp⟩ := h.granted_holdsPack f granted rests
  obtain ⟨x, run, y, held, rfl⟩ := h.find_holder hp
  have same := held.find
  rw [f] at same
  cases same
  obtain ⟨cls, valves, contactor⟩ := held.still rests
  exact ⟨hp, valves, contactor, run, held.axis, cls⟩

/-- The record in `HOLDING` for a lost condition (R10, R42 to R44). -/
def Record.held (r : Record) (c : Cond) (now : Nat) : Record :=
  { r with
    state := .holding, holds := satSucc 255 r.holds, wait := some (.cond c), leadEnd := none, holdFrom := some now }

/-- What a hold out of a state without a run leaves (R10). -/
theorem State.hold_still {s : State} {h : Handle} {r : Record} (f : s.find h = some r) (rests : r.state ≠ .running)
    (c : Cond) :
    ∃ t : State, t = { s with plan := (s.upd h fun y => y.held c s.now).plan, notes := s.notes.push (.held h (.cond c)) } ∧
      t.Counts (s.hold h c) ∧ (s.hold h c).now = s.now ∧ t.Follows (s.hold h c) := by
  refine ⟨_, rfl, ?_⟩
  have eq : s.hold h c =
      State.count { s with plan := (s.upd h fun y => y.held c s.now).plan, notes := s.notes.push (.held h (.cond c)) }
        [.holds] (some r.origin) none s.axis.lastLoad := by
    unfold State.hold
    rw [f]
    dsimp only
    rw [if_neg rests]
    rfl
  rw [eq]
  exact ⟨State.count_counts _ _ _ _ _, State.count_now _ _ _ _ _, State.count_follows _ _ _ _ _⟩

/-- The moment at which the lead time of a record ends: `m` is `s` after time has passed, and the record stands in `m` as it
stood, with a run that drives nothing yet (R10, R68). -/
structure State.LeadOver (s m : State) (h : Handle) (r y : Record) (run : Run) : Prop where
  counts : s.Counts m
  follows : s.Follows m
  handle : r.handle = h
  found : m.find h = some y
  bare : y.bare = r.bare
  lead : y.state = .lead
  holds : m.holdsPack h = true
  valves : m.axis.valves = .off
  contactor : m.arb.contactor = .opened
  before : s.axis.run = some run
  axis : m.axis.run = some run
  cls : run.cls = none

theorem State.Sound.leadOver {s : State} (sound : s.Sound) {h : Handle} {r : Record} (f : s.find h = some r)
    (lead : r.state = .lead) (t0 : Nat) : ∃ y run, s.LeadOver (s.passTo t0) h r y run := by
  have c := s.passTo_counts t0
  obtain ⟨y, hy, e⟩ := c.find f
  have state : y.state = .lead := (Record.bare_state e).trans lead
  obtain ⟨hp, valves, contactor, run, axis, cls⟩ :=
    (c.sound sound).still hy (by rw [state]; rfl) (by rw [state]; nofun)
  have old : s.axis.run = some run := by
    rcases c.slowed with ⟨same, -⟩ | ⟨run', x, -, -, -, -, same, -⟩
    · rw [← same, axis]
    · rw [same] at axis
      cases axis
      cases cls
  exact ⟨y, run, c, s.passTo_follows t0, (State.find_spec f).1, hy, e, state, hp, valves, contactor, old, axis, cls⟩

section
variable {s m : State} {h : Handle} {r y : Record} {run : Run} (led : s.LeadOver m h r y run)
include led

/-- With a PAUSE-class condition false the record holds at the end of its lead time (R10). -/
theorem State.LeadOver.held {c : Cond} (lost : s.pauseLost r = some c) :
    ∃ z, (m.proceed r).find h = some z ∧ (m.proceed r).now = m.now ∧ z.leadEnd = none ∧ z.state = .holding ∧
      z.wait = some (.cond c) ∧ z.holds = min 255 (r.holds + 1) ∧ z.holdFrom = some (m.proceed r).now ∧
        s.queued (m.proceed r) (.held h (.cond c)) ∧ (m.proceed r).axis.valves = .off ∧
          (m.proceed r).arb.contactor = .opened := by
  have eq : m.proceed r = m.hold h c := by
    rw [State.proceed, led.counts.pauseLost, lost, ← led.handle]
  have rests : y.state ≠ .running := by rw [led.lead]; nofun
  obtain ⟨t, rfl, counts, now, follows⟩ := State.hold_still led.found rests c
  obtain ⟨z, hz, ez⟩ := counts.find (State.find_upd led.found (fun y => y.held c m.now) (State.find_spec led.found).1)
  have unslowed := counts.unslowed fun run' h' => .inl <| by
    rw [show run' = run from Option.some.inj (h'.symm.trans led.axis), led.cls]
    nofun
  have holds : y.holds = r.holds := by rw [Record.bare_eq led.bare]
  rw [← eq] at hz now follows unslowed counts
  have fields : z.leadEnd = none ∧ z.state = .holding ∧ z.wait = some (.cond c) ∧ z.holds = satSucc 255 r.holds ∧
      z.holdFrom = some m.now := by
    rw [Record.bare_eq ez, ← holds]
    exact ⟨rfl, rfl, rfl, rfl, rfl⟩
  obtain ⟨leadEnd, state, wait, count, since⟩ := fields
  refine ⟨z, hz, now, leadEnd, state, wait, count, since.trans (congrArg some now.symm), ?_, ?_, ?_⟩
  · exact State.queued_mid led.follows rfl follows
  · rw [unslowed.1]
    exact led.valves
  · rw [counts.arb]
    exact led.contactor

/-- During pump rest a pump-driven record waits at the end of its lead time (R10). -/
theorem State.LeadOver.rested (lost : s.pauseLost r = none) (pump : s.pumpOf r = true) (rest : s.resting = true) :
    m.proceed r = m.upd h fun r => { r with wait := some .rest, leadEnd := none } := by
  rw [State.proceed, led.counts.pauseLost, lost, led.counts.pumpOf, led.counts.resting, pump, rest, ← led.handle]
  rfl

/-- Otherwise the record runs at the end of its lead time (R10). -/
theorem State.LeadOver.ran (lost : s.pauseLost r = none) (may : ¬(s.pumpOf r = true ∧ s.resting = true)) :
    m.proceed r = m.enterRunning h := by
  rw [State.proceed, led.counts.pauseLost, lost, led.counts.pumpOf, led.counts.resting, ← led.handle]
  exact if_neg (by rw [Bool.and_eq_true]; exact may)

theorem State.LeadOver.contactor_begun : (m.begun h y run).arb.contactor = if run.pump then .making else .opened := by
  show (if run.pump = true then _ else m.arb).contactor = _
  split
  · rfl
  · exact led.contactor

end

/-- Settles O40: the branches of `State.proceed` after time has passed, and what `State.enterRunning` makes of a run. -/
theorem leadEnds : Obligations.LeadEnds := by
  refine ⟨fun s h r t0 sound f lead leadEnd => ?_, fun s h r old f axis holds => ?_, rfl, rfl, rfl, rfl, rfl, rfl, rfl, rfl,
    fun lift dir => ?_⟩
  · obtain ⟨y, run, led⟩ := ((State.sound_iff s).mp sound).leadOver f lead t0
    have now := s.passTo_now t0
    have follows : s.Follows ((s.passTo t0).proceed r).conclude :=
      (led.follows.trans (State.proceed_follows _ r)).trans (State.conclude_follows _)
    have row : exec (.leadTimeExpiry h) s = .next ((s.passTo t0).proceed r).conclude := by
      show execLeadTimeExpiry h s = _
      simp only [execLeadTimeExpiry, f, lead, leadEnd]
    cases lost : s.pauseLost r with
    | some c =>
      obtain ⟨z, hz, now', zlead, state, wait, count, since, noted, valves, contactor⟩ := led.held lost
      refine ⟨_, z, row, follows, now'.trans now, hz, zlead, fun c' same => ?_, nofun, nofun⟩
      cases same
      exact ⟨state, wait, count, since, noted, valves, contactor⟩
    | none =>
      by_cases waits : s.pumpOf r = true ∧ s.resting = true
      · rw [led.rested lost waits.1 waits.2] at follows row
        refine ⟨_, _, row, follows, now, State.find_upd led.found _ (State.find_spec led.found).1, rfl, nofun,
          fun _ _ _ => ⟨led.lead, rfl, led.valves, led.contactor⟩, fun _ other => ?_⟩
        rw [waits.1, waits.2] at other
        rcases other with other | other <;> cases other
      · rw [led.ran lost waits] at follows row
        obtain ⟨cls, derated, begins, -⟩ := State.enterRunning_begins led.found led.axis led.holds
        refine ⟨_, _, row, follows, begins.now.trans now, begins.find, rfl, nofun,
          fun _ pump rest => absurd ⟨pump, rest⟩ waits, fun _ _ => ⟨rfl, rfl, run, _, cls, led.before, begins.axis, rfl, ?_,
            rfl, rfl, rfl, begins.now.symm, begins.valves, rfl, begins.arb ▸ led.contactor_begun⟩⟩
        show some _ = some _
        simp
  · intro x p pos nudge kind rem slow low
    obtain ⟨cls, derated, begins, how⟩ := State.enterRunning_begins f axis holds
    have fast : (s.startRun r old).cls = some .fast ↔ ¬slow ∧ ¬(old.pump = true ∧ s.cnt.derating = true) :=
      Option.some_inj.trans (State.startClass_fast s r old nudge pos)
    refine ⟨_, _, cls, derated, begins.find, begins.axis, rfl, ?_, ?_, ?_, begins.valves, begins.beac, begins.arb,
      fun inv => State.enterRunning_class ((State.inv_iff s).mp inv).1.cnt f axis fast how⟩
    · exact congrArg (fun coast : Int => ({ s.startRun r old with cls := some cls, coast := coast } : Run))
        (Plain.coast_eq p old.lift old.dir nudge)
    · rintro ⟨lift, dir, pressure⟩
      have pressure := s.pressureLow_iff.mpr pressure
      simp [State.startRun, lift, dir, pressure]
    · intro other
      have other : ¬(old.lift = true ∧ old.dir = .down ∧ s.pressureLow = true) := by
        rw [State.pressureLow_iff]
        exact other
      simp only [State.startRun]
      rw [if_neg (by simpa [and_assoc] using other)]
  · cases lift <;> cases dir <;> rfl

end Sys2Proof.Machine
end

section
/-!
ESTOP and the pump feedback (O47), in the terms of R30, R32, R57 to R59 and R200.
-/

namespace Sys2Proof.Machine

/-! ### A halt event from a pin -/

theorem State.endEach_now (s : State) (ks : List Handle) (o : RecOutcome) (why : Option EndReason) :
    (s.endEach ks o why).now = s.now :=
  List.foldlRecOn ks _ (motive := fun t : State => t.now = s.now) rfl fun t ht k _ => (t.endOne_now k o why).trans ht

theorem State.raiseHalt_now (s : State) (c : Cause) : (s.raiseHalt c).now = s.now := by
  cases h : s.halt.set with
  | false => rw [State.raiseHalt_eq h, State.count_now, State.endEach_now]; rfl
  | true =>
    by_cases n : c.lasting = false ∨ s.halt.has c = true
    · rw [State.raiseHalt_idle h n]
    · rw [not_or, Bool.not_eq_false, Bool.not_eq_true] at n
      rw [State.raiseHalt_joins h n.1 n.2]
      rfl

/-- After a halt event its lasting cause is present (R28, R30). -/
theorem State.raiseHalt_has (s : State) {c : Cause} (lasting : c.lasting = true) : (s.raiseHalt c).halt.has c = true := by
  cases h : s.halt.set with
  | false =>
    rw [(State.raiseHalt_clear h c).2.1]
    exact HaltLatch.mark_has_self lasting true
  | true =>
    cases present : s.halt.has c with
    | true => rwa [State.raiseHalt_idle h (.inr present)]
    | false =>
      rw [State.raiseHalt_joins h lasting present]
      exact HaltLatch.mark_has_self lasting true

/-- A halt event whose cause is not yet present queues its notice, and so does one with the latch clear (R28). -/
theorem State.raiseHalt_queues {s : State} {c : Cause} (lasting : c.lasting = true)
    (new : s.halt.has c = false ∨ s.halt.set = false) : s.queued (s.raiseHalt c) (.halted c) := by
  cases h : s.halt.set with
  | false => exact (State.raiseHalt_clear h c).2.2
  | true =>
    have absent := new.resolve_right (by rw [h]; nofun)
    rw [State.raiseHalt_joins h lasting absent]
    exact ⟨[], [], rfl⟩

theorem State.raiseHalt_first {s : State} (h : s.halt.set = false) (c : Cause) :
    (s.raiseHalt c).halt.first = some c ∧ (s.raiseHalt c).plan.records = [] := by
  obtain ⟨empty, halt, -⟩ := State.raiseHalt_clear h c
  exact ⟨by rw [halt, HaltLatch.mark_first], empty⟩

/-- With the contactor open a halt event leaves the pump as it is (R28, R56). -/
theorem State.Sound.raiseHalt_pumpKept {s : State} (h : s.Sound) (opened : s.arb.contactor = .opened) (c : Cause) :
    s.PumpKept (s.raiseHalt c) := by
  cases clear : s.halt.set with
  | false =>
    rw [State.raiseHalt_eq clear]
    have start : s.PumpStands (s.halting c) := ⟨h.of_same, opened, rfl⟩
    exact (start.endEach s.handles .cancelled (some .halted)).kept.trans (State.count_counts _ _ _ _ _).pumpKept
  | true =>
    by_cases n : c.lasting = false ∨ s.halt.has c = true
    · rw [State.raiseHalt_idle clear n]
      rfl
    · rw [not_or, Bool.not_eq_false, Bool.not_eq_true] at n
      rw [State.raiseHalt_joins clear n.1 n.2]
      rfl

/-! ### The weld event (R59) -/

/-- The state of a weld event in which the halt is raised. -/
def State.welding (s : State) : State :=
  { s with arb := { s.arb with weldArmed := false }, inputs := { s.inputs with pumpFb := true } }

theorem State.welded_eq (s : State) : s.welded = s.welding.raiseHalt .welded := rfl

theorem State.Sound.welding {s : State} (h : s.Sound) : s.welding.Sound := by
  rw [← State.sound_iff] at h ⊢
  exact h

/-- After a weld event the latch is set, its cause is present and the detection is no longer armed (R28, R59). -/
theorem State.welded_halts (s : State) :
    s.welded.halt.set = true ∧ s.welded.halt.welded = true ∧ s.welded.inputs.pumpFb = true ∧ s.welded.now = s.now ∧
      (s.halt.set = false → s.welded.halt.first = some .welded ∧ s.welded.plan.records = []) ∧
      (s.Sound → s.arb.contactor = .opened → s.welded.arb.weldArmed = false) := by
  rw [State.welded_eq]
  refine ⟨State.raiseHalt_set _ _, State.raiseHalt_has (c := .welded) _ rfl, ?_, State.raiseHalt_now _ _,
    fun clear => State.raiseHalt_first (s := s.welding) clear _, fun sound opened => ?_⟩
  · rw [(s.welding.raiseHalt_follows .welded).inputs]
    rfl
  · rw [sound.welding.raiseHalt_pumpKept opened .welded]
    rfl

/-- Settles O47: each report is a branch of `State.estopOn`, `State.feedbackClosed` or `State.feedbackOpen`. -/
theorem pinsHalt : Obligations.PinsHalt := by
  intro s
  refine ⟨fun acts idle => ⟨s.estopOn, rfl, ?_⟩, fun reading => ⟨s.estopOn, rfl, ?_, ?_, ?_⟩, fun acts counted => ?_,
    fun none => ?_, fun off => ?_, fun t0 quiet => ?_, fun acts opened armed => ?_, rfl, rfl, fun making => ?_,
    fun acts opened armed due => ⟨_, rfl, ?_⟩, fun opened off => ?_, ⟨_, rfl, rfl, rfl, rfl, fun made => ?_⟩⟩
  · set m : State :=
      { s with inputs := { s.inputs with estopRaw := true, estopQuiet := none, estopCounted := true } } with hm
    have on : s.estopOn = m.raiseHalt .estop := by
      simp [State.estopOn, acts, idle, hm]
    rw [on]
    refine ⟨?_, m.raiseHalt_set _, m.raiseHalt_has (c := .estop) rfl, State.raiseHalt_first (s := m) (c := .estop),
      fun new => State.raiseHalt_queues (s := m) (c := .estop) rfl new⟩
    rw [(m.raiseHalt_follows .estop).inputs]
  · simp [State.estopOn, reading]
  · simp [State.estopOn, reading]
  · show execWeldedContactor s = _
    simp [execWeldedContactor, reading]
  · show execEstopActive s = _
    simp [execEstopActive, State.estopOn, counted]
  · show execEstopReleaseCounted s = _
    simp only [execEstopReleaseCounted, none]
  · show execWeldedContactor s = _
    rw [execWeldedContactor, if_neg]
    rintro ⟨opened, armed, -⟩
    rcases off with off | off
    · exact off opened
    · rw [off] at armed
      cases armed
  · refine ⟨(s.passTo (t0 + 100)).estopReleased, ?_, rfl, ?_, s.passTo_now _⟩
    · show execEstopReleaseCounted s = _
      simp only [execEstopReleaseCounted, quiet]
      rfl
    · rw [State.estopReleased, (s.passTo_follows _).halt]
      rfl
  · have c := s.passTo_counts (s.arb.contactorAt + 150)
    obtain ⟨set, cause, -, now, first, disarmed⟩ := (s.passTo (s.arb.contactorAt + 150)).welded_halts
    refine ⟨(s.passTo (s.arb.contactorAt + 150)).welded, ?_, fun sound => disarmed (c.sound ((State.sound_iff s).mp sound)) ?_,
      set, cause, fun clear => first (c.halt ▸ clear), now.trans (s.passTo_now _)⟩
    · show execWeldedContactor s = _
      rw [execWeldedContactor, if_pos ⟨opened, armed, acts⟩]
      rfl
    · rw [c.arb, opened]
  · show execInputRawChange .pumpFb true s = _
    simp only [execInputRawChange, State.sampleRaw, State.feedbackClosed, making]
    rfl
  · have closed : s.sampleRaw .pumpFb true = s.welded := by
      simp only [State.sampleRaw, State.feedbackClosed, opened]
      exact if_pos ⟨due, armed, acts⟩
    obtain ⟨set, cause, fb, -⟩ := s.welded_halts
    rw [closed]
    exact ⟨set, cause, fb⟩
  · have closed : s.sampleRaw .pumpFb true = { s with inputs := { s.inputs with pumpFb := true } } := by
      simp only [State.sampleRaw, State.feedbackClosed, opened]
      refine if_neg ?_
      rintro ⟨due, armed, acts⟩
      rcases off with off | off | off
      · rw [off] at acts
        cases acts
      · rw [off] at armed
        cases armed
      · exact absurd due (by show ¬(s.arb.contactorAt + 150 ≤ s.now); omega)
    show execInputRawChange .pumpFb true s = _
    rw [execInputRawChange, closed]
  · show (if s.arb.contactor = .made then _ else _) = _
    exact if_pos made

end Sys2Proof.Machine
end

section
/-!
SUPPORT. A record that ends without being `DONE` takes its successors with it, and theirs in turn: what such a chain of endings
leaves in the table, read off the list of records alone (R7), and the notices it queues (R13).
-/

namespace Sys2Proof.Machine

/-! ### The chain on a list of records -/

/-- The handles of the records that wait behind `k`. -/
def waitingOn (rs : List Record) (k : Handle) : List Handle := (rs.filter fun r => r.pred == some k).map (·.handle)

/-- The records with another handle than `k`. -/
def without (rs : List Record) (k : Handle) : List Record := rs.filter fun r => r.handle ≠ k

/-- What `State.endChain` leaves of a list of records. -/
def cutChain : Nat → List Record → Handle → List Record
  | 0, rs, _ => rs
  | fuel + 1, rs, k => (waitingOn rs k).foldl (fun t j => cutChain fuel t j) (without rs k)

/-- The handles of a list of records. -/
def handlesOf (rs : List Record) : List Handle := rs.map (·.handle)

theorem mem_waitingOn {rs : List Record} {k j : Handle} :
    j ∈ waitingOn rs k ↔ ∃ r ∈ rs, r.pred = some k ∧ r.handle = j := by
  simp [waitingOn, and_assoc]

theorem mem_without {rs : List Record} {k : Handle} {r : Record} : r ∈ without rs k ↔ r ∈ rs ∧ r.handle ≠ k := by
  simp [without]

theorem mem_handlesOf {rs : List Record} {k : Handle} : k ∈ handlesOf rs ↔ ∃ r ∈ rs, r.handle = k := List.mem_map

theorem cutChain_sublist : ∀ (fuel : Nat) (rs : List Record) (k : Handle), (cutChain fuel rs k).Sublist rs
  | 0, rs, _ => .refl rs
  | fuel + 1, rs, k =>
    List.foldlRecOn (waitingOn rs k) _ (motive := fun t : List Record => t.Sublist rs) List.filter_sublist fun t ht j _ =>
      (cutChain_sublist fuel t j).trans ht

/-- The fold over the successors leaves what a further cut leaves. -/
theorem cutChain_fold_sublist (fuel : Nat) (js : List Handle) (rs : List Record) :
    (js.foldl (fun t j => cutChain fuel t j) rs).Sublist rs :=
  List.foldlRecOn js _ (motive := fun t : List Record => t.Sublist rs) (.refl rs) fun t ht j _ =>
    (cutChain_sublist fuel t j).trans ht

theorem handlesOf_sublist {rs ts : List Record} (h : ts.Sublist rs) {k : Handle} (m : k ∈ handlesOf ts) : k ∈ handlesOf rs :=
  (h.map _).subset m

/-- A record that is not there and that none waits behind takes nothing with it. -/
theorem cutChain_untouched {rs : List Record} {k : Handle} (absent : k ∉ handlesOf rs)
    (alone : ∀ r ∈ rs, r.pred ≠ some k) : ∀ fuel, cutChain fuel rs k = rs
  | 0 => rfl
  | fuel + 1 => by
    have none : waitingOn rs k = [] := by
      rw [waitingOn, List.map_eq_nil_iff, List.filter_eq_nil_iff]
      exact fun r m => by simpa using alone r m
    have all : without rs k = rs := List.filter_eq_self.mpr fun r m => by
      rw [decide_eq_true_eq]
      exact fun e => absent (mem_handlesOf.mpr ⟨r, m, e⟩)
    rw [cutChain, none, all]
    rfl

theorem cutChain_gone (fuel : Nat) (rs : List Record) (k : Handle) : k ∉ handlesOf (cutChain (fuel + 1) rs k) := by
  intro m
  obtain ⟨r, mr, e⟩ := mem_handlesOf.mp (handlesOf_sublist (cutChain_fold_sublist fuel _ _) m)
  exact (mem_without.mp mr).2 e

/-- A list in which everything that a record waits behind is there, as far as it is in `rs`. -/
def ClosedIn (rs ts : List Record) : Prop := ∀ y ∈ ts, ∀ k, y.pred = some k → k ∈ handlesOf rs → k ∈ handlesOf ts

/-- That with fuel for every record the chain from `h` leaves no record whose predecessor it has taken. -/
def CutsClosed (fuel : Nat) : Prop :=
  ∀ (rs : List Record) (h : Handle), (handlesOf rs).Nodup → (without rs h).length < fuel →
    (∀ r ∈ rs, r.handle = h → r.pred = some h → (without rs h).length + 1 < fuel) →
      ∀ y ∈ cutChain fuel rs h, ∀ k, y.pred = some k → k ∈ handlesOf rs ∨ k = h → k ∈ handlesOf (cutChain fuel rs h)

theorem length_without_lt {rs : List Record} {k : Handle} (m : k ∈ handlesOf rs) : (without rs k).length < rs.length := by
  obtain ⟨r, mr, e⟩ := mem_handlesOf.mp m
  exact List.length_filter_lt_length_iff_exists.mpr ⟨r, mr, by simp [e]⟩

/-- One successor's chain keeps what the others have left closed, and takes the successor. -/
theorem CutsClosed.step {fuel : Nat} (closed : CutsClosed fuel) {rs ts : List Record} {h j : Handle}
    (nd : (handlesOf rs).Nodup) (small : (without rs h).length ≤ fuel)
    (self : ∀ r ∈ rs, r.handle = h → r.pred = some h → (without rs h).length < fuel) (next : j ∈ waitingOn rs h)
    (sub : ts.Sublist (without rs h)) (whole : ClosedIn (without rs h) ts) :
    ClosedIn (without rs h) (cutChain fuel ts j) ∧ j ∉ handlesOf (cutChain fuel ts j) := by
  obtain ⟨r0, m0, pred0, rfl⟩ := mem_waitingOn.mp next
  have ndt : (handlesOf ts).Nodup := nd.sublist ((sub.trans List.filter_sublist).map _)
  have within : ts.length ≤ (without rs h).length := sub.length_le
  have after (out : ∀ y ∈ cutChain fuel ts r0.handle, ∀ k, y.pred = some k → k ∈ handlesOf ts ∨ k = r0.handle →
      k ∈ handlesOf (cutChain fuel ts r0.handle)) : ClosedIn (without rs h) (cutChain fuel ts r0.handle) :=
    fun y my k pred mk => out y my k pred (.inl (whole y ((cutChain_sublist fuel ts _).subset my) k pred mk))
  by_cases same : r0.handle = h
  · have absent : r0.handle ∉ handlesOf ts := fun m => by
      obtain ⟨r, mr, e⟩ := mem_handlesOf.mp (handlesOf_sublist sub m)
      exact (mem_without.mp mr).2 (e.trans same)
    have room := self r0 m0 same pred0
    have fits : (without ts r0.handle).length ≤ ts.length := List.length_filter_le _ _
    refine ⟨after (closed ts r0.handle ndt (by omega) fun r mr e => ?_), fun m => absent ?_⟩
    · exact absurd (mem_handlesOf.mpr ⟨r, mr, e⟩) absent
    · exact handlesOf_sublist (cutChain_sublist _ _ _) m
  · by_cases there : r0.handle ∈ handlesOf ts
    · have fewer := length_without_lt there
      refine ⟨after (closed ts r0.handle ndt (by omega) fun r mr e pred => ?_), ?_⟩
      · have one : r = r0 := List.inj_on_of_nodup_map nd (mem_without.mp (sub.subset mr)).1 m0 e
        rw [one, pred0, Option.some.injEq] at pred
        exact absurd pred.symm same
      · cases fuel with
        | zero => omega
        | succ fuel => exact cutChain_gone fuel ts _
    · have mine : r0.handle ∈ handlesOf (without rs h) := mem_handlesOf.mpr ⟨r0, mem_without.mpr ⟨m0, same⟩, rfl⟩
      rw [cutChain_untouched there fun r mr pred => there (whole r mr _ pred mine)]
      exact ⟨whole, there⟩

/-- The chains of all the successors keep what they leave closed, and take every successor. -/
theorem CutsClosed.fold {fuel : Nat} (closed : CutsClosed fuel) {rs : List Record} {h : Handle}
    (nd : (handlesOf rs).Nodup) (small : (without rs h).length ≤ fuel)
    (self : ∀ r ∈ rs, r.handle = h → r.pred = some h → (without rs h).length < fuel) :
    ∀ (js : List Handle), (∀ j ∈ js, j ∈ waitingOn rs h) → ∀ (ts : List Record), ts.Sublist (without rs h) →
      ClosedIn (without rs h) ts →
        ClosedIn (without rs h) (js.foldl (fun t j => cutChain fuel t j) ts) ∧
          ∀ j ∈ js, j ∉ handlesOf (js.foldl (fun t j => cutChain fuel t j) ts)
  | [], _, ts, _, whole => ⟨whole, List.forall_mem_nil _⟩
  | j :: js, next, ts, sub, whole => by
    obtain ⟨first, rest⟩ := List.forall_mem_cons.mp next
    obtain ⟨whole', gone⟩ := closed.step nd small self first sub whole
    obtain ⟨all, none⟩ := closed.fold nd small self js rest _ ((cutChain_sublist fuel ts j).trans sub) whole'
    refine ⟨all, List.forall_mem_cons.mpr ⟨fun m => gone ?_, none⟩⟩
    exact handlesOf_sublist (cutChain_fold_sublist fuel js _) m

/-- With fuel for every record the chain leaves no record whose predecessor it has taken (R7). -/
theorem cutChain_closed : ∀ fuel, CutsClosed fuel
  | 0 => fun _ _ _ small _ => absurd small (Nat.not_lt_zero _)
  | fuel + 1 => by
    intro rs h nd small self y my k pred mk
    obtain ⟨closed, none⟩ := (cutChain_closed fuel).fold nd (by omega) (fun r mr e p => by have := self r mr e p; omega)
      (waitingOn rs h) (fun _ m => m) (without rs h) (.refl _) fun _ _ _ _ m => m
    have from_ := mem_without.mp ((cutChain_fold_sublist fuel _ _).subset my)
    by_cases same : k = h
    · have waits : y.handle ∈ waitingOn rs h := mem_waitingOn.mpr ⟨y, from_.1, same ▸ pred, rfl⟩
      exact absurd (mem_handlesOf.mpr ⟨y, my, rfl⟩) (none _ waits)
    · obtain ⟨r, mr, rfl⟩ := mem_handlesOf.mp (mk.resolve_right same)
      exact closed y my _ pred (mem_handlesOf.mpr ⟨r, mem_without.mpr ⟨mr, same⟩, rfl⟩)

/-- That a record that the chain from `h` takes, other than its first, waits behind one that it takes. -/
def CutsFollow (fuel : Nat) : Prop :=
  ∀ (rs : List Record) (h : Handle) (y : Record), (handlesOf rs).Nodup → y ∈ rs → y.handle ≠ h →
    y.handle ∉ handlesOf (cutChain fuel rs h) →
      ∃ k, y.pred = some k ∧ (k ∈ handlesOf rs ∨ k = h) ∧ k ∉ handlesOf (cutChain fuel rs h)

/-- Among the chains of the successors there is one that takes a record that is gone after them. -/
theorem CutsFollow.fold {fuel : Nat} (follow : CutsFollow fuel) {rs : List Record} {h : Handle} {y : Record}
    (nd : (handlesOf rs).Nodup) (my : y ∈ rs) :
    ∀ (js : List Handle), (∀ j ∈ js, j ∈ waitingOn rs h) → ∀ ts : List Record, ts.Sublist rs → y ∈ ts →
      y.handle ∉ handlesOf (js.foldl (fun t j => cutChain fuel t j) ts) →
        ∃ k, y.pred = some k ∧ (k ∈ handlesOf rs ∨ k = h) ∧
          (k = h ∨ k ∉ handlesOf (js.foldl (fun t j => cutChain fuel t j) ts))
  | [], _, _, _, mt, gone => absurd (mem_handlesOf.mpr ⟨y, mt, rfl⟩) gone
  | j :: js, next, ts, sub, mt, gone => by
    obtain ⟨first, rest⟩ := List.forall_mem_cons.mp next
    obtain ⟨r0, m0, pred0, e0⟩ := mem_waitingOn.mp first
    have nds : (handlesOf ts).Nodup := nd.sublist (sub.map _)
    by_cases left : y.handle ∈ handlesOf (cutChain fuel ts j)
    · obtain ⟨z, mz, e⟩ := mem_handlesOf.mp left
      have same : z = y := List.inj_on_of_nodup_map nds ((cutChain_sublist fuel ts j).subset mz) mt e
      exact follow.fold nd my js rest _ ((cutChain_sublist fuel ts j).trans sub) (same ▸ mz) gone
    · by_cases mine : y.handle = j
      · have same : y = r0 := List.inj_on_of_nodup_map nd my m0 (mine.trans e0.symm)
        exact ⟨h, same ▸ pred0, .inr rfl, .inl rfl⟩
      · obtain ⟨k, pred, mk, out⟩ := follow ts j y nds mt mine left
        refine ⟨k, pred, .inl ?_, .inr fun m => out (handlesOf_sublist (cutChain_fold_sublist fuel js _) m)⟩
        rcases mk with mk | rfl
        · exact handlesOf_sublist sub mk
        · exact mem_handlesOf.mpr ⟨r0, m0, e0⟩

/-- A record that the chain takes, other than its first, waits behind one that it takes (R7). -/
theorem cutChain_follow : ∀ fuel, CutsFollow fuel
  | 0 => fun _ _ y _ my _ gone => absurd (mem_handlesOf.mpr ⟨y, my, rfl⟩) gone
  | fuel + 1 => by
    intro rs h y nd my ne gone
    obtain ⟨k, pred, mk, out⟩ := (cutChain_follow fuel).fold nd my (waitingOn rs h) (fun _ m => m) (without rs h)
      List.filter_sublist (mem_without.mpr ⟨my, ne⟩) gone
    refine ⟨k, pred, mk, ?_⟩
    rcases out with rfl | out
    · exact cutChain_gone fuel rs k
    · exact out

/-! ### The chain of endings in the table -/

section
variable {s : State}

theorem State.successors_bare (s : State) (k : Handle) : s.successors k = waitingOn s.bareRecords k := by
  simp [State.successors, waitingOn, State.bareRecords, List.filter_map, Function.comp_def, Record.bare]

theorem State.handlesOf_bare (s : State) : handlesOf s.bareRecords = s.handles := s.handles_bare.symm

/-- A chain of endings leaves what it leaves of the list of records (R7). -/
theorem State.endChain_bare : ∀ (fuel : Nat) (s : State) (k : Handle) {o : RecOutcome} (why : Option EndReason), o ≠ .done →
    (s.endChain fuel k o why).bareRecords = cutChain fuel s.bareRecords k
  | 0, _, _, _, _, _ => rfl
  | fuel + 1, s, k, o, why, ho => by
    have fold : ∀ (js : List Handle) (t : State),
        (js.foldl (fun t j => t.endChain fuel j .cancelled (some .pred)) t).bareRecords =
          js.foldl (fun rs j => cutChain fuel rs j) t.bareRecords := by
      intro js
      induction js with
      | nil => exact fun _ => rfl
      | cons j js ih =>
        intro t
        have one := State.endChain_bare fuel t j (o := .cancelled) (some .pred) nofun
        rw [List.foldl_cons, ih, one]
        rfl
    have all := fold (s.successors k) (s.endOne k o why)
    rw [State.endOne_bare, State.successors_bare] at all
    unfold State.endChain
    rw [cutChain, State.successors_bare]
    cases o with
    | done => exact absurd rfl ho
    | stopped => exact all
    | failed => exact all
    | cancelled => exact all

theorem State.endTree_bare (s : State) (k : Handle) {o : RecOutcome} (why : Option EndReason) (ho : o ≠ .done) :
    (s.endTree k o why).bareRecords = cutChain 13 s.bareRecords k := State.endChain_bare 13 s k why ho

/-- A record that is still there after endings stands as it stood. -/
theorem State.find_of_sublist {t : State} (sub : t.bareRecords.Sublist s.bareRecords) (nd : s.handles.Nodup) {r : Record}
    {k : Handle} (f : s.find k = some r) (left : k ∈ t.handles) : ∃ y, t.find k = some y ∧ y.bare = r.bare := by
  obtain ⟨rfl, m⟩ := State.find_spec f
  rw [← t.handlesOf_bare] at left
  obtain ⟨z, mz, e⟩ := mem_handlesOf.mp left
  rw [← s.handlesOf_bare] at nd
  have same : z = r.bare := List.inj_on_of_nodup_map nd (sub.subset mz) (State.mem_bare m) e
  obtain ⟨y, my, ey⟩ := List.mem_map.mp mz
  have ndt : t.handles.Nodup := by
    rw [← t.handlesOf_bare]
    exact nd.sublist (sub.map _)
  have handle : y.handle = r.handle := by rw [← e, ← ey]; rfl
  exact ⟨y, handle ▸ State.find_of_mem ndt my, ey.trans same⟩

theorem State.endChain_sublist (fuel : Nat) (s : State) (k : Handle) {o : RecOutcome} (why : Option EndReason)
    (ho : o ≠ .done) : (s.endChain fuel k o why).bareRecords.Sublist s.bareRecords := by
  rw [State.endChain_bare fuel s k why ho]
  exact cutChain_sublist _ _ _

theorem State.nodup_of_sublist {t : State} (sub : t.bareRecords.Sublist s.bareRecords) (nd : s.handles.Nodup) :
    t.handles.Nodup := by
  rw [← State.handlesOf_bare] at nd ⊢
  exact nd.sublist (sub.map _)

/-! ### The notices of the chain -/

/-- The notice of a record that ended with another, or by itself with this outcome and reason. -/
def State.notedIn (s t : State) (r : Record) (mine : Prop) (o : RecOutcome) (why : Option EndReason) : Prop :=
  (mine ∧ ∃ p, s.queued t (.ended r.handle r.kind o why p)) ∨
    ∃ p, s.queued t (.ended r.handle r.kind .cancelled (some .pred) p)

theorem State.notedIn.around {s a b t : State} {r y : Record} {mine mine' : Prop} {o : RecOutcome} {why : Option EndReason}
    (h : a.notedIn b y mine o why) (before : s.Follows a) (after : b.Follows t) (e : y.bare = r.bare)
    (imp : mine → mine') : s.notedIn t r mine' o why := by
  have handle := Record.bare_handle e
  have kind := Record.bare_kind e
  unfold State.notedIn at *
  rw [handle, kind] at h
  rcases h with ⟨m, p, q⟩ | ⟨p, q⟩
  · exact .inl ⟨imp m, p, (q.since before).follows after⟩
  · exact .inr ⟨p, (q.since before).follows after⟩

/-- Chains one after the other queue the notice of every record that they take. -/
theorem State.chains_noted {f : State → Handle → State} (follows : ∀ (s : State) k, s.Follows (f s k))
    (sub : ∀ (s : State) k, (f s k).bareRecords.Sublist s.bareRecords) {mine : Handle → Prop} {o : RecOutcome}
    {why : Option EndReason}
    (one : ∀ (s : State) (k : Handle) (r : Record), s.handles.Nodup → s.find r.handle = some r →
      r.handle ∉ (f s k).handles → s.notedIn (f s k) r (mine r.handle) o why) :
    ∀ (ks : List Handle) {s : State} {r y : Record}, s.handles.Nodup → s.find r.handle = some y → y.bare = r.bare →
      r.handle ∉ (ks.foldl f s).handles → s.notedIn (ks.foldl f s) r (mine r.handle) o why
  | [], _, _, _, _, found, _, gone => absurd (State.find_mem found) gone
  | k :: ks, s, r, y, nd, found, e, gone => by
    have handle := Record.bare_handle e
    by_cases left : r.handle ∈ (f s k).handles
    · obtain ⟨z, hz, ez⟩ := State.find_of_sublist (sub s k) nd found left
      exact (State.chains_noted follows sub one ks (State.nodup_of_sublist (sub s k) nd) hz (ez.trans e) gone).around
        (follows s k) (.refl _) rfl id
    · rw [← handle] at found left
      have noted := one s k y nd found left
      rw [handle] at noted
      exact noted.around (.refl s) (State.Follows.foldl f follows ks (f s k)) e id

/-- Every record that a chain of endings takes has its notice queued: the first with the outcome of the chain, the others
`CANCELLED` for `PRED` (R7, R13). -/
theorem State.endChain_noted : ∀ (fuel : Nat) {s : State} {k : Handle} {o : RecOutcome} {why : Option EndReason}, o ≠ .done →
    ∀ {r : Record}, s.handles.Nodup → s.find r.handle = some r → r.handle ∉ (s.endChain fuel k o why).handles →
      s.notedIn (s.endChain fuel k o why) r (r.handle = k) o why
  | 0, _, _, _, _, _, _, _, found, gone => absurd (State.find_mem found) gone
  | fuel + 1, s, k, o, why, ho, r, nd, found, gone => by
    have eq : s.endChain (fuel + 1) k o why =
        (s.successors k).foldl (fun t j => t.endChain fuel j .cancelled (some .pred)) (s.endOne k o why) := by
      cases o with
      | done => exact absurd rfl ho
      | stopped | failed | cancelled => rfl
    have rest := State.Follows.foldl (fun t j => State.endChain fuel t j .cancelled (some .pred))
      (fun t j => State.endChain_follows fuel t j _ _) (s.successors k) (s.endOne k o why)
    rw [eq] at gone ⊢
    by_cases mine : r.handle = k
    · subst mine
      exact .inl ⟨rfl, _, (State.endOne_noted found o why).follows rest⟩
    · obtain ⟨z, hz, ez⟩ := State.endOne_find mine found o why
      have noted := State.chains_noted (fun t j => State.endChain_follows fuel t j .cancelled (some .pred))
        (fun t j => State.endChain_sublist fuel t j (o := .cancelled) _ nofun) (mine := fun _ => True)
        (fun t j y nd found gone => (State.endChain_noted fuel (o := .cancelled) nofun nd found gone).around (.refl t) (.refl _) rfl
          fun _ => trivial)
        (s.successors k) (State.endOne_nodup nd k o why) hz ez gone
      rcases noted with ⟨-, p, q⟩ | ⟨p, q⟩
      · exact .inr ⟨p, q.since (s.endOne_follows _ _ _)⟩
      · exact .inr ⟨p, q.since (s.endOne_follows _ _ _)⟩

end

end Sys2Proof.Machine
end

section
/-!
`CANC` (O22), in the terms of R7, R13, R15 and R21.
-/

namespace Sys2Proof.Machine

/-! ### An ending that counts nothing -/

theorem State.decideDerating_idle {s : State} (h : s.cnt.recs.toList.any Counter.derates = s.cnt.derating) :
    s.decideDerating.plan = s.plan := by
  unfold State.decideDerating
  dsimp only
  rw [h, Bool.and_not_self]
  rfl

/-- With no counter changed, and derating as the flags have it, no record is (R169). -/
theorem State.applyCounters_idle {s : State} (h : s.cnt.Ranged) {f : Fin 8 → Counter → Counter × Option Nat}
    (hf : ∀ i c, (f i c).1 = c) : (s.applyCounters f).plan = s.plan := by
  have same : (mapAt (mapAt s.cnt.recs f) fun _ x => x.1) = s.cnt.recs := Vector.ext fun i hi => by
    rw [mapAt_getElem, mapAt_getElem, hf]
  unfold State.applyCounters
  refine State.decideDerating_idle ?_
  show (mapAt (mapAt s.cnt.recs f) fun _ x => x.1).toList.any Counter.derates = s.cnt.derating
  rw [same, h.derating]

/-- An event of no source changes no record (R163). -/
theorem State.count_nothing {s : State} (h : s.cnt.Ranged) (o : Option Origin) (side : Option Side) (load : Nat) :
    (s.count [] o side load).plan = s.plan := by
  unfold State.count
  split
  · rfl
  · exact State.applyCounters_idle h fun _ c => by simp [Counter.take]

/-- A cancelled record without successors: the table without it, and its entry in the recent-outcomes list (R13, R15). -/
theorem State.endTree_alone {s : State} (h : s.cnt.Ranged) {r : Record} (f : s.find r.handle = some r)
    (alone : s.successors r.handle = []) (why : Option EndReason) :
    (s.endTree r.handle .cancelled why).plan = (s.quit r .cancelled why).plan := by
  have sources : endSources r ⟨.cancelled, why, s.endPos r⟩ (s.ranBy r) = [] := by
    unfold endSources
    cases r.kind <;> rfl
  have ranged : (s.quit r .cancelled why).cnt.Ranged := by rwa [State.quit_cnt]
  rw [State.endTree_eq, alone, if_neg nofun, List.foldl_nil, State.endOne_eq f, sources, State.count_nothing ranged]

/-! ### What `CANC` ends -/

/-- In a table of at most 12 records with distinct handles a record that ends without being `DONE` takes exactly the records
that wait behind one that it takes (R7). -/
theorem State.endTree_takes {s : State} (nd : s.handles.Nodup) (small : s.plan.records.length ≤ 12) {h : Handle}
    (there : h ∈ s.handles) {o : RecOutcome} (ho : o ≠ .done) (why : Option EndReason) :
    (∀ y ∈ s.plan.records, ∀ k, y.pred = some k → k ∈ s.handles → k ∉ (s.endTree h o why).handles →
        y.handle ∉ (s.endTree h o why).handles) ∧
      ∀ y ∈ s.plan.records, y.handle ≠ h → y.handle ∉ (s.endTree h o why).handles →
        (∃ k, y.pred = some k ∧ k ∈ s.handles ∧ k ∉ (s.endTree h o why).handles) ∧
          ∃ p, s.queued (s.endTree h o why) (.ended y.handle y.kind .cancelled (some .pred) p) := by
  have bare := State.endTree_bare s h why ho
  have handles : (s.endTree h o why).handles = handlesOf (cutChain 13 s.bareRecords h) := by
    rw [← State.handlesOf_bare, bare]
  have ndb : (handlesOf s.bareRecords).Nodup := by rwa [State.handlesOf_bare]
  have fewer := length_without_lt (rs := s.bareRecords) (k := h) (by rwa [State.handlesOf_bare])
  rw [State.length_bare] at fewer
  refine ⟨fun y my k pred mk gone left => gone ?_, fun y my ne gone => ⟨?_, ?_⟩⟩
  · rw [handles] at left ⊢
    obtain ⟨z, mz, e⟩ := mem_handlesOf.mp left
    have same : z = y.bare :=
      List.inj_on_of_nodup_map ndb ((cutChain_sublist 13 _ h).subset mz) (State.mem_bare my) e
    refine cutChain_closed 13 s.bareRecords h ndb (by omega) (fun _ _ _ _ => by omega) z mz k (by rw [same]; exact pred)
      (.inl ?_)
    rwa [State.handlesOf_bare]
  · rw [handles] at gone
    obtain ⟨k, pred, mk, out⟩ := cutChain_follow 13 s.bareRecords h y.bare ndb (State.mem_bare my) ne gone
    rw [State.handlesOf_bare] at mk
    refine ⟨k, pred, ?_, by rwa [handles]⟩
    rcases mk with mk | rfl
    · exact mk
    · exact there
  · rcases State.endChain_noted 13 ho nd (State.find_of_mem nd my) gone with ⟨mine, -⟩ | noted
    · exact absurd mine ne
    · exact noted

/-- Settles O22: the branches of `State.reqCanc`, and what `State.endTree_takes` says of the successors. -/
theorem cancEnds : Obligations.CancEnds := by
  refine ⟨⟨fun s t h r ready f pos => ?_, fun s t h ready other => State.serve_replies ready ?_⟩, fun s t ready => ?_,
    fun s t f fs ready => State.serve_replies ready rfl⟩
  · obtain ⟨rfl, m⟩ := State.find_spec f
    have found : s.find (r.handle : Int).toNat = some r := f
    have served : s.serve ⟨t, .canc, [.num r.handle]⟩ =
        (s.endTree r.handle .cancelled (some .request)).conclude.answer t .canc "OK"
          [.num (s.plan.records.length - (s.endTree r.handle .cancelled (some .request)).plan.records.length : Nat)] := by
      show s.reqCanc t [.num r.handle] = _
      simp only [State.reqCanc, found, Option.isSome_some, and_true]
      exact if_pos (Int.natCast_pos.mpr pos)
    obtain ⟨u, hu, replied⟩ := State.serve_replies_after ready served
      (State.conclude_link (s.endTree_follows r.handle .cancelled (some .request)).link)
    refine ⟨u, s.endTree r.handle .cancelled (some .request), hu, replied, State.endTree_ends f _ _,
      fun sound holds => ((State.sound_iff s).mp sound).endTree_packFree holds _ _, fun inv alone => ?_, fun inv good => ?_⟩
    · have plan := State.endTree_alone ((State.inv_iff s).mp inv).1.cnt f alone (some .request)
      rw [plan, State.quit_plan]
      exact ⟨r.finish ⟨.cancelled, some .request, s.endPos r⟩, rfl, rfl, rfl, rfl, rfl⟩
    · obtain ⟨small, -⟩ := (Plan.bounded_iff _).mp ((State.inv_iff s).mp inv).1.plan
      exact State.endTree_takes (State.handles_nodup good) small (State.find_mem f) (o := .cancelled) nofun _
  · show s.reqCanc t [.num h] = _
    simp only [State.reqCanc]
    refine if_neg ?_
    rintro ⟨pos, found⟩
    rcases other with other | other
    · omega
    · rw [other] at found
      cases found
  · have empty := s.endEach_all .cancelled (some .request)
    have follows := s.endEach_follows s.handles .cancelled (some .request)
    have served : s.serve ⟨t, .canc, [.word "ALL"]⟩ =
        (s.endEach s.handles .cancelled (some .request)).conclude.answer t .canc "OK" [.num s.plan.records.length] := by
      have count : s.plan.records.length - (s.endEach s.handles .cancelled (some .request)).plan.records.length =
          s.plan.records.length := by
        rw [empty]
        rfl
      rw [← count]
      rfl
    obtain ⟨u, hu, replied⟩ := State.serve_replies_after ready served (State.conclude_link follows.link)
    exact ⟨u, _, hu, empty, follows, replied, fun good r m => State.endEach_noted (State.handles_nodup good) _ _ m,
      fun _ _ sound => (((State.sound_iff s).mp sound).endEach _ _ _).outputsOff empty⟩

end Sys2Proof.Machine
end

section
/-!
The keys of the stations (O55): what a counted press or release of a key asks for, in the terms of R25 to R27, R30 and R140 to
R144.
-/

namespace Sys2Proof.Machine

/-! ### Presses by role -/

section
variable {s : State} {i : Fin 6} {r : Role} {a : Auth}

/-- A STOP key among those counted pressed of a station that has one (R143). -/
def State.stopPressed (s : State) (i : Fin 6) (ks : List (Fin 6)) : State :=
  if (0 : Fin 6) ∈ ks then s.raiseHalt (.station i) else s

theorem State.handPresses_hand (hr : r = .pendant a ∨ r = .platform a) (ks : List (Fin 6)) :
    s.handPresses i r ks = (s.stopPressed i ks).askDirections i a ks := by
  rcases hr with rfl | rfl <;> rfl

theorem directions_stop (ks : List (Fin 6)) : directions (0 :: ks) = directions ks := rfl

theorem directions_enable (ks : List (Fin 6)) : directions (1 :: ks) = directions ks := rfl

theorem State.askDirections_none {ks : List (Fin 6)} (h : directions ks = []) : s.askDirections i a ks = s := by
  unfold State.askDirections
  rw [h]
  split <;> rfl

theorem State.askDirections_congr {ks js : List (Fin 6)} (h : directions ks = directions js) :
    s.askDirections i a ks = s.askDirections i a js := by
  unfold State.askDirections
  rw [h]

theorem State.handPresses_stop (hr : ∀ side, r ≠ .keypad side) : s.handPresses i r [0] = s.raiseHalt (.station i) := by
  have hand {b : Auth} (hb : r = .pendant b ∨ r = .platform b) : s.handPresses i r [0] = s.raiseHalt (.station i) := by
    rw [State.handPresses_hand hb, State.askDirections_none (ks := [0]) rfl]
    exact if_pos (List.mem_singleton.mpr rfl)
  cases r with
  | pendant b => exact hand (.inl rfl)
  | platform b => exact hand (.inr rfl)
  | keypad side => exact absurd rfl (hr side)
  | cab => rfl

/-- STOP is taken before the other keys of its reply (R140, R143). -/
theorem State.handPresses_stop_first (s : State) (i : Fin 6) (r : Role) {ks : List (Fin 6)} (h : (0 : Fin 6) ∉ ks) :
    s.handPresses i r (0 :: ks) = (s.handPresses i r [0]).handPresses i r ks := by
  have hand {b : Auth} (hb : r = .pendant b ∨ r = .platform b) :
      s.handPresses i r (0 :: ks) = (s.handPresses i r [0]).handPresses i r ks := by
    have first : s.handPresses i r [0] = s.raiseHalt (.station i) :=
      State.handPresses_stop fun side e => by rcases hb with rfl | rfl <;> cases e
    rw [first, State.handPresses_hand hb, State.handPresses_hand hb, State.askDirections_congr (directions_stop ks)]
    simp [State.stopPressed, h]
  cases r with
  | pendant b => exact hand (.inl rfl)
  | platform b => exact hand (.inr rfl)
  | keypad side => simp [State.handPresses, State.askDoor, h]
  | cab =>
    have now := s.raiseHalt_now (.station i)
    simp [State.handPresses, h, now]

/-- ENABLE among the keys of a reply asks for nothing (R141). -/
theorem State.handPresses_enable (hr : r = .pendant a ∨ r = .platform a) (ks : List (Fin 6)) :
    s.handPresses i r (1 :: ks) = s.handPresses i r ks := by
  rw [State.handPresses_hand hr, State.handPresses_hand hr, State.askDirections_congr (directions_enable ks)]
  simp [State.stopPressed]

end

/-! ### A reply that counts ENABLE and a direction key pressed (R140, R141) -/

theorem pressed_pair (k : Fin 6) (h : 2 ≤ k.val) : ((List.finRange 6).filter fun j => j == 1 || j == k) = [1, k] := by
  revert k
  decide

theorem changedKeys_released {old new : Station}
    (h : ∀ j : Fin 6, (old.keys[j]).pressed = true → (new.keys[j]).pressed = true) : changedKeys old new false = [] := by
  unfold changedKeys
  rw [List.filter_eq_nil_iff]
  intro j _
  specialize h j
  revert h
  cases (old.keys[j]).pressed <;> cases (new.keys[j]).pressed <;> simp

theorem changedKeys_pressed {old new : Station} {k : Fin 6} (hk : 2 ≤ k.val) (one : (old.keys[(1 : Fin 6)]).pressed = false)
    (two : (old.keys[k]).pressed = false)
    (h : ∀ j : Fin 6, (new.keys[j]).pressed = ((old.keys[j]).pressed || j == 1 || j == k)) :
    changedKeys old new true = [1, k] := by
  rw [← pressed_pair k hk]
  unfold changedKeys
  refine List.filter_congr fun j _ => ?_
  rw [h j]
  by_cases e1 : j = 1
  · subst e1
    rw [one]
    rfl
  · by_cases ek : j = k
    · subst ek
      rw [two]
      simp
    · cases (old.keys[j]).pressed <;> simp [e1, ek]

/-- Station `i` replaced, seen as a change of the stations alone. -/
theorem State.setStation_spec (s : State) (i : Fin 6) (x : Station) :
    s.setStation i x = { s with bus := { s.bus with stations := (s.setStation i x).bus.stations } } ∧
      (s.setStation i x).bus.stations[i] = x ∧
        ∀ j : Fin 6, j ≠ i → (s.setStation i x).bus.stations[j] = s.bus.stations[j] := by
  refine ⟨rfl, ?_, fun j ne => ?_⟩
  · simp [State.setStation]
  · have ne' : (⟨j.val, j.isLt⟩ : Fin 6) ≠ i := ne
    simp [State.setStation, ne']

theorem State.setStation_map (s : State) (i : Fin 6) (f : Station → Station) :
    s.setStation i (f s.bus.stations[i]) = { s with bus := { s.bus with stations := modAt s.bus.stations i f } } := by
  have same : (modAt s.bus.stations i fun _ => f s.bus.stations[i]) = modAt s.bus.stations i f := Vector.ext fun j hj => by
    rw [modAt_getElem, modAt_getElem]
    split
    · next e => rw [← e]; rfl
    · rfl
  unfold State.setStation
  rw [same]

/-- A conflict counted (R145). -/
theorem State.conflict_spec (s : State) (i : Fin 6) :
    s.conflict i = { s with bus := { s.bus with stations := (s.conflict i).bus.stations } } ∧
      (s.conflict i).bus.stations[i] = { s.bus.stations[i] with conflicts := min 65535 ((s.bus.stations[i]).conflicts + 1) } ∧
        ∀ j : Fin 6, j ≠ i → (s.conflict i).bus.stations[j] = s.bus.stations[j] := s.setStation_spec i _

/-! ### A direction key (R25, R141) -/

section
variable {s : State} {i : Fin 6} {r : Role} {a : Auth}

theorem State.askDirections_off (h : ¬((s.bus.stations[i]).keys[(1 : Fin 6)]).pressed = true) (ks : List (Fin 6)) :
    s.askDirections i a ks = s := if_neg h

theorem State.askDirections_one (h : ((s.bus.stations[i]).keys[(1 : Fin 6)]).pressed = true) {k : Fin 6} (hk : 2 ≤ k.val) :
    s.askDirections i a [k] = s.askMove i k a := by
  have d : directions [k] = [k] := by simp [directions, hk]
  unfold State.askDirections
  rw [d]
  exact if_pos h

theorem State.askDirections_two (h : ((s.bus.stations[i]).keys[(1 : Fin 6)]).pressed = true) {k l : Fin 6} (hk : 2 ≤ k.val)
    (hl : 2 ≤ l.val) : s.askDirections i a [k, l] = s.conflict i := by
  have d : directions [k, l] = [k, l] := by simp [directions, hk, hl]
  unfold State.askDirections
  rw [d]
  exact if_pos h

theorem State.stopPressed_not {ks : List (Fin 6)} (h : (0 : Fin 6) ∉ ks) : s.stopPressed i ks = s := if_neg h

theorem Record.isStation_iff (r : Record) : r.isStation = true ↔ r.origin ≠ .link := by
  unfold Record.isStation
  cases r.origin <;> simp

theorem State.stationBusy_iff (s : State) :
    s.stationBusy = true ↔ ∃ y ∈ s.plan.records, y.kind.isLift = true ∧ y.origin ≠ .link := by
  simp [State.stationBusy, Record.isStation_iff]

/-- The override of a link record that holds the pack (R25). -/
theorem State.overrideLink_spec (s : State) :
    ((∀ y, s.packRecord = some y → y.origin ≠ .link) → s.overrideLink = s) ∧
      ∀ y, s.packRecord = some y → y.origin = .link →
        s.Ends s.overrideLink y .cancelled (some .override) ∧ (s.sound = true → s.overrideLink.packFree) := by
  refine ⟨fun h => ?_, fun y holder link => ?_⟩
  · unfold State.overrideLink
    split
    · next y holder => exact if_pos ((Record.isStation_iff y).mpr (h y holder))
    · rfl
  · obtain ⟨f, hp⟩ := State.packRecord_spec holder
    have eq : s.overrideLink = s.endTree y.handle .cancelled (some .override) := by
      unfold State.overrideLink
      rw [holder]
      exact if_neg fun h => (Record.isStation_iff y).mp h link
    rw [eq]
    exact ⟨State.endTree_ends f _ _, fun sound => ((State.sound_iff s).mp sound).endTree_packFree hp _ _⟩

/-- The record that an admission without a predecessor adds (R5, R12). -/
theorem State.enrol_free (s : State) {a : Ask} (h : a.pred = none) :
    ∃ y, s.enrol a = { s with plan := (s.enrol a).plan } ∧ (s.enrol a).plan.records = s.plan.records ++ [y] ∧
      y.handle = s.plan.newHandle ∧ y.kind = a.kind ∧ y.side = a.side ∧ y.origin = a.origin ∧ y.key = a.key ∧
        y.target = a.target.map (s.clampTarget a.kind) ∧ y.pred = none ∧ y.seq = a.seq ∧ y.waitFrom = some s.now ∧
          (y.state = .waiting ∨ y.state = .blocked) := by
  obtain ⟨y, hy, handle, eq⟩ := s.enrol_records a
  rw [h] at eq
  have same := State.compete_same s (s.make a)
  have state : y.state = .waiting ∨ y.state = .blocked := by
    rw [eq]
    cases f : s.firstFalse (s.make a) (s.required (s.make a)) with
    | none => exact .inl (by simp [State.compete_waiting f])
    | some c => exact .inr (by simp [State.compete_blocked f])
  refine ⟨y, rfl, hy, handle, ?_⟩
  have fields : y.kind = a.kind ∧ y.side = a.side ∧ y.origin = a.origin ∧ y.key = a.key ∧
      y.target = a.target.map (s.clampTarget a.kind) ∧ y.pred = none ∧ y.seq = a.seq ∧ y.waitFrom = some s.now := by
    rw [eq]
    simp only [Option.isSome_none, Bool.false_eq_true, if_false]
    rw [same]
    exact ⟨rfl, rfl, rfl, rfl, rfl, rfl, rfl, rfl⟩
  obtain ⟨kind, side, origin, key, target, pred, seq, since⟩ := fields
  exact ⟨kind, side, origin, key, target, pred, seq, since, state⟩

end

/-! ### A keypad (R26, R142) -/

section
variable (s : State) (side : Side) (why : EndReason)

theorem State.endSide_sublist : (s.endSide side why).bareRecords.Sublist s.bareRecords :=
  List.foldlRecOn (s.sideHandles side) _ (motive := fun t : State => t.bareRecords.Sublist s.bareRecords) (.refl _)
    fun t ht h _ => (State.endChain_sublist 13 t h (o := .cancelled) _ nofun).trans ht

/-- Records ended one by one with their successors are not in the table. -/
theorem State.endTrees_gone (o : RecOutcome) (why : Option EndReason) : ∀ (hs : List Handle) (s : State),
    ∀ h ∈ hs, h ∉ (hs.foldl (fun t h => State.endTree t h o why) s).handles
  | [], _ => List.forall_mem_nil _
  | k :: hs, s => List.forall_mem_cons.mpr
      ⟨(State.Thins.foldl (fun t h => State.endTree t h o why) (fun t h => t.endTree_thins h o why) hs _).gone
        (s.endTree_gone k o why), State.endTrees_gone o why hs _⟩

variable {s side}

/-- After the endings of a side no door record of it is left (R26). -/
theorem State.endSide_none : ∀ y ∈ (s.endSide side why).plan.records, y.side ≠ some side := by
  intro y m hs
  have old := (s.endSide_sublist side why).subset (State.mem_bare m)
  obtain ⟨r, mr, e⟩ := List.mem_map.mp old
  have ours : y.handle ∈ s.sideHandles side := by
    refine List.mem_map.mpr ⟨r, List.mem_filter.mpr ⟨mr, ?_⟩, Record.bare_handle e⟩
    rw [Record.bare_side e, hs]
    exact beq_self_eq_true _
  exact State.endTrees_gone _ _ _ s _ ours (List.mem_map_of_mem m)

theorem State.endSide_idle (h : ∀ y ∈ s.plan.records, y.side ≠ some side) : s.endSide side why = s := by
  have none : s.sideHandles side = [] := by
    rw [State.sideHandles, List.map_eq_nil_iff, List.filter_eq_nil_iff]
    exact fun y m => by simpa using h y m
  unfold State.endSide
  rw [none]
  rfl

/-- Every door record of the side queues its notice, for the side's reason or for `PRED` (R7, R13, R26). -/
theorem State.endSide_noted (nd : s.handles.Nodup) {y : Record} (m : y ∈ s.plan.records) (hs : y.side = some side) :
    ∃ p, s.queued (s.endSide side why) (.ended y.handle y.kind .cancelled (some why) p) ∨
      s.queued (s.endSide side why) (.ended y.handle y.kind .cancelled (some .pred) p) := by
  have gone : y.handle ∉ (s.endSide side why).handles :=
    State.endTrees_gone _ _ _ s _ (List.mem_map_of_mem (List.mem_filter.mpr ⟨m, by rw [hs]; exact beq_self_eq_true _⟩))
  have noted := State.chains_noted (f := fun t h => State.endTree t h .cancelled (some why)) (mine := fun _ => True)
    (o := .cancelled) (why := some why) (fun t h => t.endTree_follows h _ _)
    (fun t h => State.endChain_sublist 13 t h (o := .cancelled) _ nofun)
    (fun t h r nd found gone => (State.endChain_noted 13 (o := .cancelled) nofun nd found gone).around (.refl t) (.refl _) rfl
      fun _ => trivial)
    (s.sideHandles side) nd (State.find_of_mem nd m) rfl gone
  rcases noted with ⟨-, p, q⟩ | ⟨p, q⟩
  · exact ⟨p, .inl q⟩
  · exact ⟨p, .inr q⟩

theorem State.Sound.endSide (h : s.Sound) : (s.endSide side why).Sound :=
  List.foldlRecOn (s.sideHandles side) _ (motive := State.Sound) h fun _ ht k _ => ht.endTree (o := .cancelled) nofun _ k

/-- The door channel of the side is free after its endings (R26, R48). -/
theorem State.Sound.endSide_channel (h : s.Sound) : (s.endSide side why).arb.channel side = none := by
  rcases (h.endSide (side := side) why).door side with idle | ⟨x, p, r, held⟩
  · exact idle.channel
  · exact absurd held.ofSide (State.endSide_none why r (State.find_spec held.find).2)

end

/-! ### The statement -/

theorem Station.good_present {x : Station} (h : x.state = .present) (r : Role) (keys : Ch) (stuck : Bool) :
    (x.good r keys stuck false).state = .present := by
  simp [Station.good, h]

/-- What the counted presses of a good reply hand on (R133, R140). -/
theorem State.replyReceived_presses {s : State} {i k : Fin 6} {e : StationCfg} {auth : Auth} {a b c d : Ch}
    (current : s.bus.current = some i) (entry : (s.bus.stations[i]).entry = some e)
    (role : e.role = .pendant auth ∨ e.role = .platform auth) (hk : 2 ≤ k.val) (good : judgeReply e.addr a b c d false = none)
    (fault : s.bus.fault = false) (present : (s.bus.stations[i]).state = .present)
    (one : ((s.bus.stations[i]).keys[(1 : Fin 6)]).pressed = false) (two : ((s.bus.stations[i]).keys[k]).pressed = false)
    (counted : ∀ j : Fin 6, (((s.bus.stations[i]).good e.role b (c.getLsbD 0) false).keys[j]).pressed =
      (((s.bus.stations[i]).keys[j]).pressed || j == 1 || j == k)) :
    exec (.replyReceived a b c d false) s =
      .next (((s.setStation i ((s.bus.stations[i]).good e.role b (c.getLsbD 0) false)).report.handPresses i e.role
        [k]).advance (i.val + 1)) := by
  set new := (s.bus.stations[i]).good e.role b (c.getLsbD 0) false with hnew
  have state : new.state = .present := Station.good_present present _ _ _
  have released : changedKeys (s.bus.stations[i]) new false = [] :=
    changedKeys_released fun j pressed => by rw [counted, pressed]; rfl
  have quiet : (s.setStation i new).noteStation i e .present .present = s.setStation i new := rfl
  show execReplyReceived a b c d false s = _
  unfold execReplyReceived
  rw [State.endPoll_eq current entry, good]
  show (.next ((s.judgeGood i e b c).advance (i.val + 1)) : Answer) = _
  unfold State.judgeGood State.handOn
  rw [fault]
  dsimp only
  rw [← hnew, present, state, quiet, released, changedKeys_pressed hk one two counted]
  rw [State.handReleases, List.foldl_nil, State.handPresses_enable role]

/-- What a direction key asks for, and what becomes of it (R25, R141). -/
theorem State.askMove_spec (s : State) (i k : Fin 6) (a : Auth) {kind : Kind} {target : Option Int}
    (asks : s.keyAsks k = some (kind, target)) :
    (a.has kind = false → s.askMove i k a = s.conflict i) ∧
      (a.has kind = true → s.halt.set = true → s.askMove i k a = s) ∧
      (a.has kind = true → s.halt.set = false → s.stationBusy = true → s.askMove i k a = s.conflict i) ∧
      (a.has kind = true → s.halt.set = false → s.stationBusy = false →
        (12 ≤ s.overrideLink.plan.records.length → s.askMove i k a = s.conflict i) ∧
          (s.overrideLink.plan.records.length < 12 →
            s.askMove i k a =
              s.overrideLink.enrol
                { kind := kind, side := none, target := target, creep := false, origin := .station i, key := some k
                  pred := none, seq := none })) := by
  have may (h : a.has kind = true) : s.askMove i k a = s.stationMove i k kind target := by
    rw [State.askMove, asks]
    exact if_pos h
  refine ⟨fun h => ?_, fun h halted => ?_, fun h clear busy => ?_, fun h clear free => ⟨fun full => ?_, fun room => ?_⟩⟩
  · rw [State.askMove, asks]
    exact if_neg (by rw [h]; nofun)
  · rw [may h, State.stationMove, if_pos halted]
  · rw [may h, State.stationMove, if_neg (by rw [clear]; nofun), if_pos busy]
  · rw [may h, State.stationMove, if_neg (by rw [clear]; nofun), if_neg (by rw [free]; nofun)]
    exact if_neg (Nat.not_lt.mpr full)
  · rw [may h, State.stationMove, if_neg (by rw [clear]; nofun), if_neg (by rw [free]; nofun)]
    exact if_pos room

/-- What a keypad's OPEN or CLOSE key asks for (R26, R142). -/
theorem State.keypadMove_spec (s : State) (i : Fin 6) (kind : Kind) (side : Side) :
    (s.halt.set = true ∨ (∃ y ∈ s.plan.records, y.side = some side ∧ y.kind = kind) → s.keypadMove i kind side = s) ∧
      (s.halt.set = false → ¬(∃ y ∈ s.plan.records, y.side = some side ∧ y.kind = kind) →
        (12 ≤ (s.endSide side .supersede).plan.records.length →
            s.keypadMove i kind side = (s.endSide side .supersede).conflict i) ∧
          ((s.endSide side .supersede).plan.records.length < 12 →
            s.keypadMove i kind side =
              (s.endSide side .supersede).enrol
                { kind := kind, side := some side, target := none, creep := false, origin := .station i, key := none
                  pred := none, seq := none })) := by
  have any : (s.plan.records.any fun r => r.side == some side && r.kind == kind) = true ↔
      ∃ y ∈ s.plan.records, y.side = some side ∧ y.kind = kind := by
    simp
  refine ⟨fun h => ?_, fun clear other => ⟨fun full => ?_, fun room => ?_⟩⟩
  · unfold State.keypadMove
    by_cases halted : s.halt.set = true
    · exact if_pos halted
    · rw [if_neg halted]
      exact if_pos (any.mpr (h.resolve_left halted))
  · rw [State.keypadMove, if_neg (by rw [clear]; nofun), if_neg (fun h => other (any.mp h))]
    exact if_neg (Nat.not_lt.mpr full)
  · rw [State.keypadMove, if_neg (by rw [clear]; nofun), if_neg (fun h => other (any.mp h))]
    exact if_pos room

/-- The release of a key of a pendant or platform other than STOP (R27). -/
theorem State.handRelease_hand {s : State} {i k : Fin 6} {r : Role} {a : Auth} (hr : r = .pendant a ∨ r = .platform a)
    (hk : k ≠ 0) :
    ((s.plan.records.find? fun y => y.origin == .station i && y.kind.isLift && (k == 1 || y.key == some k)) = none →
        s.handRelease i r k = s) ∧
      ∀ y, (s.plan.records.find? fun y => y.origin == .station i && y.kind.isLift && (k == 1 || y.key == some k)) = some y →
        s.handRelease i r k = s.endTree y.handle .stopped none := by
  refine ⟨fun none => ?_, fun y mine => ?_⟩
  · rcases hr with rfl | rfl <;> simp only [State.handRelease, if_neg hk, none]
  · rcases hr with rfl | rfl <;> simp only [State.handRelease, if_neg hk, mine]

/-- The RESET request at the end of its time (R30, R144). -/
theorem State.resetTimerExpiry_spec {s : State} {i : Fin 6} {t0 : Nat} (due : (s.bus.stations[i]).resetAt = some t0) :
    ∃ x : State, exec (.resetTimerExpiry i) s = .next x.conclude ∧ x.now = max s.now t0 ∧
      (x.bus.stations[i]).resetAt = none ∧
      (s.halt.set = true → s.halt.present = false → x.halt.set = false ∧ x.halt.first = none) ∧
      (s.halt.set = false ∨ s.halt.present = true → x.halt = s.halt) ∧
        x.plan.records.length = s.plan.records.length := by
  have c := s.passTo_counts t0
  set m := (s.passTo t0).setStation i { (s.passTo t0).bus.stations[i] with resetAt := none } with hm
  have row : exec (.resetTimerExpiry i) s = .next m.resetRequest.conclude := by
    show execResetTimerExpiry i s = _
    simp only [execResetTimerExpiry, due]
    rfl
  have halt : m.halt = s.halt := c.halt
  have station : (m.bus.stations[i]).resetAt = none := by
    rw [((s.passTo t0).setStation_spec i _).2.1]
  have now : m.now = max s.now t0 := s.passTo_now t0
  have length : m.plan.records.length = s.plan.records.length := by
    rw [← s.length_bare, ← c.bare, State.length_bare]
    rfl
  by_cases acts : m.halt.set = true ∧ m.halt.present = false
  · have eq : m.resetRequest = m.clearHalt := if_pos (by rw [acts.1, acts.2]; rfl)
    rw [eq] at row
    refine ⟨m.clearHalt, row, now, station, fun _ _ => ⟨rfl, rfl⟩, fun idle => ?_, length⟩
    rw [halt] at acts
    rcases idle with idle | idle
    · rw [acts.1] at idle
      cases idle
    · rw [acts.2] at idle
      cases idle
  · have eq : m.resetRequest = m := if_neg fun h => acts (by simpa using h)
    rw [eq] at row
    exact ⟨m, row, now, station, fun set present => absurd ⟨halt ▸ set, halt ▸ present⟩ acts, fun _ => halt, length⟩

theorem State.keyAsks_of {s : State} {k : Fin 6} {kind : Kind} {target : Option Int}
    (h : (k = 2 ∧ kind = .lift ∧ target = some s.settings.plain.bedHt) ∨ (k = 3 ∧ kind = .lift ∧ target = some 0) ∨
      (k = 4 ∧ s.cond .atBed = true ∧ kind = .stow ∧ target = none) ∨
      (k = 4 ∧ s.cond .atBed = false ∧ kind = .tilt ∧ target = some 150) ∨
      (k = 5 ∧ (∃ v, s.chanValue 1 = some v ∧ 800 ≤ v) ∧ kind = .unstow ∧ target = none) ∨
      (k = 5 ∧ (∃ v, s.chanValue 1 = some v ∧ v < 800) ∧ kind = .tilt ∧ target = some (-100))) :
    s.keyAsks k = some (kind, target) ∧ 2 ≤ k.val := by
  rcases h with ⟨rfl, rfl, rfl⟩ | ⟨rfl, rfl, rfl⟩ | ⟨rfl, bed, rfl, rfl⟩ | ⟨rfl, bed, rfl, rfl⟩ |
    ⟨rfl, ⟨v, value, high⟩, rfl, rfl⟩ | ⟨rfl, ⟨v, value, low⟩, rfl, rfl⟩
  · exact ⟨rfl, by decide⟩
  · exact ⟨rfl, by decide⟩
  · exact ⟨by simp [State.keyAsks, bed], by decide⟩
  · exact ⟨by simp [State.keyAsks, bed], by decide⟩
  · exact ⟨by simp [State.keyAsks, State.stowed, value, high], by decide⟩
  · exact ⟨by simp [State.keyAsks, State.stowed, value, low], by decide⟩

theorem direction_ne_stop {k : Fin 6} (h : 2 ≤ k.val) : (0 : Fin 6) ≠ k := by
  rintro rfl
  cases h

/-- Settles O55: a press or release of each role by the rule of its keys. -/
theorem stopAndResetKeys : Obligations.StopAndResetKeys := by
  refine ⟨⟨fun s i r ks => ⟨State.handPresses_stop_first s i r, fun a hr => State.handPresses_enable hr ks⟩,
    fun s i k e auth a b c d current entry role hk good fault present => ?_⟩,
    ⟨fun s i r a hr => ?_, fun s i side => ?_, fun s i => ⟨?_, ?_⟩⟩, fun s i r hr => ?_,
    fun s i t0 due => State.resetTimerExpiry_spec due⟩
  · intro old new one two counted
    obtain ⟨same, mine, others⟩ := s.setStation_spec i new
    exact ⟨s.setStation i new, same, mine, others, (State.report_follows _).bus,
      State.replyReceived_presses current entry role hk good fault present one two counted⟩
  · intro conflict enabled asks
    have hand {ks : List (Fin 6)} (h : (0 : Fin 6) ∉ ks) : s.handPresses i r ks = s.askDirections i a ks := by
      rw [State.handPresses_hand hr, State.stopPressed_not h]
    have one {k : Fin 6} (on : enabled) (hk : 2 ≤ k.val) : s.handPresses i r [k] = s.askMove i k a := by
      rw [hand (by simpa using direction_ne_stop hk), State.askDirections_one on hk]
    refine ⟨fun ks h off => by rw [hand h, State.askDirections_off off], fun on => ⟨?_, fun k l hk hl => ?_, fun noValue => ?_,
      fun k kind target ask => ?_⟩, fun k hk => ?_⟩
    · rw [hand (by decide), State.askDirections_none rfl]
    · rw [hand (by simpa using ⟨direction_ne_stop hk, direction_ne_stop hl⟩), State.askDirections_two on hk hl]
      exact s.conflict_spec i
    · rw [one on (by decide)]
      simp [State.askMove, State.keyAsks, noValue]
    · obtain ⟨keyAsks, hk⟩ := State.keyAsks_of ask
      obtain ⟨refused, halted, busy, free⟩ := State.askMove_spec s i k a keyAsks
      obtain ⟨kept, overridden⟩ := s.overrideLink_spec
      intro x mine
      have hx : x = s.askMove i k a := one on hk
      rw [hx]
      refine ⟨fun h => ?_, halted, fun h clear m => ?_, fun h clear m => ?_⟩
      · rw [refused h]
        exact s.conflict_spec i
      · rw [busy h clear (s.stationBusy_iff.mpr m)]
        exact s.conflict_spec i
      · obtain ⟨full, room⟩ := free h clear (by rw [Bool.eq_false_iff]; exact fun b => m (s.stationBusy_iff.mp b))
        refine ⟨s.overrideLink, kept, overridden, fun many => ?_, fun few => ?_⟩
        · rw [full many]
          exact s.conflict_spec i
        · rw [room few]
          obtain ⟨y, same, records, handle, kind', side, origin, key, target', pred, seq, since, state⟩ :=
            s.overrideLink.enrol_free (a := ⟨kind, none, target, false, .station i, some k, none, none⟩) rfl
          exact ⟨y, same, records, handle, kind', side, origin, key, target', pred, seq, since, state⟩
    · intro mine
      obtain ⟨idle, ends⟩ := State.handRelease_hand (s := s) (i := i) hr hk
      refine ⟨idle, fun y found good => ?_⟩
      rw [ends y found]
      have there := State.find_of_mem (State.handles_nodup good) (List.mem_of_find?_eq_some found)
      exact ⟨State.endTree_ends there _ _, fun sound holds => ((State.sound_iff s).mp sound).endTree_packFree holds _ _⟩
  · intro none_ ends conflict
    have ended (why : EndReason) : ends (s.endSide side why) why :=
      ⟨State.endSide_none why, s.endSide_follows side why, State.endSide_idle why,
        fun good y m hs => State.endSide_noted why (State.handles_nodup good) m hs,
        fun sound _ => ((State.sound_iff s).mp sound).endSide_channel why⟩
    have stop : s.handPresses i (.keypad side) [0] = s.endSide side .station := by
      simp [State.handPresses, State.askDoor]
    have both : s.handPresses i (.keypad side) [1, 2] = s.conflict i := by
      simp [State.handPresses, State.askDoor]
    refine ⟨fun _ => by rw [stop]; exact ended .station, by rw [both]; exact s.conflict_spec i, fun _ => rfl,
      fun k kind asked => ?_⟩
    have eq : s.handPresses i (.keypad side) [k] = s.keypadMove i kind side := by
      simp only [List.mem_cons, List.not_mem_nil, or_false, Prod.mk.injEq] at asked
      rcases asked with ⟨rfl, rfl⟩ | ⟨rfl, rfl⟩ <;> simp [State.handPresses, State.askDoor]
    intro x same
    have hx : x = s.keypadMove i kind side := eq
    rw [hx]
    obtain ⟨idle, acts⟩ := State.keypadMove_spec s i kind side
    refine ⟨idle, fun _ clear other => ⟨s.endSide side .supersede, ended .supersede, fun many => ?_, fun few => ?_⟩⟩
    · rw [(acts clear other).1 many]
      exact (s.endSide side .supersede).conflict_spec i
    · rw [(acts clear other).2 few]
      obtain ⟨y, same, records, handle, kind', side', origin, -, target, pred, -, -, state⟩ :=
        (s.endSide side .supersede).enrol_free (a := ⟨kind, some side, none, false, .station i, none, none, none⟩) rfl
      exact ⟨y, same, records, handle, kind', side', origin, target, pred, state⟩
  · exact s.setStation_map i fun x => { x with resetAt := some (s.now + 1000) }
  · exact s.setStation_map i fun x => { x with resetAt := none }
  · rw [State.handPresses_stop hr]
    refine ⟨s.raiseHalt_set _, s.raiseHalt_has (c := .station i) rfl, fun clear => ?_, ?_⟩
    · obtain ⟨first, empty⟩ := State.raiseHalt_first clear (.station i)
      exact ⟨empty, first⟩
    · cases r with
      | keypad side => exact absurd rfl (hr side)
      | pendant | platform | cab => rfl

end Sys2Proof.Machine
end

section
/-!
SUPPORT. The committed draw through the arbiter's looks (R49 to R51).
-/

namespace Sys2Proof.Machine

/-! ### Resources given up -/

/-- No resource is declared a greater draw in `t` than in `s`. -/
structure State.Frees (s t : State) : Prop where
  pack : drawOf t.arb.pack ≤ drawOf s.arb.pack
  near : drawOf t.arb.near ≤ drawOf s.arb.near
  off : drawOf t.arb.off ≤ drawOf s.arb.off

theorem State.Frees.refl (s : State) : s.Frees s := ⟨Nat.le_refl _, Nat.le_refl _, Nat.le_refl _⟩

theorem State.Frees.trans {s t u : State} (a : s.Frees t) (b : t.Frees u) : s.Frees u :=
  ⟨b.pack.trans a.pack, b.near.trans a.near, b.off.trans a.off⟩

theorem State.Frees.of_same {s t : State} (pack : t.arb.pack = s.arb.pack := by rfl) (near : t.arb.near = s.arb.near := by rfl)
    (off : t.arb.off = s.arb.off := by rfl) : s.Frees t := ⟨by rw [pack], by rw [near], by rw [off]⟩

theorem State.Frees.foldl {α : Type} (f : State → α → State) (hf : ∀ (s : State) (x : α), s.Frees (f s x)) (xs : List α)
    (s : State) : s.Frees (xs.foldl f s) :=
  List.foldlRecOn xs f (motive := s.Frees) (.refl s) fun _ ht x _ => ht.trans (hf _ x)

theorem State.Frees.committed {s t : State} (h : s.Frees t) : t.committed ≤ s.committed := by
  obtain ⟨pack, near, off⟩ := h
  unfold State.committed
  omega

theorem State.Counts.frees {s t : State} (c : s.Counts t) : s.Frees t := by
  rw [c.rest]
  exact .of_same

theorem State.stopOutputs_frees (s : State) (r : Record) : s.Frees (s.stopOutputs r) := by
  unfold State.stopOutputs
  split
  · next side _ =>
    split
    · cases side <;> exact .of_same
    · exact .refl s
  · split
    · exact .of_same s.leaveRun_pack (s.leaveRun_channel .near) (s.leaveRun_channel .off)
    · exact .refl s

theorem State.release_frees (s : State) (r : Record) (moved : Bool) : s.Frees (s.release r moved) := by
  have channel (side : Side) : s.Frees { s with arb := s.arb.setChannel side none } := by
    cases side
    · exact ⟨Nat.le_refl _, Nat.zero_le _, Nat.le_refl _⟩
    · exact ⟨Nat.le_refl _, Nat.le_refl _, Nat.zero_le _⟩
  unfold State.release
  split
  · next side _ =>
    split
    · cases moved
      · exact channel side
      · cases side <;> exact (channel _).trans .of_same
    · exact .refl s
  · split
    · cases moved <;> exact ⟨Nat.zero_le _, Nat.le_refl _, Nat.le_refl _⟩
    · exact .refl s

theorem State.endOne_frees (s : State) (k : Handle) (o : RecOutcome) (why : Option EndReason) :
    s.Frees (s.endOne k o why) := by
  cases hr : s.find k with
  | none =>
    rw [State.endOne_absent hr]
    exact .refl s
  | some r =>
    rw [State.endOne_eq hr]
    have listed : (s.stopOutputs r).Frees (s.listed r o why) := .of_same
    exact ((s.stopOutputs_frees r).trans (listed.trans (State.release_frees _ _ _))).trans
      (State.count_counts _ _ _ _ _).frees

theorem State.endChain_frees : ∀ (fuel : Nat) (s : State) (k : Handle) (o : RecOutcome) (why : Option EndReason),
    s.Frees (s.endChain fuel k o why)
  | 0, s, _, _, _ => .refl s
  | fuel + 1, s, k, o, why => by
    have later := (s.endOne_frees k o why).trans (State.Frees.foldl
      (fun t j => State.endChain fuel t j .cancelled (some .pred)) (fun t j => State.endChain_frees fuel t j _ _)
      (s.successors k) (s.endOne k o why))
    unfold State.endChain
    cases o with
    | done =>
      exact (s.endOne_frees k .done why).trans (State.Frees.foldl State.freePred (fun _ _ => .of_same) _ _)
    | stopped => exact later
    | failed => exact later
    | cancelled => exact later

theorem State.endTree_frees (s : State) (k : Handle) (o : RecOutcome) (why : Option EndReason) :
    s.Frees (s.endTree k o why) := State.endChain_frees _ s k o why

theorem State.enterRunning_frees (s : State) (h : Handle) : s.Frees (s.enterRunning h) := by
  unfold State.enterRunning
  split
  · dsimp only
    split
    · exact State.Frees.trans .of_same (State.count_counts _ _ _ _ _).frees
    · exact .of_same
  · exact .refl s

theorem State.afterGrant_frees (s : State) (h : Handle) (pump : Bool) : s.Frees (s.afterGrant h pump) := by
  unfold State.afterGrant
  split
  · split
    · exact .of_same
    · exact s.enterRunning_frees h
  · exact .of_same

theorem State.setWaits_frees (s : State) (rs : List Record) (w : WaitReason) : s.Frees (s.setWaits rs w) :=
  State.Frees.foldl (fun (t : State) (r : Record) => t.setWait r.handle w) (fun _ _ => .of_same) rs s

theorem State.setWaits_committed (s : State) (rs : List Record) (w : WaitReason) : (s.setWaits rs w).committed ≤ s.committed :=
  (s.setWaits_frees rs w).committed

theorem State.enterPhase_frees (s : State) (side : Side) (p : Phase) : s.Frees (s.enterPhase side p) := by
  cases side <;> exact .of_same

/-! ### Grants and looks (R50, R51) -/

/-- The pack granted to a record, before it moves (R9, R53). -/
def State.granted (s : State) (r : Record) : State :=
  { s.upd r.handle (s.grantRecord (s.provisional r)) with
    arb := { s.arb with pack := some ⟨r.handle, s.packDraw (s.provisional r)⟩ }
    axis := { s.axis with run := some (Run.fresh ((s.aim r).getD 0) (s.provisional r) (r.kind == Kind.lift)) } }

theorem State.grantPack_eq (s : State) (r : Record) :
    s.grantPack r =
      if s.alreadyThere r.kind ((s.aim r).getD 0) (s.reported r.kind.axisChan) then
        (s.granted r).endTree r.handle .done none
      else (s.granted r).afterGrant r.handle (s.provisional r) := rfl

theorem State.grantPack_committed {s : State} (free : s.arb.pack = none) (r : Record) :
    (s.grantPack r).committed ≤ s.committed + s.packDraw (s.provisional r) := by
  have now : (s.granted r).committed = s.committed + s.packDraw (s.provisional r) := by
    simp only [State.committed, State.granted, free, drawOf]
    omega
  rw [State.grantPack_eq, ← now]
  split
  · exact (State.endTree_frees _ _ _ _).committed
  · exact (State.afterGrant_frees _ _ _).committed

theorem State.grantDoor_committed {s : State} {side : Side} (free : s.arb.channel side = none) (r : Record) :
    (s.grantDoor side r).committed ≤ s.committed + s.settings.plain.doorDraw.toNat := by
  have now : State.committed
      { s.upd r.handle (fun r => { r with state := .running, wait := none, start := some (.door (s.door side).state) }) with
        arb := s.arb.setChannel side (some ⟨r.handle, s.settings.plain.doorDraw.toNat⟩) } =
      s.committed + s.settings.plain.doorDraw.toNat := by
    cases side
    · have free : s.arb.near = none := free
      simp only [State.committed, Arbiter.setChannel, free, drawOf]
      omega
    · have free : s.arb.off = none := free
      simp only [State.committed, Arbiter.setChannel, free, drawOf]
      omega
  rw [← now]
  unfold State.grantDoor
  dsimp only
  split
  · exact (State.enterPhase_frees _ _ _).committed
  · exact (State.endTree_frees _ _ _ _).committed

/-- Waits set in the table: every record of the list waits with the reason, and nothing else changes. -/
theorem State.setWaits_eq (w : WaitReason) : ∀ (rs : List Record) (s : State),
    s.setWaits rs w =
      { s with
        plan :=
          { s.plan with
            records := s.plan.records.map fun y => if y.handle ∈ handlesOf rs then { y with wait := some w } else y } }
  | [], s => by
    simp [State.setWaits, handlesOf]
  | r :: rs, s => by
    have step : s.setWaits (r :: rs) w = (s.setWait r.handle w).setWaits rs w := rfl
    rw [step, State.setWaits_eq w rs]
    simp only [State.setWait, State.upd, List.map_map]
    congr 2
    refine List.map_congr_left fun y _ => ?_
    by_cases e : y.handle = r.handle
    · simp [e, handlesOf]
    · simp [e, handlesOf]

/-- What a look reads of the state but the table is the same after waits are set. -/
theorem State.setWaits_same (s : State) (rs : List Record) (w : WaitReason) :
    s.setWaits rs w = { s with plan := (s.setWaits rs w).plan } := by
  rw [State.setWaits_eq]

theorem State.setWaits_provisional (s : State) (rs : List Record) (w : WaitReason) (r : Record) :
    (s.setWaits rs w).provisional r = s.provisional r := by
  rw [State.setWaits_same]
  rfl

theorem State.setWaits_packDraw (s : State) (rs : List Record) (w : WaitReason) (pump : Bool) :
    (s.setWaits rs w).packDraw pump = s.packDraw pump := by
  rw [State.setWaits_same]
  rfl

/-- A look at the pack raises the committed draw to no more than the limit (R50). -/
theorem State.lookPack_committed (s : State) : (s.lookPack.committed : Int) ≤ max (s.committed : Int) s.limit := by
  unfold State.lookPack
  split
  · omega
  · next r rest _ =>
    have waits (w : WaitReason) : ((s.setWaits rest .pack).setWait r.handle w).committed ≤ s.committed :=
      s.setWaits_committed rest .pack
    dsimp only
    split
    · have := waits .pack
      omega
    · next free =>
      split
      · have := waits .reserve
        omega
      · split
        · have := waits .budget
          omega
        · next fits =>
          have arb : (s.setWaits rest .pack).arb = s.arb := by rw [State.setWaits_same]
          have grant := State.grantPack_committed (s := s.setWaits rest .pack) (by rw [arb]; simpa using free) r
          rw [State.setWaits_provisional, State.setWaits_packDraw] at grant
          have := s.setWaits_committed rest .pack
          omega

/-- A look at a door channel raises the committed draw to no more than the limit (R50). -/
theorem State.lookDoor_committed (s : State) (side : Side) :
    ((s.lookDoor side).committed : Int) ≤ max (s.committed : Int) s.limit := by
  unfold State.lookDoor
  split
  · omega
  · next r rest _ =>
    have waits (w : WaitReason) : ((s.setWaits rest .channel).setWait r.handle w).committed ≤ s.committed :=
      s.setWaits_committed rest .channel
    dsimp only
    split
    · have := waits .channel
      omega
    · next free =>
      split
      · have := waits .budget
        omega
      · next fits =>
        have same := s.setWaits_same rest .channel
        have arb : (s.setWaits rest .channel).arb = s.arb := by rw [same]
        have settings : (s.setWaits rest .channel).settings = s.settings := by rw [same]
        have grant := State.grantDoor_committed (s := s.setWaits rest .channel) (side := side)
          (by rw [arb]; simpa using free) r
        rw [settings] at grant
        have := s.setWaits_committed rest .channel
        rw [Bool.not_eq_true, Bool.or_eq_false_iff, decide_eq_false_iff_not] at fits
        omega

theorem State.Follows.limit {s t : State} (h : s.Follows t) : t.limit = s.limit := by
  unfold State.limit State.engineOn
  rw [h.settings, h.inputs]

theorem State.lookOnce_committed (s : State) : (s.lookOnce.committed : Int) ≤ max (s.committed : Int) s.limit := by
  have pack := s.lookPack_committed
  have near := s.lookPack.lookDoor_committed .near
  have off := (s.lookPack.lookDoor .near).lookDoor_committed .off
  rw [s.lookPack_follows.limit] at near
  rw [(State.lookDoor_follows _ _).limit, s.lookPack_follows.limit] at off
  have eq : s.lookOnce = (s.lookPack.lookDoor .near).lookDoor .off := rfl
  rw [eq]
  omega

/-- The looks of an event raise the committed draw to no more than the limit (R50). -/
theorem State.looks_committed : ∀ (fuel : Nat) (s : State), ((s.looks fuel).committed : Int) ≤ max (s.committed : Int) s.limit
  | 0, s => by
    show (s.committed : Int) ≤ _
    omega
  | fuel + 1, s => by
    have once := s.lookOnce_committed
    unfold State.looks
    dsimp only
    split
    · have more := State.looks_committed fuel s.lookOnce
      rw [s.lookOnce_follows.limit] at more
      omega
    · exact once

end Sys2Proof.Machine
end

section
/-!
The arbiter's looks (O8): the budget, the first candidate of each resource and what its grant does, in the terms of R9 and R49
to R54.
-/

namespace Sys2Proof.Machine

/-! ### Candidates (R52, R54) -/

/-- The tail-lift records in `WAITING`, in admission order. -/
def State.packWaiting (s : State) : List Record := s.plan.records.filter fun r => r.kind.isLift && r.state == .waiting

theorem Record.isStation_eq (r : Record) : r.isStation = (r.origin != .link) := by
  unfold Record.isStation
  cases r.origin <;> rfl

theorem State.packCandidates_eq (s : State) :
    s.packCandidates =
      (s.packWaiting.filter fun r => r.origin != .link) ++ s.packWaiting.filter fun r => !(r.origin != .link) := by
  have : Record.isStation = fun r : Record => r.origin != .link := funext Record.isStation_eq
  unfold State.packCandidates State.packWaiting
  rw [this]

/-- The first candidate is the oldest station record, before the oldest link record (R52). -/
theorem State.packCandidates_head (s : State) :
    s.packCandidates.head? = (s.packWaiting.find? fun r => r.origin != .link).or s.packWaiting.head? := by
  rw [State.packCandidates_eq, List.head?_append, List.head?_filter]
  cases h : s.packWaiting.find? fun r => r.origin != .link with
  | some r => rfl
  | none =>
    have all : (s.packWaiting.filter fun r => !(r.origin != .link)) = s.packWaiting :=
      List.filter_eq_self.mpr fun r m => by simpa using List.find?_eq_none.mp h r m
    rw [all]

theorem State.mem_packCandidates {s : State} {r : Record} : r ∈ s.packCandidates ↔ r ∈ s.packWaiting := by
  rw [State.packCandidates_eq, List.mem_append, List.mem_filter, List.mem_filter]
  cases r.origin != .link <;> simp

theorem State.budgetHeld_iff (s : State) :
    s.budgetHeld = true ↔ ∃ r, s.packCandidates.head? = some r ∧ r.wait = some .budget := by
  unfold State.budgetHeld
  cases s.packCandidates <;> simp

/-! ### Waits in a look -/

/-- The state in which the candidates wait, the first of them for its own reason (R52, R54). -/
def State.waitAll (s : State) (waiting : List Record) (h : Handle) (first : Option WaitReason) (others : WaitReason) : State :=
  { s with
    plan :=
      { s.plan with
        records :=
          s.plan.records.map fun y =>
            if y ∈ waiting then { y with wait := if y.handle = h then first.or y.wait else some others } else y } }

/-- Candidates with their first one, drawn from a table with distinct handles. -/
structure State.Candidates (s : State) (waiting : List Record) (r : Record) (rest : List Record) : Prop where
  nodup : s.handles.Nodup
  there : ∀ y ∈ waiting, y ∈ s.plan.records
  members : ∀ y, y ∈ r :: rest ↔ y ∈ waiting
  apart : r ∉ rest

section
variable {s : State} {waiting rest : List Record} {r : Record} (c : s.Candidates waiting r rest)
include c

theorem State.Candidates.self : r ∈ waiting := (c.members r).mp (List.mem_cons_self ..)

theorem State.Candidates.mine {y : Record} (my : y ∈ s.plan.records) : y.handle = r.handle ↔ y = r :=
  ⟨List.inj_on_of_nodup_map c.nodup my (c.there r c.self), fun e => e ▸ rfl⟩

theorem State.Candidates.find : s.find r.handle = some r := State.find_of_mem c.nodup (c.there r c.self)

theorem State.Candidates.inRest {y : Record} (my : y ∈ s.plan.records) : y.handle ∈ handlesOf rest ↔ y ∈ rest := by
  rw [mem_handlesOf]
  constructor
  · rintro ⟨z, mz, e⟩
    have mz' := c.there z ((c.members z).mp (List.mem_cons_of_mem _ mz))
    exact List.inj_on_of_nodup_map c.nodup mz' my e ▸ mz
  · exact fun m => ⟨y, m, rfl⟩

/-- The waits that a look sets before it grants, read off the table (R52, R54). -/
theorem State.Candidates.setWaits (others : WaitReason) :
    s.setWaits rest others = s.waitAll waiting r.handle none others := by
  rw [State.setWaits_eq, State.waitAll]
  refine congrArg (fun rs : List Record => ({ s with plan := { s.plan with records := rs } } : State))
    (List.map_congr_left fun y my => ?_)
  by_cases e : y = r
  · subst e
    rw [if_neg (fun m => c.apart ((c.inRest my).mp m)), if_pos c.self, if_pos rfl]
    rfl
  · have ne : ¬y.handle = r.handle := fun h => e ((c.mine my).mp h)
    have same : y ∈ waiting ↔ y.handle ∈ handlesOf rest := by
      rw [c.inRest my, ← c.members y, List.mem_cons]
      exact ⟨fun h => h.resolve_left e, .inr⟩
    simp only [same, if_neg ne]

/-- The waits that a look sets when its first candidate waits as well (R52, R54). -/
theorem State.Candidates.setWait (others w : WaitReason) :
    (s.setWaits rest others).setWait r.handle w = s.waitAll waiting r.handle (some w) others := by
  rw [c.setWaits, State.setWait, State.upd, State.waitAll, State.waitAll]
  simp only [List.map_map]
  congr 2
  refine List.map_congr_left fun y my => ?_
  by_cases e : y = r
  · subst e
    simp [c.self]
  · have ne : ¬y.handle = r.handle := fun h => e ((c.mine my).mp h)
    by_cases m : y ∈ waiting <;> simp [m, ne]

theorem State.Candidates.find_waitAll (others : WaitReason) :
    (s.waitAll waiting r.handle none others).find r.handle = some r := by
  have f : ∀ y ∈ s.plan.records, (y.handle == r.handle) = true → y = r := fun y my e =>
    (c.mine my).mp (by simpa using e)
  have found : (s.waitAll waiting r.handle none others).find r.handle = (s.find r.handle).map fun y =>
      if y ∈ waiting then { y with wait := if y.handle = r.handle then none.or y.wait else some others } else y := by
    unfold State.find State.waitAll
    rw [List.find?_map]
    congr 2
    funext y
    simp only [Function.comp]
    split <;> rfl
  rw [found, c.find, Option.map_some, if_pos c.self, if_pos rfl]
  rfl

end

theorem State.packCandidates_of {s : State} (nd : s.handles.Nodup) {r : Record}
    (h : (s.packWaiting.find? fun r => r.origin != .link).or s.packWaiting.head? = some r) :
    ∃ rest, s.packCandidates = r :: rest ∧ s.Candidates s.packWaiting r rest := by
  rw [← State.packCandidates_head, List.head?_eq_some_iff] at h
  obtain ⟨rest, h⟩ := h
  have all : s.packWaiting.Nodup := (List.Nodup.of_map _ nd).filter _
  have nodup : s.packCandidates.Nodup := by
    rw [State.packCandidates_eq, List.nodup_append]
    refine ⟨all.filter _, all.filter _, fun y my z mz e => ?_⟩
    rw [List.mem_filter] at my mz
    rw [e] at my
    simp [my.2] at mz
  rw [h, List.nodup_cons] at nodup
  exact ⟨rest, h, nd, fun y my => List.mem_of_mem_filter my, fun y => by rw [← h]; exact State.mem_packCandidates, nodup.1⟩

/-! ### A look at the pack (R52, R53) -/

theorem State.lookPack_eq {s : State} {r : Record} {rest : List Record} (h : s.packCandidates = r :: rest)
    (c : s.Candidates s.packWaiting r rest) :
    s.lookPack =
      if s.arb.pack.isSome then s.waitAll s.packWaiting r.handle (some .pack) .pack
      else if s.provisional r && s.supply.state != .normal then s.waitAll s.packWaiting r.handle (some .reserve) .pack
      else if s.limit < s.committed + s.packDraw (s.provisional r) then
        s.waitAll s.packWaiting r.handle (some .budget) .pack
      else (s.waitAll s.packWaiting r.handle none .pack).grantPack r := by
  unfold State.lookPack
  rw [h]
  dsimp only
  rw [c.setWait, c.setWait, c.setWait, c.setWaits]

/-- Waits with a reason for the first candidate, in the words of R52. -/
theorem State.waitAll_some (s : State) (waiting : List Record) (h : Handle) (w others : WaitReason) :
    s.waitAll waiting h (some w) others =
      { s with
        plan :=
          { s.plan with
            records :=
              s.plan.records.map fun y =>
                if y ∈ waiting then { y with wait := some (if y.handle = h then w else others) } else y } } := by
  unfold State.waitAll
  refine congrArg (fun rs : List Record => ({ s with plan := { s.plan with records := rs } } : State))
    (List.map_congr_left fun y _ => ?_)
  by_cases e : y.handle = h <;> simp [e]

theorem State.quit_beac {s : State} {r : Record} (still : s.movedBy r = false) (o : RecOutcome) (why : Option EndReason) :
    (s.quit r o why).beac = s.beac := by
  have release (t : State) : (t.release r false).beac = t.beac := by
    unfold State.release
    cases r.side with
    | some side => by_cases h : t.holdsDoor side r.handle <;> simp [h]
    | none => by_cases h : t.holdsPack r.handle <;> simp [h]
  rw [State.quit, still, release, State.listed, s.stopOutputs_same]
  rfl

/-- A record that is already there ends `DONE` at its grant: the pack is free again, and nothing has moved (R73, R149). -/
theorem State.granted_ends {s : State} {r : Record} (f : s.find r.handle = some r) (waiting : r.state = .waiting)
    (side : r.side = none) (free : s.packFree) :
    s.Ends ((s.granted r).endTree r.handle .done none) r .done none ∧
      ((s.granted r).endTree r.handle .done none).packFree ∧ ((s.granted r).endTree r.handle .done none).beac = s.beac := by
  obtain ⟨-, -, valves, contactor⟩ := free
  set y := s.grantRecord (s.provisional r) r with hy
  have found : (s.granted r).find y.handle = some y := State.find_upd f _ rfl
  have holds : (s.granted r).holdsPack y.handle = true := beq_self_eq_true _
  have rests : y.state ≠ .running := by
    rw [show y.state = r.state from rfl, waiting]
    nofun
  have still : (s.granted r).movedBy y = false := by
    rw [State.movedBy, show y.side = none from side, show y.state = .waiting from waiting]
    exact Bool.and_false _
  have ends := State.endTree_ends found .done none
  obtain ⟨arb, axis, -⟩ := State.quit_packHolder .done none (show y.side = none from side) holds
  rw [State.stopOutputs_still (show y.side = none from side) rests] at arb axis
  have quit : ((s.granted r).quit y .done none).packFree := by
    rw [State.packFree, arb, axis]
    exact ⟨rfl, rfl, valves, contactor⟩
  have beac := State.quit_beac still .done none
  refine ⟨ends.since .quiet rfl rfl ?_, ?_⟩
  · unfold State.endPos
    rw [show y.side = none from side, side]
    rfl
  · refine State.endTree_induction (P := fun t => t.packFree ∧ t.beac = s.beac) ?_ (fun t j h => h) fun h => absurd rfl h
    have one := State.endOne_eq found .done none
    rw [show y.handle = r.handle from rfl] at one
    rw [one]
    have counts := ((s.granted r).quit y .done none).count_counts
      (endSources y ⟨.done, none, (s.granted r).endPos y⟩ ((s.granted r).ranBy y)) (some y.origin) y.side
      ((s.granted r).quit y .done none).axis.lastLoad
    exact ⟨counts.packFree quit, counts.beac.trans beac⟩

/-- What becomes of a record that is granted the pack and is not already there (R9, R71 to R73). -/
structure State.GrantMoves (s x : State) (r y : Record) (run : Run) : Prop where
  find : x.find r.handle = some y
  axis : x.axis.run = some run
  pack : x.arb.pack = some ⟨r.handle, s.packDraw (s.provisional r)⟩
  trail : x.beac.rearTrail = none
  start : r.side = none → y.start = some (.value (s.reported r.kind.axisChan))
  pump : y.pump = some (s.provisional r)
  target : run.target = (s.aim r).getD 0
  dir : run.dir = if s.provisional r then .up else .down
  driven : run.pump = s.provisional r
  lift : run.lift = (r.kind == .lift)
  level : r.kind = .level → y.target = s.aim r
  leads : s.beac.rearTrail = none →
    y.state = .lead ∧ y.wait = none ∧ y.leadEnd = some (s.now + s.settings.plain.leadMs.toNat)
  rests : s.beac.rearTrail.isSome → s.provisional r = true → s.resting = true → y.state = .lead ∧ y.wait = some .rest
  runs : s.beac.rearTrail.isSome → (s.provisional r = false ∨ s.resting = false) →
    y.state = .running ∧ y.wait = none ∧ x = (s.granted r).enterRunning r.handle

theorem State.grantRecord_start (s : State) (pump : Bool) {r : Record} (side : r.side = none) :
    (s.grantRecord pump r).start = some (.value (s.reported r.kind.axisChan)) := by
  simp [State.grantRecord, State.posOf, side]

theorem State.grantRecord_target (s : State) (pump : Bool) {r : Record} (level : r.kind = .level) :
    (s.grantRecord pump r).target = s.aim r := if_pos level

theorem State.granted_moves {s : State} {r : Record} (f : s.find r.handle = some r) :
    ∃ y run, s.GrantMoves ((s.granted r).afterGrant r.handle (s.provisional r)) r y run := by
  have found : (s.granted r).find r.handle = some (s.grantRecord (s.provisional r) r) := State.find_upd f _ rfl
  have holds : (s.granted r).holdsPack r.handle = true := beq_self_eq_true _
  set fresh := Run.fresh ((s.aim r).getD 0) (s.provisional r) (r.kind == Kind.lift) with hfresh
  have axis : (s.granted r).axis.run = some fresh := rfl
  have start := s.grantRecord_start (s.provisional r) (r := r)
  have target := s.grantRecord_target (s.provisional r) (r := r)
  have trail : (s.granted r).beac = s.beac := rfl
  have resting : (s.granted r).resting = s.resting := rfl
  unfold State.afterGrant
  rw [trail, resting]
  by_cases trails : s.beac.rearTrail.isSome = true
  · rw [if_pos trails]
    by_cases waits : s.provisional r = true ∧ s.resting = true
    · rw [if_pos (by rw [waits.1, waits.2]; rfl)]
      refine ⟨_, fresh, State.find_upd found (fun y => { y with state := .lead, wait := some .rest, leadEnd := none }) rfl,
        axis, rfl, rfl, start, rfl, rfl, rfl, rfl, rfl, target, fun none => ?_, fun _ _ _ => ⟨rfl, rfl⟩, fun _ other => ?_⟩
      · rw [none] at trails
        cases trails
      · rcases other with other | other
        · rw [waits.1] at other
          cases other
        · rw [waits.2] at other
          cases other
    · rw [if_neg (by rw [Bool.and_eq_true]; exact waits)]
      obtain ⟨cls, derated, begins, -⟩ := State.enterRunning_begins found axis holds
      refine ⟨_, _, begins.find, begins.axis, ?_, ?_, start, rfl, rfl, rfl, rfl, rfl, target, fun none => ?_,
        fun _ pump rest => absurd ⟨pump, rest⟩ waits, fun _ _ => ⟨rfl, rfl, rfl⟩⟩
      · rw [begins.arb, State.begun]
        dsimp only
        split <;> rfl
      · rw [begins.beac]
      · rw [none] at trails
        cases trails
  · rw [if_neg trails]
    rw [Option.isSome_iff_ne_none, ne_eq, not_not] at trails
    refine ⟨_, fresh, State.find_upd found (fun y =>
        { y with state := .lead, wait := none, leadEnd := some (s.now + s.settings.plain.leadMs.toNat) }) rfl,
      axis, rfl, trails, start, rfl, rfl, rfl, rfl, rfl, target, fun _ => ⟨rfl, rfl, rfl⟩, fun some => ?_, fun some => ?_⟩
    · rw [trails] at some
      cases some
    · rw [trails] at some
      cases some

/-- The already-there test (R73). -/
theorem State.alreadyThere_iff (s : State) (k : Kind) (target pos : Int) :
    s.alreadyThere k target pos = true ↔
      match k with
      | .lift => target - s.settings.plain.liftTol ≤ pos ∧ pos ≤ target + s.settings.plain.liftTol
      | .tilt | .level => target - s.settings.plain.tiltTol ≤ pos ∧ pos ≤ target + s.settings.plain.tiltTol
      | .stow => s.settings.plain.stowAng - s.settings.plain.tiltTol ≤ pos
      | .unstow => pos ≤ s.settings.plain.tiltTol
      | .doorOpen | .doorShut => False := by
  cases k <;> simp [State.alreadyThere, within, Plain.tolerance]

/-! ### A look at a door channel (R54) -/

theorem State.lookDoor_eq {s : State} {side : Side} {r : Record} {rest : List Record}
    (h : s.doorCandidates side = r :: rest) (c : s.Candidates (s.doorCandidates side) r rest) :
    s.lookDoor side =
      if (s.arb.channel side).isSome then s.waitAll (s.doorCandidates side) r.handle (some .channel) .channel
      else if s.limit < s.committed + s.settings.plain.doorDraw.toNat || s.budgetHeld then
        s.waitAll (s.doorCandidates side) r.handle (some .budget) .channel
      else (s.waitAll (s.doorCandidates side) r.handle none .channel).grantDoor side r := by
  rw [← c.setWait, ← c.setWait, ← c.setWaits]
  unfold State.lookDoor
  rw [h]

theorem State.doorCandidates_of {s : State} (nd : s.handles.Nodup) {side : Side} {r : Record} {rest : List Record}
    (h : s.doorCandidates side = r :: rest) : s.Candidates (s.doorCandidates side) r rest := by
  have nodup : (s.doorCandidates side).Nodup := (List.Nodup.of_map _ nd).filter _
  refine ⟨nd, fun y my => List.mem_of_mem_filter my, fun y => by rw [h], ?_⟩
  rw [h] at nodup
  exact (List.nodup_cons.mp nodup).1

/-! ### The statement -/

/-- Settles O8: the budget by `State.looks_committed`, and a look's branches by `State.lookPack_eq` and
`State.lookDoor_eq`. -/
theorem lookKeepsBudget : Obligations.LookKeepsBudget := by
  refine ⟨fun s => ⟨s.look_follows.limit, State.looks_committed _ s⟩, fun s good => ?_, fun s side good => ?_⟩
  · intro waiting first
    have nd := State.handles_nodup good
    refine ⟨fun none => ?_, fun r found => ?_⟩
    · have empty : s.packCandidates = [] := List.head?_eq_none_iff.mp (s.packCandidates_head.trans none)
      unfold State.lookPack
      rw [empty]
    · obtain ⟨rest, h, c⟩ := State.packCandidates_of nd found
      have look := State.lookPack_eq h c
      intro pump draw pos waits
      have may : pump = false ∨ s.supply.state = .normal → ¬(s.provisional r && s.supply.state != .normal) = true := by
        rintro (off | normal)
        · rw [show s.provisional r = false from off]
          nofun
        · rw [normal, Bool.and_comm]
          nofun
      have busy (free : s.arb.pack = none) : ¬s.arb.pack.isSome = true := by rw [free]; nofun
      refine ⟨fun held => ?_, fun free on low => ?_, fun free ok exceeds => ?_, fun target free ok fits aim => ?_⟩
      · exact (look.trans (if_pos held)).trans (State.waitAll_some _ _ _ _ _)
      · rw [if_neg (busy free), if_pos (by rw [show s.provisional r = true from on]; simpa using low)] at look
        exact look.trans (State.waitAll_some _ _ _ _ _)
      · rw [if_neg (busy free), if_neg (may ok)] at look
        exact (look.trans (if_pos exceeds)).trans (State.waitAll_some _ _ _ _ _)
      · set q := s.waitAll s.packWaiting r.handle none .pack with hq
        have grant : s.lookPack = q.grantPack r := by
          rw [look, if_neg (busy free), if_neg (may ok)]
          exact if_neg (Int.not_lt.mpr fits)
        have f : q.find r.handle = some r := c.find_waitAll .pack
        have aims : (q.aim r).getD 0 = target := by
          rw [show q.aim r = s.aim r from rfl, aim]
          rfl
        rw [State.grantPack_eq, aims] at grant
        have test := q.alreadyThere_iff r.kind target (q.reported r.kind.axisChan)
        have waits : r.kind.isLift = true ∧ r.state = .waiting := by
          simpa using (List.mem_filter.mp c.self).2
        intro p there
        refine ⟨fun arrived sound => ?_, fun away => ?_⟩
        · rw [if_pos (test.mpr arrived)] at grant
          have sound := (State.sound_iff s).mp sound
          obtain ⟨kind, -, -⟩ := (s.recordSound_iff r).mp (sound.records r (c.there r c.self))
          have side : r.side = none := Option.isNone_iff_eq_none.mp (kind.symm.trans waits.1)
          have idle : q.packFree := by
            rcases sound.pack with idle | ⟨x, run, y, held⟩
            · exact idle
            · rw [held.pack] at free
              cases free
          obtain ⟨ends, empty, beac⟩ := State.granted_ends f waits.2 side idle
          rw [← grant] at ends empty beac
          exact ⟨ends.since .quiet rfl rfl rfl, empty, beac⟩
        · rw [if_neg fun h => away (test.mp h)] at grant
          obtain ⟨y, run, moves⟩ := State.granted_moves f
          rw [← grant] at moves
          refine ⟨y, run, moves.find, moves.axis, moves.pack, moves.trail, moves.start, moves.pump,
            moves.target.trans aims, moves.dir, moves.driven, moves.lift, fun level => (moves.level level).trans aim,
            moves.leads, moves.rests, fun trails go => ?_⟩
          obtain ⟨state, wait, eq⟩ := moves.runs trails go
          exact ⟨state, wait, q.granted r, rfl, eq⟩
  · intro waiting all draw
    refine ⟨?_, fun none => ?_, fun r rest h => ?_⟩
    · rw [State.budgetHeld_iff, State.packCandidates_head]
      rfl
    · unfold State.lookDoor
      rw [show s.doorCandidates side = [] from none]
    · have look := State.lookDoor_eq h (State.doorCandidates_of (State.handles_nodup good) h)
      have busy (free : s.arb.channel side = none) : ¬(s.arb.channel side).isSome = true := by rw [free]; nofun
      refine ⟨fun held => look.trans (if_pos held), fun free waits => ?_, fun free fits open_ => ?_⟩
      · rw [if_neg (busy free)] at look
        refine look.trans (if_pos ?_)
        rw [Bool.or_eq_true, decide_eq_true_eq]
        exact waits
      · rw [if_neg (busy free)] at look
        refine look.trans (if_neg ?_)
        rw [Bool.or_eq_true, decide_eq_true_eq, open_]
        rintro (exceeds | held)
        · exact Int.not_lt.mpr fits exceeds
        · cases held

end Sys2Proof.Machine
end

section
/-!
The road speed and the drive-away flag (O48), in the terms of R34 and R47.
-/

namespace Sys2Proof.Machine

/-! ### The drive-away test (R47) -/

theorem State.stowed_iff (s : State) : s.stowed = true ↔ ∃ t, s.chanValue 1 = some t ∧ 800 ≤ t := by
  unfold State.stowed
  cases s.chanValue 1 <;> simp

theorem State.drivesAway_iff (s : State) :
    s.drivesAway = true ↔
      (∃ v, s.eval.speed = some v ∧ 50 ≤ v) ∧
        (s.near.state ≠ .shut ∨ s.off.state ≠ .shut ∨ ¬∃ t, s.chanValue 1 = some t ∧ 800 ≤ t) := by
  rw [← State.stowed_iff]
  unfold State.drivesAway
  cases s.eval.speed <;> simp [or_assoc]

/-- The flag is the test, and only its setting queues a notice (R47). -/
theorem State.driveAway_spec (s : State) :
    s.driveAway.eval.driveAway = s.drivesAway ∧
      s.driveAway.notes =
        if s.drivesAway = true ∧ s.eval.driveAway = false then
          s.notes.push (.driveAway (s.eval.speed.getD 0) s.near.state s.off.state (s.reported 1))
        else s.notes := by
  unfold State.driveAway
  cases s.drivesAway <;> cases s.eval.driveAway <;> exact ⟨rfl, rfl⟩

/-! ### The computation (R34) -/

theorem State.computeSpeed_speed (s : State) :
    s.computeSpeed.eval.speed =
      some (min 2550 ((s.eval.edges.filter fun e => decide (s.now ≤ e + 1000)).length * 36000 /
        s.settings.plain.ppk.toNat)) := rfl

theorem State.computeSpeed_edges (s : State) : s.computeSpeed.eval.edges = s.eval.edges := rfl

/-! ### The statement -/

/-- Settles O48: the edges and the computation are `State.edge` and `State.computeSpeed`, which time passing before leaves
what they read; the flag is `State.driveAway_spec`. -/
theorem speedAndDriveAway : Obligations.SpeedAndDriveAway := by
  refine ⟨⟨fun s => ⟨_, rfl, rfl, rfl⟩, fun s => ?_, by decide⟩, fun s => ?_⟩
  · have c := s.passTo_counts s.eval.nextAt
    refine ⟨(s.passTo s.eval.nextAt).computeSpeed, rfl, s.passTo_now _, ?_, ?_, c.inputs, c.settings, c.link⟩
    · rw [State.computeSpeed_speed, c.eval, c.settings, State.computeSpeed_now]
    · rw [State.computeSpeed_edges, c.eval]
  · obtain ⟨flag, notes⟩ := s.driveAway_spec
    refine ⟨?_, ?_⟩
    · rw [flag]
      exact s.drivesAway_iff
    · rw [flag]
      exact notes

end Sys2Proof.Machine
end

section
/-!
SUPPORT. A door record that ends leaves its door free, and the endings that follow leave it so (R13, R95, R107).
-/

namespace Sys2Proof.Machine

variable {s t : State} {side : Side}

/-- Whether a door is free depends on its channel, its outputs and its switches alone. -/
theorem State.doorFree.of_same (h : s.doorFree side) (channel : t.arb.channel side = s.arb.channel side)
    (door : t.door side = s.door side) (inputs : t.inputs = s.inputs) : t.doorFree side := by
  unfold State.doorFree State.derived at *
  rw [channel, door, inputs]
  exact h

theorem State.Counts.doorFree (c : s.Counts t) (h : s.doorFree side) : t.doorFree side :=
  h.of_same (by rw [c.arb]) (c.door side) c.inputs

theorem State.quit_inputs (s : State) (r : Record) (o : RecOutcome) (why : Option EndReason) :
    (s.quit r o why).inputs = s.inputs := by
  unfold State.quit State.listed
  rw [State.release_same, s.stopOutputs_same]
  rfl

/-- A record that ends gives up the pack or nothing where it holds no door channel: the doors stay. -/
theorem State.quit_doors {r : Record} (o : RecOutcome) (why : Option EndReason)
    (noDoor : ∀ side, r.side = some side → s.holdsDoor side r.handle = false) (side : Side) :
    (s.quit r o why).arb.channel side = s.arb.channel side ∧ (s.quit r o why).door side = s.door side := by
  by_cases hp : r.side = none ∧ s.holdsPack r.handle = true
  · obtain ⟨arb, -, near, off⟩ := State.quit_packHolder o why hp.1 hp.2
    refine ⟨?_, by cases side <;> assumption⟩
    have channel : (s.stopOutputs r).arb.channel side = s.arb.channel side := by
      unfold State.stopOutputs
      rw [hp.1]
      dsimp only
      split
      · exact s.leaveRun_channel side
      · rfl
    rw [arb, ← channel]
    cases side <;> rfl
  · obtain ⟨arb, -, near, off⟩ := State.quit_waiter (r := r) o why
      (fun hs => Bool.eq_false_iff.mpr fun held => hp ⟨hs, held⟩) noDoor
    exact ⟨by rw [arb], by cases side <;> assumption⟩

theorem State.doorFree.quit (h : s.doorFree side) (r : Record) (o : RecOutcome) (why : Option EndReason) :
    (s.quit r o why).doorFree side := by
  by_cases hd : ∃ other, r.side = some other ∧ s.holdsDoor other r.handle = true
  · obtain ⟨other, hs, hd⟩ := hd
    obtain ⟨arb, -, -, stays⟩ := State.quit_doorHolder o why hs hd
    have ne : side ≠ other := by
      rintro rfl
      rw [State.holdsDoor, h.1] at hd
      cases hd
    refine h.of_same ?_ (stays side ne) (s.quit_inputs r o why)
    rw [arb]
    cases side <;> cases other <;> first | rfl | exact absurd rfl ne
  · have noDoor (other : Side) (hs : r.side = some other) : s.holdsDoor other r.handle = false :=
      Bool.eq_false_iff.mpr fun held => hd ⟨other, hs, held⟩
    obtain ⟨channel, door⟩ := State.quit_doors o why noDoor side
    exact h.of_same channel door (s.quit_inputs r o why)

theorem State.doorFree.endOne (h : s.doorFree side) (k : Handle) (o : RecOutcome) (why : Option EndReason) :
    (s.endOne k o why).doorFree side := by
  cases hr : s.find k with
  | none => rwa [State.endOne_absent hr]
  | some r =>
    rw [State.endOne_eq hr]
    exact (State.count_counts _ _ _ _ _).doorFree (h.quit r o why)

theorem State.doorFree.freePred (h : s.doorFree side) (k : Handle) : (s.freePred k).doorFree side :=
  h.of_same rfl (by cases side <;> rfl) rfl

theorem State.doorFree.endChain : ∀ (fuel : Nat) {s : State}, s.doorFree side → ∀ (k : Handle) (o : RecOutcome)
    (why : Option EndReason), (s.endChain fuel k o why).doorFree side
  | 0, _, h, _, _, _ => h
  | fuel + 1, s, h, k, o, why => by
    have one := h.endOne k o why
    have later : ((s.successors k).foldl (fun t j => t.endChain fuel j .cancelled (some .pred))
        (s.endOne k o why)).doorFree side :=
      List.foldlRecOn _ _ (motive := fun t : State => t.doorFree side) one fun t ht j _ =>
        State.doorFree.endChain fuel ht j _ _
    unfold State.endChain
    cases o with
    | done => exact List.foldlRecOn _ _ (motive := fun t : State => t.doorFree side) one fun t ht j _ => ht.freePred j
    | stopped | failed | cancelled => exact later

/-- The holder of a door channel that ends, with its successors, leaves the door free (R13, R107). -/
theorem State.Sound.endTree_doorFree (h : s.Sound) {k : Handle} (hd : s.holdsDoor side k = true) (o : RecOutcome)
    (why : Option EndReason) : (s.endTree k o why).doorFree side := by
  rcases h.door side with idle | ⟨x, p, r, held⟩
  · rw [State.holdsDoor, idle.channel] at hd
    cases hd
  · obtain rfl : x.handle = k := by simpa [State.holdsDoor, held.channel] using hd
    obtain ⟨handle, -⟩ := State.find_spec held.find
    have one : (s.endOne x.handle o why).doorFree side := by
      rw [State.endOne_eq held.find]
      refine (State.count_counts _ _ _ _ _).doorFree ?_
      obtain ⟨arb, -, stopped, -⟩ := State.quit_doorHolder o why held.ofSide (handle ▸ hd)
      have derived : (s.quit r o why).derived side = s.derived side := by
        rw [State.derived, State.derived, s.quit_inputs]
      unfold State.doorFree
      rw [arb, stopped, derived, Arbiter.setChannel_channel]
      exact ⟨rfl, rfl, rfl, rfl, rfl, rfl⟩
    exact State.endTree_induction (P := fun t => t.doorFree side) one (fun _ j free => free.freePred j)
      fun _ _ j free => free.endChain 12 j _ _

end Sys2Proof.Machine
end

section
/-!
SUPPORT. What the report of the conditions does to one record (R35, R40 to R45): the operation that each state and the first
condition lost lead to, and what a hold, a wait and a run then leave.
-/

namespace Sys2Proof.Machine

/-! ### The operation of each state -/

section
variable {s : State} {h : Handle} {r : Record} (f : s.find h = some r)
include f

theorem State.judge_pending (pending : r.state = .pending) : s.judge h = s := by
  simp only [State.judge, f, pending]

theorem State.judge_queued (queued : r.state = .blocked ∨ r.state = .waiting) : s.judge h = s.upd h s.entry := by
  rcases queued with e | e <;> simp only [State.judge, f, e]

/-- R41. -/
theorem State.judge_stopped (granted : r.state.granted = true) {c : Cond} (lost : s.stopLost r = some c) :
    s.judge h = s.endTree h .failed (some (.cond c)) := by
  cases e : r.state with
  | pending | blocked | waiting =>
    rw [e] at granted
    cases granted
  | lead | running | holding | settling => simp only [State.judge, f, e, lost]

variable (clear : s.stopLost r = none)
include clear

/-- R42. -/
theorem State.judge_running (running : r.state = .running) :
    (s.pauseLost r = none → s.judge h = s) ∧ ∀ c, s.pauseLost r = some c → s.judge h = s.hold h c := by
  refine ⟨fun none => ?_, fun c lost => ?_⟩
  · simp only [State.judge, f, running, clear, none]
  · simp only [State.judge, f, running, clear, lost]

/-- R43. -/
theorem State.judge_lead (lead : r.state = .lead) :
    let lost := s.firstFalse r ((r.kind.pauseClass (s.pumpOf r)).filter fun c => c != .hold)
    (∀ c, lost = some c → s.judge h = s.hold h c) ∧
      (lost = none → ¬(r.wait = some .rest ∧ s.resting = false) → s.judge h = s) ∧
        (lost = none → r.wait = some .rest → s.resting = false → s.judge h = s.proceed r) := by
  refine ⟨fun c lost => ?_, fun lost stays => ?_, fun lost waits rested => ?_⟩
  · simp only [State.judge, f, lead, clear, lost]
  · simp only [State.judge, f, lead, clear, lost]
    exact if_neg stays
  · simp only [State.judge, f, lead, clear, lost]
    exact if_pos ⟨waits, rested⟩

/-- R44. -/
theorem State.judge_settling (settling : r.state = .settling) :
    (r.wait ≠ some .rest → s.judge h = s) ∧ (r.wait = some .rest → s.judge h = s.proceed r) := by
  refine ⟨fun other => ?_, fun waits => ?_⟩
  · simp only [State.judge, f, settling, clear]
    exact if_neg other
  · simp only [State.judge, f, settling, clear]
    exact if_pos waits

/-- R45. -/
theorem State.judge_holding (holding : r.state = .holding) :
    (∀ c, s.pauseLost r = some c → s.judge h = s.setWait h (.cond c)) ∧
      (s.pauseLost r = none → s.pumpOf r = true ∧ s.resting = true → s.judge h = s.setWait h .rest) ∧
        (s.pauseLost r = none → ¬(s.pumpOf r = true ∧ s.resting = true) → s.judge h = s.enterRunning h) := by
  refine ⟨fun c lost => ?_, fun lost rests => ?_, fun lost may => ?_⟩
  · simp only [State.judge, f, holding, clear, lost]
  · simp only [State.judge, f, holding, clear, lost]
    exact if_pos (by simpa using rests)
  · simp only [State.judge, f, holding, clear, lost]
    exact if_neg (by simpa using may)

end

/-- How a record goes on from a wait in `LEAD` or `SETTLING` (R10, R44, R82). -/
theorem State.proceed_cases (s : State) (r : Record) :
    (∀ c, s.pauseLost r = some c → s.proceed r = s.hold r.handle c) ∧
      (s.pauseLost r = none → s.pumpOf r = true ∧ s.resting = true →
        s.proceed r = s.upd r.handle fun y => { y with wait := some .rest, leadEnd := none }) ∧
        (s.pauseLost r = none → ¬(s.pumpOf r = true ∧ s.resting = true) → s.proceed r = s.enterRunning r.handle) := by
  refine ⟨fun c lost => ?_, fun lost rests => ?_, fun lost may => ?_⟩
  · simp only [State.proceed, lost]
  · simp only [State.proceed, lost]
    exact if_pos (by simpa using rests)
  · simp only [State.proceed, lost]
    exact if_neg (by simpa using may)

/-! ### The conditions lost -/

/-- The first false PAUSE-class condition, with the key of a station record left out (R27, R42). -/
theorem State.pauseLost_eq (s : State) (r : Record) :
    s.pauseLost r =
      s.firstFalse r ((r.kind.pauseClass (s.pumpOf r)).filter fun c => !(c == .hold && r.origin != .link)) := by
  unfold State.pauseLost
  cases r.origin <;> rfl

theorem State.pauseLost_mem {s : State} {r : Record} {c : Cond} (lost : s.pauseLost r = some c) :
    c ∈ r.kind.pauseClass (s.pumpOf r) := by
  rw [State.pauseLost_eq] at lost
  exact List.mem_of_mem_filter (List.mem_of_find?_eq_some lost)

/-- A door record has no PAUSE-class condition (R38). -/
theorem Kind.isLift_of_pauseClass {k : Kind} {pump : Bool} {c : Cond} (m : c ∈ k.pauseClass pump) : k.isLift = true := by
  cases k with
  | lift | tilt | level | stow | unstow => rfl
  | doorOpen | doorShut => cases m

/-! ### What a hold leaves (R42 to R44) -/

/-- In `x` a record of `s` has gone to `HOLDING` for a condition: its hold counted, its `HELD` notice queued, its outputs
off. -/
def State.HeldFor (s x : State) (h : Handle) (r : Record) (c : Cond) : Prop :=
  ∃ y, x.find h = some y ∧ y.state = .holding ∧ y.wait = some (.cond c) ∧ y.holds = min 255 (r.holds + 1) ∧
    y.holdFrom = some s.now ∧ s.queued x (.held h (.cond c)) ∧ x.axis.valves = .off ∧ x.arb.contactor = .opened

/-- The state in which a record goes to `HOLDING`: its run has been left, if it was in one. -/
def State.paused (s : State) (r : Record) : State := if r.state = .running then s.leaveRun else s

theorem State.hold_eq {s : State} {h : Handle} {r : Record} (f : s.find h = some r) (c : Cond) :
    s.hold h c =
      ((((s.paused r).upd h fun y => y.held c s.now).notify (.held h (.cond c))).count [.holds] (some r.origin) none
        s.axis.lastLoad) := by
  unfold State.hold
  rw [f]
  rfl

theorem State.leaveRun_axis {s : State} {run : Run} (h : s.axis.run = some run) :
    ∃ left, s.leaveRun.axis.run = some left ∧ left.cls = none := by
  unfold State.leaveRun
  rw [h]
  dsimp only
  rw [State.storeLoad_same]
  cases run.pump <;> exact ⟨_, rfl, rfl⟩

/-- The pack of a paused record drives nothing, and its run has no class (R56, R74, R77). -/
theorem State.Sound.paused {s : State} (sound : s.Sound) {h : Handle} {r : Record} (f : s.find h = some r)
    (granted : r.state.granted = true) (lift : r.side = none) :
    (s.paused r).axis.valves = .off ∧ (s.paused r).arb.contactor = .opened ∧
      (∃ run, (s.paused r).axis.run = some run ∧ run.cls = none) ∧
        (s.paused r).plan = s.plan ∧ (s.paused r).notes = s.notes := by
  unfold State.paused
  split
  · next running =>
    obtain ⟨rfl, m⟩ := State.find_spec f
    obtain ⟨-, -, holds⟩ := (s.recordSound_iff r).mp (sound.records r m)
    obtain ⟨x, run, y, held, hx⟩ := sound.find_holder ((holds granted).1 lift)
    obtain rfl : r = y := Option.some.inj (f.symm.trans (hx ▸ held.find))
    obtain ⟨valves, arb, same⟩ := State.leaveRun_some held.axis
    refine ⟨valves, ?_, State.leaveRun_axis held.axis, by rw [same], by rw [same]⟩
    rw [arb]
    cases pump : run.pump with
    | true => rfl
    | false => simpa [pump] using (held.driven running).2.2
  · next rests =>
    obtain ⟨-, valves, contactor, run⟩ := sound.still f granted rests
    exact ⟨valves, contactor, run, rfl, rfl⟩

theorem State.Sound.hold_heldFor {s : State} (sound : s.Sound) {h : Handle} {r : Record} (f : s.find h = some r)
    (granted : r.state.granted = true) {c : Cond} {pump : Bool} (required : c ∈ r.kind.pauseClass pump) :
    s.HeldFor (s.hold h c) h r c := by
  obtain ⟨handle, m⟩ := State.find_spec f
  obtain ⟨kind, -, -⟩ := (s.recordSound_iff r).mp (sound.records r m)
  have lift : r.side = none := Option.isNone_iff_eq_none.mp (kind.symm.trans (Kind.isLift_of_pauseClass required))
  obtain ⟨valves, contactor, ⟨run, axis, cls⟩, plan, notes⟩ := sound.paused f granted lift
  rw [State.hold_eq f]
  set t := ((s.paused r).upd h fun y => y.held c s.now).notify (.held h (.cond c))
  have counts := t.count_counts [.holds] (some r.origin) none s.axis.lastLoad
  have found : (s.paused r).find h = some r := by
    rw [State.find, plan]
    exact f
  have held : t.find h = some (r.held c s.now) := State.find_upd found _ handle
  obtain ⟨z, hz, e⟩ := counts.find held
  have unslowed := counts.unslowed fun run' h' => .inl <| by
    obtain rfl : run = run' := Option.some.inj (axis.symm.trans h')
    rw [cls]
    nofun
  have queued : t.notes = s.notes.push (.held h (.cond c)) := by
    rw [← notes]
    rfl
  refine ⟨z, hz, ?_, ?_, ?_, ?_, State.queued_mid (.refl s) queued (State.count_follows _ _ _ _ _), ?_, ?_⟩
  · rw [Record.bare_eq e]; rfl
  · rw [Record.bare_eq e]; rfl
  · rw [Record.bare_eq e]; rfl
  · rw [Record.bare_eq e]; rfl
  · rw [unslowed.1]
    exact valves
  · rw [counts.arb]
    exact contactor

/-! ### What a wait and a run leave (R8, R44, R45) -/

/-- From `s` only the plan table has changed in `x`, where the record stands in this state with this wait reason, if one is
named. -/
def State.WaitsAs (s x : State) (h : Handle) (st : RecState) (w : Option WaitReason) : Prop :=
  x = { s with plan := x.plan } ∧ ∃ y, x.find h = some y ∧ y.state = st ∧ (w.isSome → y.wait = w)

theorem State.upd_waitsAs {s : State} {h : Handle} {r : Record} (f : s.find h = some r) {g : Record → Record}
    {w : Option WaitReason} (handle : (g r).handle = r.handle) (wait : w.isSome → (g r).wait = w) :
    s.WaitsAs (s.upd h g) h (g r).state w :=
  ⟨rfl, g r, State.find_upd f g (handle.trans (State.find_spec f).1), rfl, wait⟩

/-- A record that waits for its resource is `BLOCKED` for its first false condition, or `WAITING` (R8, R40). -/
theorem State.entry_waitsAs {s : State} {h : Handle} {r : Record} (f : s.find h = some r) :
    (∀ c, s.firstFalse r (s.required r) = some c → s.WaitsAs (s.upd h s.entry) h .blocked (some (.cond c))) ∧
      (s.firstFalse r (s.required r) = none → s.WaitsAs (s.upd h s.entry) h .waiting none) := by
  refine ⟨fun c lost => ?_, fun none => ?_⟩
  · have entry : s.entry r = { r with state := .blocked, wait := some (.cond c) } := by
      unfold State.entry
      rw [lost]
    have waits := State.upd_waitsAs (g := s.entry) (w := some (.cond c)) f (by rw [entry]) fun _ => by rw [entry]
    rwa [entry] at waits
  · have entry : s.entry r = { r with state := .waiting, wait := if r.state = .waiting then r.wait else .none } := by
      unfold State.entry
      rw [none]
    have waits := State.upd_waitsAs (g := s.entry) (w := .none) f (by rw [entry]) nofun
    rwa [entry] at waits

/-- From `s` the record has entered `RUNNING` in `x`, its run has a class, and the contactor makes for a pump-driven run. -/
def State.RunsOn (s x : State) (h : Handle) : Prop :=
  x = s.enterRunning h ∧
    ∃ y run, x.find h = some y ∧ y.state = .running ∧ y.wait = none ∧ x.axis.run = some run ∧ run.cls.isSome ∧
      x.arb.contactor = if run.pump then .making else .opened

theorem State.Sound.enterRunning_runsOn {s : State} (sound : s.Sound) {h : Handle} {r : Record} (f : s.find h = some r)
    (granted : r.state.granted = true) (rests : r.state ≠ .running) : s.RunsOn (s.enterRunning h) h := by
  obtain ⟨holds, -, contactor, run, axis, -⟩ := sound.still f granted rests
  obtain ⟨cls, derated, begins, -⟩ := State.enterRunning_begins f axis holds
  refine ⟨rfl, _, _, begins.find, rfl, rfl, begins.axis, rfl, ?_⟩
  rw [begins.arb]
  show (if run.pump = true then _ else s.arb).contactor = if run.pump = true then _ else _
  split
  · rfl
  · exact contactor

end Sys2Proof.Machine
end

section
/-!
SUPPORT. Each condition of R36 and R37 as what it says about the state, one lemma for each.
-/

namespace Sys2Proof.Machine

variable (s : State) (r : Record)

theorem Debounced.shows_iff (d : Debounced) (level : Bool) : d.shows level = true ↔ d.counted = some level := by
  simp [Debounced.shows]

theorem State.chanOk_iff (n : Fin 9) : s.chanOk n = true ↔ (s.conv.chans[n]).status = .ok := beq_iff_eq

theorem Cal.sound_iff (c : Cal) : c.sound = true ↔ c.mark = true ∧ 1000 ≤ c.cHi - c.cLo := by
  simp [Cal.sound]

theorem LampCh.faulty_iff (c : LampCh) :
    (!c.faulty) = true ↔ c.openF = false ∧ c.shortF = false ∧ c.stuckF = false := by
  simp [LampCh.faulty, and_assoc]

theorem State.holds_parked :
    s.holds r .parked = true ↔ s.inputs.park.counted = some true ∧ ∃ v, s.eval.speed = some v ∧ v < 20 := by
  rw [← Debounced.shows_iff]
  unfold State.holds State.cond
  cases s.eval.speed <;> simp

theorem State.holds_master : s.holds r .master = true ↔ s.inputs.master.counted = some true := Debounced.shows_iff _ _

theorem State.holds_oilOk : s.holds r .oilOk = true ↔ s.inputs.oilhot.counted = some false := Debounced.shows_iff _ _

theorem State.holds_calib :
    s.holds r .calib = true ↔ s.settings.cal[(0 : Fin 9)].sound = true ∧ s.settings.cal[(1 : Fin 9)].sound = true :=
  Bool.and_eq_true_iff

theorem State.holds_inclSns :
    s.holds r .inclSns = true ↔
      s.chanOk 2 = true ∧ s.chanOk 3 = true ∧ s.conv.pitchF.isSome = true ∧ s.conv.rollF.isSome = true := by
  unfold State.holds State.cond
  simp only [Bool.and_eq_true, and_assoc]

theorem State.holds_notStowed :
    s.holds r .notStowed = true ↔ s.chanOk 1 = true ∧ ∃ v, s.chanValue 1 = some v ∧ v < 800 := by
  unfold State.holds State.cond
  cases s.chanValue 1 <;> simp

theorem State.holds_atBed :
    s.holds r .atBed = true ↔
      s.chanOk 0 = true ∧
        ∃ v, s.chanValue 0 = some v ∧ s.settings.plain.bedHt - 30 ≤ v ∧ v ≤ s.settings.plain.bedHt + 30 := by
  unfold State.holds State.cond
  cases s.chanValue 0 <;> simp [within]

theorem State.holds_bodyLvl :
    s.holds r .bodyLvl = true ↔ s.chanOk 2 = true ∧ ∃ v, s.pitch = some v ∧ -120 ≤ v ∧ v ≤ 120 := by
  unfold State.holds State.cond
  cases s.pitch <;> simp [within]

theorem State.holds_rollOk :
    s.holds r .rollOk = true ↔ s.chanOk 3 = true ∧ ∃ v, s.roll = some v ∧ -80 ≤ v ∧ v ≤ 80 := by
  unfold State.holds State.cond
  cases s.roll <;> simp [within]

theorem State.holds_beaconOk :
    s.holds r .beaconOk = true ↔
      (!s.beac.lamps[(0 : Fin 5)].faulty) = true ∨ (!s.beac.lamps[(1 : Fin 5)].faulty) = true ∨
        s.settings.plain.beacReq = 0 := by
  unfold State.holds State.cond
  rw [Bool.or_eq_true, Bool.or_eq_true, decide_eq_true_eq, or_assoc]
  rfl

theorem State.holds_supply : s.holds r .supply = true ↔ s.supply.state = .normal ∨ s.supply.state = .low := by
  unfold State.holds State.cond
  rw [Bool.or_eq_true, beq_iff_eq, beq_iff_eq]

/-! ### `HOLD` (R37) -/

theorem Role.has_iff (role : Role) (k : Kind) :
    role.has k = true ↔ ∃ a : Auth, (role = .pendant a ∨ role = .platform a) ∧ a.has k = true := by
  cases role <;> simp [Role.has]

theorem Station.enables_iff (x : Station) (k : Kind) :
    x.enables k = true ↔
      ∃ (e : StationCfg) (a : Auth), x.entry = some e ∧ (e.role = .pendant a ∨ e.role = .platform a) ∧ a.has k = true ∧
        x.state = .present ∧ x.keys[(1 : Fin 6)].pressed = true := by
  unfold Station.enables
  cases x.entry with
  | none => simp
  | some e =>
    rw [Bool.and_eq_true, Bool.and_eq_true, beq_iff_eq, Role.has_iff]
    constructor
    · rintro ⟨⟨present, pressed⟩, a, role, has⟩
      exact ⟨e, a, rfl, role, has, present, pressed⟩
    · rintro ⟨e', a, same, role, has, present, pressed⟩
      cases same
      exact ⟨⟨present, pressed⟩, a, role, has⟩

/-- A link record is held by ENABLE on any station whose authority has its kind. -/
theorem State.holds_hold_link (link : r.origin = .link) :
    s.holds r .hold = true ↔ ∃ i : Fin 6, (s.bus.stations[i]).enables r.kind = true := by
  unfold State.holds State.holdOf
  simp only [link]
  exact vector_any_iff _ _

/-- A station record is held by its direction key and ENABLE together. -/
theorem State.holds_hold_station {i k : Fin 6} (station : r.origin = .station i) (key : r.key = some k) :
    s.holds r .hold = true ↔
      ((s.bus.stations[i]).keys[k]).pressed = true ∧ ((s.bus.stations[i]).keys[(1 : Fin 6)]).pressed = true := by
  unfold State.holds State.holdOf
  simp only [station, key]
  exact Bool.and_eq_true_iff

end Sys2Proof.Machine
end

section
/-!
SUPPORT. The debounced inputs (R31): what a sample and a count do to each of them, and what handing the counted levels on to
the blocks leaves as it is (R33, R198).
-/

namespace Sys2Proof.Machine

/-! ### One input among the others -/

theorem DoorSwitches.get_put (d : DoorSwitches) (sw e : Switch) (x : Debounced) :
    (d.put sw x).get e = if e = sw then x else d.get e := by
  cases sw <;> cases e <;> rfl

theorem Inputs.get_put (v : Inputs) (d e : DInput) (x : Debounced) :
    (v.put d x).get e = if e = d then x else v.get e := by
  cases d with
  | door side sw =>
    cases e with
    | door other sw' =>
      cases side <;> cases other <;> simp [Inputs.put, Inputs.get, Inputs.switches, DoorSwitches.get_put]
    | park | ign | engine | master | oilhot => cases side <;> rfl
  | park | ign | engine | master | oilhot => cases e <;> rfl

theorem Inputs.put_estopCounted (v : Inputs) (d : DInput) (x : Debounced) :
    (v.put d x).estopCounted = v.estopCounted := by
  cases d with
  | door side sw => cases side <;> rfl
  | park | ign | engine | master | oilhot => rfl

/-- A sample gives its level, counts nothing, and restarts the time where it is a new one (R31). -/
theorem Debounced.sample_spec (d : Debounced) (level : Bool) (now : Nat) :
    (d.sample level now).raw = level ∧ (d.sample level now).counted = d.counted ∧
      (d.sample level now).since = if d.raw = level then d.since else now := by
  unfold Debounced.sample
  by_cases same : d.raw = level <;> simp [same]

/-! ### Inputs counted together -/

theorem Debounced.moving_iff (d : Debounced) : d.moving = true ↔ d.counted ≠ some d.raw := bne_iff_ne

/-- Where there is no new level, counting changes nothing. -/
theorem Debounced.count_of_not_moving {d : Debounced} (h : ¬d.counted ≠ some d.raw) : d.count = d := by
  rw [Debounced.count, ← not_not.mp h]

theorem Inputs.mem_due (v : Inputs) (ins : List DInput) (d : DInput) :
    d ∈ v.due ins ↔ d ∈ ins ∧ (v.get d).counted ≠ some (v.get d).raw := by
  rw [Inputs.due, List.mem_filter, List.mem_dedup, Debounced.moving_iff]

theorem Inputs.due_nil (v : Inputs) (ins : List DInput) :
    v.due ins = [] ↔ ∀ d ∈ ins, ¬(v.get d).counted ≠ some (v.get d).raw := by
  simp only [List.eq_nil_iff_forall_not_mem, Inputs.mem_due, not_and]

theorem Inputs.countAll_get (e : DInput) : ∀ (ds : List DInput) (v : Inputs),
    (v.countAll ds).get e = if e ∈ ds then (v.get e).count else v.get e
  | [], _ => rfl
  | d :: ds, v => by
    have rest := Inputs.countAll_get e ds (v.put d (v.get d).count)
    rw [Inputs.get_put] at rest
    refine rest.trans ?_
    by_cases same : e = d
    · subst same
      by_cases later : e ∈ ds <;> simp [later, Debounced.count]
    · simp [same]

/-- Counting the inputs of a list that have a new level counts the whole list. -/
theorem Inputs.countAll_due_get (v : Inputs) (ins : List DInput) (e : DInput) :
    (v.countAll (v.due ins)).get e = if e ∈ ins then (v.get e).count else v.get e := by
  rw [Inputs.countAll_get]
  by_cases new : (v.get e).counted ≠ some (v.get e).raw
  · simp [Inputs.mem_due, new]
  · simp [Inputs.mem_due, new, Debounced.count_of_not_moving new]

theorem debounceMs_eq (d : DInput) : debounceMs d = if d = .engine then 500 else 30 := by cases d <;> rfl

theorem foldl_max_le {α : Type} (f : α → Nat) (n : Nat) : ∀ (xs : List α) (a : Nat),
    xs.foldl (fun t x => max t (f x)) a ≤ n ↔ a ≤ n ∧ ∀ x ∈ xs, f x ≤ n
  | [], a => by simp
  | x :: xs, a => by
    rw [List.foldl_cons, foldl_max_le f n xs, List.forall_mem_cons, max_le_iff, and_assoc]

/-- The moment at which inputs are counted is the end of the last debounce among them (R31). -/
theorem Inputs.dueAt_le (v : Inputs) (ds : List DInput) (n : Nat) :
    v.dueAt ds ≤ n ↔ ∀ d ∈ ds, (v.get d).since + (if d = .engine then 500 else 30) ≤ n := by
  unfold Inputs.dueAt
  rw [foldl_max_le (fun d => (v.get d).since + debounceMs d)]
  simp only [Nat.zero_le, true_and, debounceMs_eq]

/-! ### The levels handed on (R33) -/

theorem State.enterPhase_now (s : State) (side : Side) (p : Phase) : (s.enterPhase side p).now = s.now := by
  cases side <;> rfl

theorem State.endDoor_now (s : State) (side : Side) (o : RecOutcome) (why : Option EndReason) :
    (s.endDoor side o why).now = s.now := by
  unfold State.endDoor
  split
  · exact s.endTree_now _ _ _
  · rfl

/-- A switch change in a phase leaves the door, begins a phase or ends the record (R98 to R102, R104). -/
theorem State.phaseSwitched_cases (s : State) (side : Side) (p : Phase) (c : DoorState) (back : Bool) :
    s.phaseSwitched side p c back = s ∨ (∃ q, s.phaseSwitched side p c back = s.enterPhase side q) ∨
      ∃ o why, s.phaseSwitched side p c back = s.endDoor side o why := by
  cases p with
  | unlatch =>
    cases c with
    | fault | opened => exact .inr (.inr ⟨_, _, rfl⟩)
    | closed | ajar => exact .inr (.inl ⟨_, rfl⟩)
    | shut | unknown | moving => exact .inl rfl
  | opening =>
    cases c with
    | fault | opened => exact .inr (.inr ⟨_, _, rfl⟩)
    | shut | closed | ajar | unknown | moving => exact .inl rfl
  | closing =>
    cases c with
    | fault | shut => exact .inr (.inr ⟨_, _, rfl⟩)
    | closed => exact .inr (.inl ⟨_, rfl⟩)
    | opened | ajar | unknown | moving => exact .inl rfl
  | pullin =>
    cases c with
    | fault | shut => exact .inr (.inr ⟨_, _, rfl⟩)
    | opened | closed | ajar | unknown | moving => exact .inl rfl
  | reverse =>
    unfold State.phaseSwitched
    cases back with
    | true => exact .inr (.inr ⟨_, _, if_pos rfl⟩)
    | false => exact .inl (if_neg nofun)

theorem State.doorSwitched_now (s : State) (side : Side) (back : Bool) : (s.doorSwitched side back).now = s.now := by
  unfold State.doorSwitched
  split
  · next p _ =>
    rcases s.phaseSwitched_cases side p (s.derived side) back with stays | ⟨q, enters⟩ | ⟨o, why, ends⟩
    · rw [stays]
    · rw [enters, State.enterPhase_now]
    · rw [ends, State.endDoor_now]
  · unfold State.doorMoved
    dsimp only
    split <;> exact s.setDoor_now _ _

/-- What handing counted levels to the doors and to the supply monitor leaves as it is. -/
structure State.HandsOn (s t : State) : Prop where
  now : t.now = s.now
  inputs : t.inputs = s.inputs
  halt : t.halt = s.halt
  store : t.store = s.store
  settings : t.settings = s.settings

theorem State.HandsOn.trans {s t u : State} (a : s.HandsOn t) (b : t.HandsOn u) : s.HandsOn u :=
  ⟨b.now.trans a.now, b.inputs.trans a.inputs, b.halt.trans a.halt, b.store.trans a.store, b.settings.trans a.settings⟩

theorem State.HandsOn.of_follows {s t : State} (f : s.Follows t) (now : t.now = s.now) : s.HandsOn t :=
  ⟨now, f.inputs, f.halt, f.store, f.settings⟩

theorem State.handDoor_handsOn (s : State) (v : Inputs) (ins : List DInput) (side : Side) :
    s.HandsOn (s.handDoor v ins side) := by
  unfold State.handDoor
  split
  · exact .of_follows (s.doorSwitched_follows _ _) (s.doorSwitched_now _ _)
  · exact .of_follows (.refl s) rfl

theorem State.handEngine_handsOn (s : State) (v : Inputs) : s.HandsOn (s.handEngine v) := by
  unfold State.handEngine
  split
  · split
    · exact .of_follows (.refl s) rfl
    · exact .of_follows (s.count_follows _ _ _ _) (s.count_now _ _ _ _)
  · exact ⟨rfl, rfl, rfl, rfl, rfl⟩
  · exact ⟨rfl, rfl, rfl, rfl, rfl⟩
  · exact .of_follows (.refl s) rfl

/-- What MASTER counted inactive does: a save starts, or one in progress is marked due to be followed by another; the rest
of the state stays (R196, R198). -/
theorem State.handMaster_spec (s : State) (v : Inputs) :
    s.handMaster v = { s with store := (s.handMaster v).store } ∧
      (v.master.counted = some true → s.inputs.master.counted = some false →
        (s.store.save = none →
          (s.handMaster v).store.save = some ⟨s.settings, s.cnt.recs, s.now + 400⟩ ∧
            (s.handMaster v).store.image.valid = false) ∧
        (s.store.save.isSome = true → (s.handMaster v).store = { s.store with due := true })) ∧
      (¬(v.master.counted = some true ∧ s.inputs.master.counted = some false) → (s.handMaster v).store = s.store) := by
  unfold State.handMaster
  by_cases off : v.master.counted = some true ∧ s.inputs.master.counted = some false
  · rw [if_pos off]
    unfold State.askSave
    cases save : s.store.save with
    | none => exact ⟨rfl, fun _ _ => ⟨fun _ => ⟨rfl, rfl⟩, nofun⟩, fun n => absurd off n⟩
    | some x => exact ⟨rfl, fun _ _ => ⟨nofun, fun _ => rfl⟩, fun n => absurd off n⟩
  · rw [if_neg off]
    exact ⟨rfl, fun a b => absurd ⟨a, b⟩ off, fun _ => rfl⟩

/-- New counted levels are the handing on to the doors and the supply monitor, and then MASTER handed to the store. -/
theorem State.countInputs_handsOn (s : State) (ins : List DInput) :
    ∃ q, State.HandsOn { s with inputs := s.inputs.countAll ins } q ∧ s.countInputs ins = q.handMaster s.inputs :=
  ⟨_, ((State.handDoor_handsOn _ _ _ .near).trans (State.handDoor_handsOn _ _ _ .off)).trans
    (State.handEngine_handsOn _ _), rfl⟩

end Sys2Proof.Machine
end

section
/-!
The inputs and the report of the conditions (O45), in the terms of R31, R33, R35 to R45 and R198.
-/

namespace Sys2Proof.Machine

/-- R41: a granted record that has lost a STOP-class condition ends, and what it held is free. -/
theorem State.Sound.judge_ends {s : State} (sound : s.Sound) {h : Handle} {r : Record} (f : s.find h = some r)
    (granted : r.state.granted = true) {c : Cond} (lost : s.stopLost r = some c) :
    s.Ends (s.judge h) r .failed (some (.cond c)) ∧ (r.side = none → (s.judge h).packFree) ∧
      ∀ side, r.side = some side → (s.judge h).doorFree side := by
  obtain ⟨rfl, m⟩ := State.find_spec f
  obtain ⟨-, -, holds⟩ := (s.recordSound_iff r).mp (sound.records r m)
  obtain ⟨pack, door⟩ := holds granted
  rw [State.judge_stopped f granted lost]
  exact ⟨State.endTree_ends f _ _, fun lift => sound.endTree_packFree (pack lift) _ _,
    fun side of => sound.endTree_doorFree (door side of).1 _ _⟩

/-- What a record that goes on from a wait in `LEAD` or `SETTLING` comes to (R44). -/
theorem State.Sound.proceed_spec {s : State} (sound : s.Sound) {h : Handle} {r : Record} (f : s.find h = some r)
    (granted : r.state.granted = true) (still : r.state ≠ .running) :
    (∀ c, s.pauseLost r = some c → s.HeldFor (s.proceed r) h r c) ∧
      (s.pauseLost r = none → s.pumpOf r = true ∧ s.resting = true → s.WaitsAs (s.proceed r) h r.state (some .rest)) ∧
        (s.pauseLost r = none → ¬(s.pumpOf r = true ∧ s.resting = true) → s.RunsOn (s.proceed r) h) := by
  obtain ⟨rfl, -⟩ := State.find_spec f
  obtain ⟨held, rests, runs⟩ := s.proceed_cases r
  refine ⟨fun c lost => ?_, fun clear rest => ?_, fun clear may => ?_⟩
  · rw [held c lost]
    exact sound.hold_heldFor f granted (State.pauseLost_mem lost)
  · rw [rests clear rest]
    exact State.upd_waitsAs f rfl fun _ => rfl
  · rw [runs clear may]
    exact sound.enterRunning_runsOn f granted still

/-- A command that counts inputs with a new level: what it leaves before the close of its event (R31, R33, R198). -/
def State.counted (s : State) (ins : List DInput) : State :=
  (s.passTo (s.inputs.dueAt (s.inputs.due ins))).countInputs (s.inputs.due ins)

theorem exec_inputCountedChange_idle {s : State} {ins : List DInput}
    (none : ∀ d ∈ ins, ¬(s.inputs.get d).counted ≠ some (s.inputs.get d).raw) :
    exec (.inputCountedChange ins) s = .next s := by
  show execInputCountedChange ins s = _
  simp only [execInputCountedChange, if_pos ((s.inputs.due_nil ins).mpr none)]

theorem exec_inputCountedChange_counted {s : State} {ins : List DInput}
    (new : ∃ d ∈ ins, (s.inputs.get d).counted ≠ some (s.inputs.get d).raw) :
    exec (.inputCountedChange ins) s = .next (s.counted ins).conclude := by
  obtain ⟨d, m, moving⟩ := new
  have some_due : s.inputs.due ins ≠ [] := fun none => (s.inputs.due_nil ins).mp none d m moving
  show execInputCountedChange ins s = _
  simp only [execInputCountedChange, if_neg some_due]
  rfl

/-- The moment of the count, and each input after it (R31). -/
theorem State.counted_spec (s : State) (ins : List DInput) :
    (s.counted ins).now = max s.now (s.inputs.dueAt (s.inputs.due ins)) ∧ (s.counted ins).halt = s.halt ∧
      ∀ d, (s.counted ins).inputs.get d = if d ∈ ins then (s.inputs.get d).count else s.inputs.get d := by
  have c := s.passTo_counts (s.inputs.dueAt (s.inputs.due ins))
  obtain ⟨q, hands, eq⟩ := (s.passTo (s.inputs.dueAt (s.inputs.due ins))).countInputs_handsOn (s.inputs.due ins)
  have rest := (q.handMaster_spec (s.passTo (s.inputs.dueAt (s.inputs.due ins))).inputs).1
  rw [State.counted, eq, rest]
  refine ⟨hands.now.trans (s.passTo_now _), hands.halt.trans c.halt, fun d => ?_⟩
  show q.inputs.get d = _
  rw [hands.inputs, ← Inputs.countAll_due_get, c.inputs]

/-- What counting MASTER inactive does to the store (R196, R198). -/
theorem State.counted_store (s : State) (ins : List DInput) :
    let x := s.counted ins
    (s.inputs.master.counted = some true → x.inputs.master.counted = some false →
      (s.store.save = none →
        x.store.save = some ⟨s.settings, x.cnt.recs, x.now + 400⟩ ∧ x.store.image.valid = false) ∧
      (s.store.save.isSome = true → x.store = { s.store with due := true })) ∧
    (¬(s.inputs.master.counted = some true ∧ x.inputs.master.counted = some false) → x.store = s.store) := by
  have follows := s.passTo_follows (s.inputs.dueAt (s.inputs.due ins))
  obtain ⟨q, hands, eq⟩ := (s.passTo (s.inputs.dueAt (s.inputs.due ins))).countInputs_handsOn (s.inputs.due ins)
  have store : q.store = s.store := hands.store.trans follows.store
  have settings : q.settings = s.settings := hands.settings.trans follows.settings
  have spec := q.handMaster_spec (s.passTo (s.inputs.dueAt (s.inputs.due ins))).inputs
  rw [← eq, store, settings, follows.inputs] at spec
  obtain ⟨rest, off, other⟩ := spec
  have same : (s.counted ins).inputs = q.inputs ∧ (s.counted ins).cnt = q.cnt ∧ (s.counted ins).now = q.now := by
    rw [State.counted, rest]
    exact ⟨rfl, rfl, rfl⟩
  obtain ⟨inputs, cnt, now⟩ := same
  intro x
  rw [inputs, cnt, now]
  exact ⟨off, other⟩

/-- Settles O45: the report by the operation each state and the first condition lost lead to, the conditions one by one, and
the commands of the inputs by what a sample and a count do to each input. -/
theorem inputsCount : Obligations.InputsCount := by
  refine ⟨⟨fun s => rfl, fun s h r sound f => ?_, by decide, fun s r => ?_⟩, fun s d level => ?_, fun s ins => ?_⟩
  · have sound := (State.sound_iff s).mp sound
    intro x first pauses stop pause rests held runs waits
    have pause_eq : s.pauseLost r = pause := s.pauseLost_eq r
    refine ⟨State.judge_pending f, fun queued => ?_, fun c granted lost => sound.judge_ends f granted lost,
      fun clear => ⟨fun running => ?_, fun lead => ?_, fun settling waiting => ?_, fun going => ?_, fun holding => ?_⟩⟩
    · obtain ⟨blocked, waiting⟩ := State.entry_waitsAs f
      rw [← State.judge_queued f queued] at blocked waiting
      split
      · next c lost => exact blocked c lost
      · next none => exact waiting none
    · obtain ⟨stays, holds⟩ := State.judge_running f clear running
      rw [pause_eq] at stays holds
      refine ⟨stays, fun c lost => ?_⟩
      have heldFor := sound.hold_heldFor f (by rw [running]; rfl) (State.pauseLost_mem (pause_eq.trans lost))
      rwa [← holds c lost] at heldFor
    · obtain ⟨holds, stays, -⟩ := State.judge_lead f clear lead
      refine ⟨fun c lost => ?_, stays⟩
      have heldFor := sound.hold_heldFor f (by rw [lead]; rfl) (List.mem_of_mem_filter (List.mem_of_find?_eq_some lost))
      rwa [← holds c lost] at heldFor
    · exact (State.judge_settling f clear settling).1 waiting
    · have goes : s.judge h = s.proceed r ∧ r.state.granted = true ∧ r.state ≠ .running := by
        rcases going with ⟨settling, waiting⟩ | ⟨lead, waiting, rested, none⟩
        · exact ⟨(State.judge_settling f clear settling).2 waiting, by rw [settling]; rfl, by rw [settling]; nofun⟩
        · exact ⟨(State.judge_lead f clear lead).2.2 none waiting rested, by rw [lead]; rfl, by rw [lead]; nofun⟩
      obtain ⟨eq, granted, still⟩ := goes
      have spec := sound.proceed_spec f granted still
      rwa [← eq, pause_eq] at spec
    · obtain ⟨keeps, rested, ran⟩ := State.judge_holding f clear holding
      rw [pause_eq] at keeps rested ran
      have waitsFor (w : WaitReason) : s.WaitsAs (s.setWait h w) h .holding (some w) := by
        rw [← holding]
        exact State.upd_waitsAs f rfl fun _ => rfl
      refine ⟨fun c lost => ?_, fun none rest => ?_, fun none may => ?_⟩
      · have waiting := waitsFor (.cond c)
        rwa [← keeps c lost] at waiting
      · have waiting := waitsFor .rest
        rwa [← rested none rest] at waiting
      · have on := sound.enterRunning_runsOn f (by rw [holding]; rfl) (by rw [holding]; nofun)
        rwa [← ran none may] at on
  · intro ok reads paired sound bed
    refine ⟨s.holds_parked r, s.holds_master r, (s.holds_calib r).trans (and_congr (Cal.sound_iff _) (Cal.sound_iff _)),
      s.chanOk_iff 0, s.chanOk_iff 1, s.chanOk_iff 4,
      (s.holds_inclSns r).trans (and_congr (s.chanOk_iff 2) (and_congr_left' (s.chanOk_iff 3))),
      (s.holds_notStowed r).trans (and_congr_left' (s.chanOk_iff 1)),
      (s.holds_atBed r).trans (and_congr_left' (s.chanOk_iff 0)),
      (s.holds_bodyLvl r).trans (and_congr_left' (s.chanOk_iff 2)),
      (s.holds_rollOk r).trans (and_congr_left' (s.chanOk_iff 3)),
      (s.holds_beaconOk r).trans (or_congr (LampCh.faulty_iff _) (or_congr_left (LampCh.faulty_iff _))),
      s.holds_supply r, s.holds_oilOk r, fun link => ?_, fun i k station key => s.holds_hold_station r station key⟩
    rw [s.holds_hold_link r link]
    exact exists_congr fun i => Station.enables_iff _ _
  · have get (e : DInput) := s.inputs.get_put d e ((s.inputs.get d).sample level s.now)
    obtain ⟨raw, counted, since⟩ := (s.inputs.get d).sample_spec level s.now
    have mine := (get d).trans (if_pos rfl)
    refine ⟨s.sampleRaw (.debounced d) level, rfl, rfl, (congrArg Debounced.raw mine).trans raw,
      (congrArg Debounced.counted mine).trans counted, (congrArg Debounced.since mine).trans since,
      fun e other => (get e).trans (if_neg other), Inputs.put_estopCounted _ _ _⟩
  · intro new
    refine ⟨exec_inputCountedChange_idle, fun some_new => ⟨s.counted ins, exec_inputCountedChange_counted some_new, ?_⟩⟩
    obtain ⟨now, halt, get⟩ := s.counted_spec ins
    have samples : s.Samples (s.counted ins) := (s.passTo_samples _).trans (State.countInputs_samples _ _)
    have due (n : Nat) : s.inputs.dueAt (s.inputs.due ins) ≤ n ↔
        ∀ d ∈ ins, new d → (s.inputs.get d).since + (if d = .engine then 500 else 30) ≤ n := by
      rw [Inputs.dueAt_le]
      simp only [Inputs.mem_due, and_imp]
      rfl
    obtain ⟨off, other⟩ := s.counted_store ins
    refine ⟨fun d m => (get d).trans (if_pos m), fun d m => (get d).trans (if_neg m), (due _).mp ?_, ?_,
      fun last later all => ?_, samples.link, samples.conv, samples.bus, samples.settings, halt,
      fun on off' save => (off on off').1 save, fun on off' save => (off on off').2 save, other⟩
    · omega
    · omega
    · have := (due last).mpr all
      omega

end Sys2Proof.Machine
end

section
/-!
The contactor, the pump current and pump rest (O43), in the terms of R57, R58, R60 and R61.
-/

namespace Sys2Proof.Machine

/-- Since when a test has held, with the test as a proposition. -/
theorem holdSince_eq {test : Bool} {p : Prop} [Decidable p] (iff : test = true ↔ p) (now : Nat) (since : Option Nat) :
    holdSince test now since = if p then some (since.getD now) else none := if_congr iff rfl rfl

/-- The holder of the pack that fails at a time ends then and frees the pack (R57, R58, R61). -/
theorem State.Sound.failPack_ends {s : State} (h : s.Sound) {r : Record} (holder : s.packRecord = some r) (at_ : Nat)
    (why : EndReason) :
    ∃ x : State, s.failPack at_ why = x.conclude ∧ s.Ends x r .failed (some why) ∧ x.packFree ∧ x.now = max s.now at_ := by
  obtain ⟨f, hp⟩ := State.packRecord_spec holder
  obtain ⟨x, pack, fx⟩ := Option.bind_eq_some_iff.mp holder
  refine ⟨(s.passTo at_).endTree r.handle .failed (some why), ?_, State.passTo_endTree_ends at_ _ _ f,
    h.passTo_endTree_packFree at_ _ _ hp, State.passTo_endTree_now at_ _ _ _⟩
  simp only [State.failPack, pack, (State.find_spec fx).1]

/-- A contactor that is commanded on is commanded on for a record that holds the pack (R48, R56). -/
theorem State.Sound.pack_of_contactor {s : State} (h : s.Sound) (on : s.arb.contactor ≠ .opened) :
    ∃ r, s.packRecord = some r := by
  rcases h.pack with ⟨-, -, -, opened⟩ | ⟨x, run, r, held⟩
  · exact absurd opened on
  · exact ⟨r, Option.bind_eq_some_iff.mpr ⟨x, held.pack, held.find⟩⟩

/-- Counting leaves the states of the records. -/
theorem State.Counts.states {s t : State} (c : s.Counts t) :
    t.plan.records.map (·.state) = s.plan.records.map (·.state) := by
  have states (u : State) : u.plan.records.map (·.state) = u.bareRecords.map (·.state) := by
    simp [State.bareRecords, Record.bare]
  rw [states, states, c.bare]

/-- Settles O43: a failure of the contactor or of the pump current is an ending of the pack's holder after time has passed, and
a scan's pump current runs the overcurrent time by its test. -/
theorem contactorEvents : Obligations.ContactorEvents := by
  refine fun s => ⟨fun making => ?_, fun other => ⟨?_, ?_⟩, fun r sound holder =>
    ⟨fun making => ?_, fun t0 made opened => ?_, fun t0 on high => ?_⟩, fun sound on =>
    ((State.sound_iff s).mp sound).pack_of_contactor on, ?_, fun t0 rest => ?_⟩
  · show execContactorMade s = _
    simp only [execContactorMade, if_pos making]
    rfl
  · show execContactorMade s = _
    simp only [execContactorMade, if_neg other]
  · show execContactorMakeTimeout s = _
    simp only [execContactorMakeTimeout, if_neg other]
  · obtain ⟨x, eq, ends⟩ := ((State.sound_iff s).mp sound).failPack_ends holder (s.arb.contactorAt + 150) .contactor
    refine ⟨x, ?_, ends⟩
    show execContactorMakeTimeout s = _
    rw [← eq, execContactorMakeTimeout, if_pos making]
    rfl
  · obtain ⟨x, eq, ends⟩ := ((State.sound_iff s).mp sound).failPack_ends holder (t0 + 150) .contactor
    refine ⟨x, ?_, ends⟩
    show execContactorDropout s = _
    simp only [← eq, execContactorDropout, made, opened]
    rfl
  · obtain ⟨x, eq, ends⟩ := ((State.sound_iff s).mp sound).failPack_ends holder (t0 + 500) .pumpOc
    refine ⟨x, ?_, ends⟩
    show execPumpOvercurrent s = _
    simp only [← eq, execPumpOvercurrent, high, if_neg on]
    rfl
  · have test : (s.chanOk 6 && s.arb.contactor != .opened && decide (2800 < s.reported 6)) = true ↔
        (s.conv.chans[(6 : Fin 9)]).status = .ok ∧ s.arb.contactor ≠ .opened ∧ 2800 < s.reported 6 := by
      simp only [Bool.and_eq_true, bne_iff_ne, decide_eq_true_eq, State.chanOk_iff, and_assoc]
    rw [State.pumpScan, holdSince_eq test]
  · have c := s.passTo_counts t0
    let x : State := { s.passTo t0 with arb := { (s.passTo t0).arb with restUntil := none } }
    have follows : (s.passTo t0).Follows x := .quiet
    refine ⟨x, ?_, rfl, s.passTo_now t0, ((s.passTo_follows t0).trans follows).trans x.conclude_follows, c.states⟩
    show execPumpRestPassed s = _
    simp only [execPumpRestPassed, rest]
    rfl

end Sys2Proof.Machine
end

section
/-!
The supply monitor (O44): the windows that a scan runs, the first of them to complete, and the engine counted started, in the
terms of R63 to R66.
-/

namespace Sys2Proof.Machine

/-! ### What a voltage does to the windows (R63, R64, R66) -/

theorem State.engineOn_iff (s : State) : s.engineOn = true ↔ s.inputs.engine.counted = some true := beq_iff_eq

/-- The windows keep the state that they lead out of. -/
theorem Supply.watch_state (u : Supply) (p : Plain) (v : Int) (engine : Bool) (now : Nat) :
    (u.watch p v engine now).state = u.state := by
  unfold Supply.watch
  split
  all_goals rfl

/-- The windows of NORMAL. -/
theorem Supply.watch_normal {u : Supply} (normal : u.state = .normal) (p : Plain) (v : Int) (engine : Bool) (now : Nat) :
    u.watch p v engine now =
      ⟨.normal, holdSince (decide (v < p.batLow) && !engine) now u.low, holdSince (decide (v < p.batCrit)) now u.crit,
        none⟩ := by
  simp only [Supply.watch, normal]

/-- The windows of LOW. -/
theorem Supply.watch_low {u : Supply} (low : u.state = .low) (p : Plain) (v : Int) (engine : Bool) (now : Nat) :
    u.watch p v engine now =
      ⟨.low, none, holdSince (decide (v < p.batCrit)) now u.crit, holdSince (decide (2420 ≤ v)) now u.up⟩ := by
  simp only [Supply.watch, low]

/-- The windows of CRITICAL. -/
theorem Supply.watch_critical {u : Supply} (critical : u.state = .critical) (p : Plain) (v : Int) (engine : Bool)
    (now : Nat) : u.watch p v engine now = ⟨.critical, none, none, holdSince (decide (2240 ≤ v)) now u.up⟩ := by
  simp only [Supply.watch, critical]

theorem State.supplyScan_lost {s : State} (lost : (s.conv.chans[(5 : Fin 9)]).status ≠ .ok) :
    s.supplyScan = { s with supply := ⟨s.supply.state, none, none, none⟩ } := by
  have off : s.chanOk 5 = false := Bool.eq_false_iff.mpr fun ok => lost ((s.chanOk_iff 5).mp ok)
  simp only [State.supplyScan, off]

section
variable {s : State} {v : Int} (ok : (s.conv.chans[(5 : Fin 9)]).status = .ok)
  (value : (s.conv.chans[(5 : Fin 9)]).value = some v)
include ok value

/-- A voltage in a state that is known runs the windows of that state. -/
theorem State.supplyScan_known {st : SupplyState} (at_ : s.supply.state = st) (known : st ≠ .unknown) :
    s.supplyScan = { s with supply := s.supply.watch s.settings.plain v s.engineOn s.now } := by
  simp only [State.supplyScan, (s.chanOk_iff 5).mpr ok, show s.chanValue 5 = some v from value, at_, if_neg known]

/-- The first voltage leads out of UNKNOWN to the band that it lies in, with its notice (R63, R65). -/
theorem State.supplyScan_first (first : s.supply.state = .unknown) :
    ∃ w : Supply, w.state = s.settings.plain.band v ∧
      s.supplyScan = { s with supply := w, notes := s.notes.push (.supply .unknown (s.settings.plain.band v) v) } := by
  have reported : s.reported 5 = v := by rw [State.reported, show s.chanValue 5 = some v from value]; rfl
  let entered : Supply := ⟨s.settings.plain.band v, none, none, none⟩
  refine ⟨entered.watch s.settings.plain v s.engineOn s.now, Supply.watch_state _ _ _ _ _, ?_⟩
  simp only [State.supplyScan, (s.chanOk_iff 5).mpr ok, show s.chanValue 5 = some v from value, if_pos first]
  rw [State.enterSupply, reported, first]
  rfl

end

/-! ### The windows that complete (R64, R65) -/

/-- A change of state to `new` at `t0`: what it leaves before the close of its event, and what the whole event keeps. -/
def State.SupplyGoes (s : State) (new : SupplyState) (t0 : Nat) : Prop :=
  ∃ x : State, exec .supplyStateChange s = .next x.conclude ∧ x.supply.state = new ∧ x.now = max s.now t0 ∧
    s.queued x (.supply s.supply.state new (s.reported 5)) ∧ x.conclude.settings = s.settings ∧
    x.conclude.conv = s.conv ∧ x.conclude.link = s.link ∧ x.conclude.inputs = s.inputs ∧ x.conclude.halt = s.halt

theorem State.Counts.supply {s t : State} (c : s.Counts t) : t.supply = s.supply := by rw [c.rest]

/-- The first window to complete leads to its state. -/
theorem State.supplyGoes_of_first {s : State} {new : SupplyState} {t0 : Nat}
    (first : firstExit s.supply.exits = some (t0, new)) : s.SupplyGoes new t0 := by
  have c := s.passTo_counts t0
  let m := s.passTo t0
  have f := (m.enterSupply new).conclude_follows
  have supply : m.supply = s.supply := c.supply
  have reported : m.reported 5 = s.reported 5 :=
    congrArg (fun conv : Converter => (conv.chans[(5 : Fin 9)]).value.getD Config.noValue) c.conv
  have queued : (m.enterSupply new).notes = m.notes.push (.supply s.supply.state new (s.reported 5)) := by
    rw [← reported, ← supply]
    rfl
  refine ⟨m.enterSupply new, ?_, Supply.watch_state _ _ _ _ _, s.passTo_now t0,
    State.queued_mid (s.passTo_follows t0) queued (.refl _), f.settings.trans c.settings, f.conv.trans c.conv,
    f.link.trans c.link, f.inputs.trans c.inputs, f.halt.trans c.halt⟩
  show execSupplyStateChange s = _
  simp only [execSupplyStateChange, first]
  rfl

/-- Of two windows the one to `CRITICAL` is first, unless the other completes before it. -/
theorem firstExit_two (x y : Nat × SupplyState) : firstExit [x, y] = some (if x.1 ≤ y.1 then x else y) := by
  simp only [firstExit]
  split
  all_goals rfl

theorem Supply.exits_normal {u : Supply} (normal : u.state = .normal) :
    u.exits = (u.crit.map fun t => (t + 500, SupplyState.critical)).toList ++
      (u.low.map fun t => (t + 2000, SupplyState.low)).toList := by
  unfold Supply.exits
  rw [normal]
  cases u.crit <;> cases u.low <;> rfl

theorem Supply.exits_low {u : Supply} (low : u.state = .low) :
    u.exits = (u.crit.map fun t => (t + 500, SupplyState.critical)).toList ++
      (u.up.map fun t => (t + 2000, SupplyState.normal)).toList := by
  unfold Supply.exits
  rw [low]
  cases u.crit <;> cases u.up <;> rfl

/-- The window to `CRITICAL` and another that leads to `to_`: the first wins where they complete together (R64). -/
theorem firstExit_critical {c : Nat} {other : Option Nat} {to_ : SupplyState}
    (first : ∀ t, other = some t → c + 500 ≤ t + 2000) :
    firstExit (((some c).map fun t => (t + 500, SupplyState.critical)).toList ++
      (other.map fun t => (t + 2000, to_)).toList) = some (c + 500, .critical) := by
  cases other with
  | none => rfl
  | some t => exact (firstExit_two _ _).trans (congrArg some (if_pos (first t rfl)))

theorem firstExit_other {t : Nat} {crit : Option Nat} {to_ : SupplyState}
    (first : ∀ c, crit = some c → t + 2000 < c + 500) :
    firstExit ((crit.map fun t => (t + 500, SupplyState.critical)).toList ++
      ((some t).map fun t => (t + 2000, to_)).toList) = some (t + 2000, to_) := by
  cases crit with
  | none => rfl
  | some c => exact (firstExit_two _ _).trans (congrArg some (if_neg (Nat.not_le.mpr (first c rfl))))

/-! ### The engine counted started (R64) -/

theorem touches_engine (side : Side) : touches [.engine] side = false := rfl

/-- An engine that is counted started sets the window from NORMAL to LOW back; of the inputs it changes its own alone. -/
theorem State.countInputs_engine {s : State} (raw : s.inputs.engine.raw = true)
    (started : s.inputs.engine.counted ≠ some true) :
    (s.countInputs [.engine]).inputs.engine.counted = some true ∧
      (s.countInputs [.engine]).supply = { s.supply with low := none } := by
  have counted : (s.inputs.countAll [.engine]).engine.counted = some true := by rw [← raw]; rfl
  have hands (t : State) (v : Inputs) (h : t.inputs.engine.counted = some true) (n : v.engine.counted ≠ some true) :
      t.handEngine v = { t with supply := { t.supply with low := none } } := by
    unfold State.handEngine
    rw [h]
    rcases e : v.engine.counted with _ | _ | _
    · rfl
    · rfl
    · exact absurd e n
  unfold State.countInputs
  dsimp only
  rw [State.handDoor, if_neg (by simp [touches_engine]), State.handDoor, if_neg (by simp [touches_engine]),
    hands _ _ counted started, (State.handMaster_spec _ _).1]
  exact ⟨counted, rfl⟩

/-- `INPUT_COUNTED_CHANGE` of an engine that has started: the window from NORMAL to LOW is set back (R33, R64). -/
theorem State.engine_started {s : State} (raw : s.inputs.engine.raw = true)
    (started : s.inputs.engine.counted ≠ some true) :
    ∃ x : State, exec (.inputCountedChange [.engine]) s = .next x.conclude ∧ x.inputs.engine.counted = some true ∧
      x.supply = { s.supply with low := none } := by
  have moves : (s.inputs.get .engine).counted ≠ some (s.inputs.get .engine).raw := by
    show s.inputs.engine.counted ≠ some s.inputs.engine.raw
    rwa [raw]
  have due : s.inputs.due [.engine] = [.engine] := by
    show List.filter _ [DInput.engine] = _
    rw [List.filter_singleton, (Debounced.moving_iff _).mpr moves]
    rfl
  have c := s.passTo_counts (s.inputs.dueAt (s.inputs.due [.engine]))
  have spec := State.countInputs_engine (s := s.passTo (s.inputs.dueAt (s.inputs.due [.engine])))
    (by rwa [c.inputs]) (by rwa [c.inputs])
  rw [c.supply] at spec
  refine ⟨s.counted [.engine], exec_inputCountedChange_counted ⟨.engine, List.mem_singleton_self _, moves⟩, ?_⟩
  rw [State.counted, due]
  rwa [due] at spec

/-- Settles O44: what a voltage does to the windows by the state it meets, and each change of state by the window that
completes first. -/
theorem supplyStateChanges : Obligations.SupplyStateChanges := by
  intro s goes window p u
  have below (v bound : Int) (since : Option Nat) : holdSince (decide (v < bound)) s.now since = window (v < bound) since :=
    holdSince_eq decide_eq_true_iff _ _
  have reached (v bound : Int) (since : Option Nat) :
      holdSince (decide (bound ≤ v)) s.now since = window (bound ≤ v) since := holdSince_eq decide_eq_true_iff _ _
  refine ⟨State.supplyScan_lost, fun v ok value => ⟨fun normal => ?_, fun low => ?_, fun critical => ?_, fun unknown => ?_⟩,
    State.engine_started, fun c normal crit first => ?_, fun l normal low first => ?_, fun c low crit first => ?_,
    fun t low up first => ?_, fun t critical up => ?_, fun unknown => ?_⟩
  · have test : (decide (v < p.batLow) && !s.engineOn) = true ↔ v < p.batLow ∧ s.inputs.engine.counted ≠ some true := by
      rw [Bool.and_eq_true, decide_eq_true_iff, Bool.not_eq_true', ← Bool.not_eq_true, s.engineOn_iff]
    rw [State.supplyScan_known ok value normal nofun, Supply.watch_normal normal, holdSince_eq test, below]
  · rw [State.supplyScan_known ok value low nofun, Supply.watch_low low, below, reached]
  · rw [State.supplyScan_known ok value critical nofun, Supply.watch_critical critical, reached]
  · exact State.supplyScan_first ok value unknown
  · refine State.supplyGoes_of_first ?_
    rw [Supply.exits_normal normal, crit]
    exact firstExit_critical first
  · refine State.supplyGoes_of_first ?_
    rw [Supply.exits_normal normal, low]
    exact firstExit_other first
  · refine State.supplyGoes_of_first ?_
    rw [Supply.exits_low low, crit]
    exact firstExit_critical first
  · refine State.supplyGoes_of_first ?_
    rw [Supply.exits_low low, up]
    exact firstExit_other first
  · refine State.supplyGoes_of_first ?_
    rw [Supply.exits, critical, up]
    rfl
  · show execSupplyStateChange s = _
    rw [execSupplyStateChange, Supply.exits, unknown]
    rfl

end Sys2Proof.Machine
end

section
/-!
SUPPORT. A scan in the converter (R110, R113 to R122): the reference, and what each channel's history, runs, status and value
become.
-/

namespace Sys2Proof.Machine

/-! ### The reference (R120, R121) -/

theorem refInRange_iff (code : Nat) : refInRange code = true ↔ 2008 ≤ code ∧ code ≤ 2088 := by
  rw [refInRange, Bool.and_eq_true, decide_eq_true_iff, decide_eq_true_iff]

theorem Converter.reference_good {v : Converter} {code : Nat} (inside : refInRange code = true) (good : v.refGood = true) :
    v.reference code = { v with ch9 := some code } := by
  rw [Converter.reference, if_pos inside, if_pos good]

theorem Converter.reference_recovers {v : Converter} {code : Nat} (inside : refInRange code = true)
    (bad : v.refGood = false) :
    v.reference code =
      { v with ch9 := some code, refRun := min 20 (v.refRun + 1), refGood := decide (20 ≤ v.refRun + 1) } := by
  rw [Converter.reference, if_pos inside, if_neg (by simp [bad])]
  rfl

/-- A reference in range is no failure (R120). -/
theorem Converter.reference_kept {v : Converter} {code : Nat} (inside : refInRange code = true) :
    (v.reference code).refFails = v.refFails := by
  cases good : v.refGood
  · rw [Converter.reference_recovers inside good]
  · rw [Converter.reference_good inside good]

theorem Converter.reference_bad {v : Converter} {code : Nat} (outside : ¬refInRange code = true) :
    v.reference code =
      { v with
        ch9 := some code, refGood := false, refRun := 0
        refFails := if v.refGood then min 255 (v.refFails + 1) else v.refFails } := by
  rw [Converter.reference, if_neg outside]
  rfl

/-! ### One channel (R115 to R119) -/

theorem histCap_eq : ∀ n : Fin 9, histCap n = if n = 0 ∨ n = 1 then 4 else if n = 5 then 16 else 1 := by decide

theorem histCap_pos : ∀ n : Fin 9, histCap n ≠ 0 := by decide

theorem inBand_iff (n : Fin 9) (code : Nat) : inBand n code = true ↔ 4 < n.val ∨ (48 ≤ code ∧ code ≤ 4047) := by
  simp only [inBand, banded, Bool.or_eq_true, Bool.not_eq_true', decide_eq_false_iff_not, Nat.not_le, Bool.and_eq_true,
    decide_eq_true_iff]

section
variable {c : Channel} {n : Fin 9} {code : Nat}

/-- A code in band enters the history (R115, R118). -/
theorem Channel.accept_inside (inside : inBand n code = true) :
    c.accept n code =
      { c with
        hist := (code :: c.hist).take (histCap n), badRun := 0, goodRun := min 20 (c.goodRun + 1), fresh := true } := by
  rw [Channel.accept, if_pos inside]
  rfl

/-- A code out of band does not (R117). -/
theorem Channel.accept_outside (outside : ¬inBand n code = true) (early : c.badRun < 2) :
    c.accept n code = { c with badRun := c.badRun + 1, goodRun := 0, fresh := false } := by
  have bad : satSucc 3 c.badRun = c.badRun + 1 := Nat.min_eq_right (by omega)
  rw [Channel.accept, if_neg outside]
  simp only [bad]
  exact if_neg fun h => by omega

/-- The third in a row fails the channel (R117). -/
theorem Channel.accept_third (outside : ¬inBand n code = true) (late : 2 ≤ c.badRun) (alive : c.status ≠ .failed) :
    c.accept n code = { c with status := .failed, hist := [], badRun := 3, goodRun := 0, fresh := false } := by
  have bad : satSucc 3 c.badRun = 3 := Nat.min_eq_left (by omega)
  rw [Channel.accept, if_neg outside]
  simp only [bad]
  exact if_pos ⟨trivial, alive⟩

theorem Channel.accept_value : (c.accept n code).value = c.value := by
  unfold Channel.accept
  dsimp only
  repeat' split
  all_goals rfl

/-- No code makes a channel `OK` before its history is looked at. -/
theorem Channel.accept_not_ok (other : c.status ≠ .ok) : (c.accept n code).status ≠ .ok := by
  unfold Channel.accept
  dsimp only
  repeat' split
  · exact other
  · nofun
  · exact other

/-- When a channel may be `OK` (R116, R118). -/
theorem Channel.ready_iff (good : Bool) :
    c.ready n good = true ↔
      good = true ∧ c.hist.length = histCap n ∧ (c.status = .failed → n.val ≤ 4 → 20 ≤ c.goodRun) := by
  simp only [Channel.ready, banded, Bool.and_eq_true, Bool.or_eq_true, decide_eq_true_iff, bne_iff_ne, Bool.not_eq_true',
    decide_eq_false_iff_not, and_assoc]
  refine and_congr_right' (and_congr_right' ?_)
  tauto

variable (good : Bool) (k : Cal)

/-- A scan changes status and value alone of what the code has made of the channel. -/
theorem Channel.scan_same :
    c.scan n code good k =
      { c.accept n code with
        status := (c.scan n code good k).status, value := (c.scan n code good k).value } := by
  unfold Channel.scan Channel.measure Channel.settle
  repeat' split
  all_goals rfl

/-- The status after a scan (R116 to R118). -/
theorem Channel.scan_status :
    (c.scan n code good k).status = if (c.accept n code).ready n good then .ok else (c.accept n code).status := by
  have measured (d : Channel) : (d.measure n k).status = d.status := by
    unfold Channel.measure
    split <;> rfl
  rw [Channel.scan, measured, Channel.settle]
  by_cases ok : (c.accept n code).status = .ok
  · rw [if_neg fun h => h.1 ok, ok, ite_self]
  · cases ready : (c.accept n code).ready n good
    · rw [if_neg nofun]
      rfl
    · rw [if_pos ⟨ok, rfl⟩]
      rfl

/-- A channel that is not `OK` is so after a scan exactly when it may be. -/
theorem Channel.scan_ok_iff (other : c.status ≠ .ok) :
    (c.scan n code good k).status = .ok ↔ (c.accept n code).ready n good = true := by
  rw [Channel.scan_status]
  split
  · next ready => exact iff_of_true rfl ready
  · next idle => exact iff_of_false (Channel.accept_not_ok other) idle

/-- The value after a scan (R113, R114, R119). -/
theorem Channel.scan_value :
    (c.scan n code good k).value =
      if (c.scan n code good k).status = .ok then some (k.convert n (meanOf (c.scan n code good k).hist)) else c.value := by
  have measured (d : Channel) (e : d.value = c.value) :
      (d.measure n k).value =
        if (d.measure n k).status = .ok then some (k.convert n (meanOf (d.measure n k).hist)) else c.value := by
    unfold Channel.measure
    split
    · rfl
    · exact e
  refine measured _ ?_
  rw [Channel.settle]
  split
  · exact Channel.accept_value
  · exact Channel.accept_value

theorem Channel.scan_hist : (c.scan n code good k).hist = (c.accept n code).hist := by rw [Channel.scan_same]

theorem Channel.scan_badRun : (c.scan n code good k).badRun = (c.accept n code).badRun := by rw [Channel.scan_same]

theorem Channel.scan_goodRun : (c.scan n code good k).goodRun = (c.accept n code).goodRun := by rw [Channel.scan_same]

theorem Channel.scan_fresh : (c.scan n code good k).fresh = (c.accept n code).fresh := by rw [Channel.scan_same]

/-- A bad reference makes no channel `OK` (R116, R121). -/
theorem Channel.scan_bad_reference (other : c.status ≠ .ok) : (c.scan n code false k).status ≠ .ok := fun ok =>
  nomatch ((Channel.ready_iff _).mp ((Channel.scan_ok_iff false k other).mp ok)).1

/-- A code in band: the history and the runs (R115, R117, R118). -/
theorem Channel.scan_inside (inside : inBand n code = true) :
    (c.scan n code good k).hist = (code :: c.hist).take (histCap n) ∧ (c.scan n code good k).badRun = 0 ∧
      (c.scan n code good k).goodRun = min 20 (c.goodRun + 1) ∧ (c.status = .ok → (c.scan n code good k).status = .ok) := by
  refine ⟨?_, ?_, ?_, fun ok => ?_⟩
  · rw [Channel.scan_hist, Channel.accept_inside inside]
  · rw [Channel.scan_badRun, Channel.accept_inside inside]
  · rw [Channel.scan_goodRun, Channel.accept_inside inside]
  · rw [Channel.scan_status, Channel.accept_inside inside]
    split
    · rfl
    · exact ok

/-- A code in band and a good reference make a channel `OK` with a full history, and a failed one that has a band only with 20
codes in band (R116, R118). -/
theorem Channel.scan_enters (inside : inBand n code = true) :
    (c.status = .init →
      ((c.scan n code true k).status = .ok ↔ (c.scan n code true k).hist.length = histCap n)) ∧
    (c.status = .failed →
      ((c.scan n code true k).status = .ok ↔
        (c.scan n code true k).hist.length = histCap n ∧ (n.val ≤ 4 → 19 ≤ c.goodRun))) := by
  have status : (c.accept n code).status = c.status := by rw [Channel.accept_inside inside]
  have run : (c.accept n code).goodRun = min 20 (c.goodRun + 1) := by rw [Channel.accept_inside inside]
  refine ⟨fun init => ?_, fun failed => ?_⟩
  · rw [Channel.scan_ok_iff true k (by rw [init]; nofun), Channel.ready_iff, Channel.scan_hist, status, init]
    exact ⟨fun h => h.2.1, fun h => ⟨rfl, h, nofun⟩⟩
  · rw [Channel.scan_ok_iff true k (by rw [failed]; nofun), Channel.ready_iff, Channel.scan_hist, status, run]
    refine ⟨fun ⟨_, full, band⟩ => ⟨full, fun le => ?_⟩, fun ⟨full, band⟩ => ⟨rfl, full, fun _ le => ?_⟩⟩
    · have := band failed le
      omega
    · have := band le
      omega

/-- A code out of band that is not the third in a row leaves the history (R117). -/
theorem Channel.scan_outside (outside : ¬inBand n code = true) (early : c.badRun < 2) :
    (c.scan n code good k).hist = c.hist ∧ (c.scan n code good k).fresh = false := by
  rw [Channel.scan_hist, Channel.scan_fresh, Channel.accept_outside outside early]
  exact ⟨rfl, rfl⟩

/-- The third code in a row out of band fails the channel, which keeps its last good value (R117, R119). -/
theorem Channel.scan_third (outside : ¬inBand n code = true) (late : 2 ≤ c.badRun) (alive : c.status ≠ .failed) :
    (c.scan n code good k).status = .failed ∧ (c.scan n code good k).hist = [] ∧
      (c.scan n code good k).value = c.value := by
  have accepted := Channel.accept_third outside late alive
  have idle : ¬(c.accept n code).ready n good = true := fun ready => by
    have full := ((Channel.ready_iff _).mp ready).2.1
    rw [accepted] at full
    exact histCap_pos n full.symm
  have failed : (c.scan n code good k).status = .failed := by
    rw [Channel.scan_status, if_neg idle, accepted]
  refine ⟨failed, ?_, ?_⟩
  · rw [Channel.scan_hist, accepted]
  · rw [Channel.scan_value, failed]
    exact if_neg nofun

end

/-! ### The table of channels -/

theorem Converter.scan_chan {v : Converter} {codes : Scan} (cal : Vector Cal 9) (inside : refInRange codes[9].toNat = true)
    (n : Fin 9) :
    (v.scan codes cal).chans[n] =
      (v.chans[n]).scan n (codes[n.val]'(by omega)).toNat (v.reference codes[9].toNat).refGood cal[n] := by
  simp [Converter.scan, inside]

theorem Converter.scan_dropped {v : Converter} {codes : Scan} (cal : Vector Cal 9)
    (outside : ¬refInRange codes[9].toNat = true) (n : Fin 9) : (v.scan codes cal).chans[n] = (v.chans[n]).drop := by
  simp [Converter.scan, outside]

section
variable (v : Converter) (codes : Scan) (cal : Vector Cal 9)

theorem Converter.scan_reference :
    (v.scan codes cal).refGood = (v.reference codes[9].toNat).refGood ∧
      (v.scan codes cal).refRun = (v.reference codes[9].toNat).refRun ∧
      (v.scan codes cal).refFails = (v.reference codes[9].toNat).refFails := ⟨rfl, rfl, rfl⟩

theorem Converter.reference_same (code : Nat) :
    v.reference code =
      { v with
        ch9 := some code, refGood := (v.reference code).refGood, refRun := (v.reference code).refRun
        refFails := (v.reference code).refFails } := by
  unfold Converter.reference
  repeat' split
  all_goals rfl

/-- The reference code is kept, and the filters follow CH2 and CH3 (R121, R122). -/
theorem Converter.scan_filters :
    (v.scan codes cal).ch9 = some codes[9].toNat ∧
      (v.scan codes cal).pitchF = filterStep v.pitchF v.chans[(2 : Fin 9)] (v.scan codes cal).chans[(2 : Fin 9)] ∧
      (v.scan codes cal).rollF = filterStep v.rollF v.chans[(3 : Fin 9)] (v.scan codes cal).chans[(3 : Fin 9)] := by
  refine ⟨?_, rfl, rfl⟩
  show (v.reference codes[9].toNat).ch9 = _
  rw [Converter.reference_same]

end

/-! ### The incline filters (R122) -/

section
variable {f : Option Int} {before c : Channel} {x : Int} (value : c.value = some x)
include value

theorem filterStep_enters (ok : c.status = .ok) (fresh : c.fresh = true) (other : before.status ≠ .ok) :
    filterStep f before c = some (32 * x) := by
  simp only [filterStep, value, if_pos (And.intro ok fresh), if_neg other]
  cases f <;> rfl

theorem filterStep_follows {g : Int} (ok : c.status = .ok) (fresh : c.fresh = true) (was : before.status = .ok) :
    filterStep (some g) before c = some (g + x - roundDiv g 32) := by
  simp only [filterStep, value, if_pos (And.intro ok fresh), if_pos was]

theorem filterStep_idle (idle : ¬(c.status = .ok ∧ c.fresh = true)) : filterStep f before c = f := by
  simp only [filterStep, value, if_neg idle]

end

end Sys2Proof.Machine
end

section
/-!
SUPPORT. The report of the conditions takes no time and leaves the present load (R35, R88): one lemma for each operation that
it uses, in terms of `State.Steady`.
-/

namespace Sys2Proof.Machine

/-- From `s` to `t` no time has passed and no pressure value has been taken. -/
structure State.Steady (s t : State) : Prop where
  now : t.now = s.now
  presentLoad : t.axis.presentLoad = s.axis.presentLoad

theorem State.Steady.refl (s : State) : s.Steady s := ⟨rfl, rfl⟩

theorem State.Steady.trans {s t u : State} (a : s.Steady t) (b : t.Steady u) : s.Steady u :=
  ⟨b.now.trans a.now, b.presentLoad.trans a.presentLoad⟩

theorem State.Steady.foldl {α : Type} (f : State → α → State) (hf : ∀ (s : State) (x : α), s.Steady (f s x)) (xs : List α)
    (s : State) : s.Steady (xs.foldl f s) :=
  List.foldlRecOn xs f (motive := s.Steady) (.refl s) fun t ht x _ => ht.trans (hf t x)

theorem State.Counts.presentLoad {s t : State} (c : s.Counts t) : t.axis.presentLoad = s.axis.presentLoad := by
  rcases c.slowed with ⟨axis, -⟩ | ⟨run, x, -, -, -, -, axis, -⟩
  · rw [axis]
  · rw [axis]
    rfl

theorem State.count_steady (s : State) (src : List Source) (o : Option Origin) (side : Option Side) (load : Nat) :
    s.Steady (s.count src o side load) := ⟨s.count_now _ _ _ _, (s.count_counts _ _ _ _).presentLoad⟩

/-! ### Runs and holds -/

theorem State.leaveRun_steady (s : State) : s.Steady s.leaveRun := by
  unfold State.leaveRun State.storeLoad
  repeat' split
  all_goals exact ⟨rfl, rfl⟩

theorem State.pumpStart_steady (s : State) (o : Origin) : s.Steady (s.pumpStart o) := by
  unfold State.pumpStart
  refine State.Steady.trans ?_ (State.count_steady _ _ _ _ _)
  exact ⟨rfl, rfl⟩

theorem State.enterRunning_steady (s : State) (h : Handle) : s.Steady (s.enterRunning h) := by
  unfold State.enterRunning
  split
  · dsimp only
    split
    · refine State.Steady.trans ?_ (State.pumpStart_steady _ _)
      exact ⟨rfl, rfl⟩
    · exact ⟨rfl, rfl⟩
  · exact .refl s

theorem State.hold_steady (s : State) (h : Handle) (c : Cond) : s.Steady (s.hold h c) := by
  cases f : s.find h with
  | none =>
    simp only [State.hold, f]
    exact .refl s
  | some r =>
    rw [State.hold_eq f]
    have paused : s.Steady (s.paused r) := by
      unfold State.paused
      split
      · exact s.leaveRun_steady
      · exact .refl s
    refine State.Steady.trans ?_ (State.count_steady _ _ _ _ _)
    exact paused.trans ⟨rfl, rfl⟩

theorem State.proceed_steady (s : State) (r : Record) : s.Steady (s.proceed r) := by
  unfold State.proceed
  split
  · exact s.hold_steady _ _
  · split
    · exact ⟨rfl, rfl⟩
    · exact s.enterRunning_steady _

/-! ### Endings -/

theorem State.stopOutputs_steady (s : State) (r : Record) : s.Steady (s.stopOutputs r) := by
  unfold State.stopOutputs
  split
  · next side _ =>
    split
    · cases side <;> exact ⟨rfl, rfl⟩
    · exact .refl s
  · split
    · exact s.leaveRun_steady
    · exact .refl s

theorem State.release_steady (s : State) (r : Record) (moved : Bool) : s.Steady (s.release r moved) := by
  unfold State.release
  split
  · next side _ =>
    split
    · cases moved <;> cases side <;> exact ⟨rfl, rfl⟩
    · exact .refl s
  · split
    · cases moved <;> exact ⟨rfl, rfl⟩
    · exact .refl s

theorem State.endOne_steady (s : State) (h : Handle) (o : RecOutcome) (why : Option EndReason) :
    s.Steady (s.endOne h o why) := by
  cases f : s.find h with
  | none =>
    rw [State.endOne_absent f]
    exact .refl s
  | some r =>
    rw [State.endOne_eq f]
    have listed : s.Steady (s.listed r o why) := (s.stopOutputs_steady r).trans ⟨rfl, rfl⟩
    refine State.Steady.trans ?_ (State.count_steady _ _ _ _ _)
    exact listed.trans (State.release_steady _ _ _)

theorem State.endChain_steady : ∀ (fuel : Nat) (s : State) (h : Handle) (o : RecOutcome) (why : Option EndReason),
    s.Steady (s.endChain fuel h o why)
  | 0, s, _, _, _ => .refl s
  | fuel + 1, s, h, o, why => by
    unfold State.endChain
    refine (s.endOne_steady h o why).trans ?_
    cases o with
    | done => exact State.Steady.foldl State.freePred (fun _ _ => ⟨rfl, rfl⟩) _ _
    | stopped | failed | cancelled => exact State.Steady.foldl _ (fun t k => State.endChain_steady fuel t k _ _) _ _

theorem State.endTree_steady (s : State) (h : Handle) (o : RecOutcome) (why : Option EndReason) :
    s.Steady (s.endTree h o why) := State.endChain_steady _ _ _ _ _

/-! ### The report -/

theorem State.judge_steady (s : State) (h : Handle) : s.Steady (s.judge h) := by
  unfold State.judge
  cases s.find h with
  | none => exact .refl s
  | some r =>
    dsimp only
    cases r.state <;> dsimp only <;> repeat' split
    all_goals
      first
      | exact .refl s
      | exact s.endTree_steady _ _ _
      | exact s.hold_steady _ _
      | exact s.proceed_steady _
      | exact s.enterRunning_steady _
      | exact ⟨rfl, rfl⟩

theorem State.report_steady (s : State) : s.Steady s.report := State.Steady.foldl _ State.judge_steady _ _

end Sys2Proof.Machine
end

section
/-!
SUPPORT. What a scan does to a run (R69, R75, R79, R84, R86 to R90): the stall mark, the arming of the overload test, the
ground and overload times, the change to CREEP and the coast stop.
-/

namespace Sys2Proof.Machine

/-! ### The run data (R84, R86, R88, R89) -/

section
variable (run : Run) (pos : Int) (now : Nat)

theorem Run.mark_same :
    run.mark pos now = { run with markPos := (run.mark pos now).markPos, markAt := (run.mark pos now).markAt } := by
  unfold Run.mark
  split <;> rfl

theorem Run.mark_spec :
    (run.progressed pos = true → (run.mark pos now).markPos = pos ∧ (run.mark pos now).markAt = now) ∧
      (¬run.progressed pos = true → run.mark pos now = run) := by
  refine ⟨fun on => ?_, fun stays => if_neg stays⟩
  rw [Run.mark, if_pos on]
  exact ⟨rfl, rfl⟩

theorem Run.arm_same (start : Option Pos) : run.arm start pos = { run with armed := (run.arm start pos).armed } := by
  unfold Run.arm
  split
  · split <;> rfl
  · rfl
  · rfl

/-- When the overload test is armed (R89). -/
theorem Run.arm_iff (start : Option Pos) :
    (run.arm start pos).armed = true ↔
      run.armed = true ∨ (run.lift = true ∧ run.dir = .up ∧ ∃ a, start = some (.value a) ∧ 50 ≤ pos - a) := by
  rcases start with _ | a | d
  · simp [Run.arm]
  · simp only [Run.arm, Bool.and_eq_true, beq_iff_eq, decide_eq_true_iff, Option.some.injEq, Pos.value.injEq,
      exists_eq_left', and_assoc]
    split
    · next arms => exact iff_of_true rfl (.inr arms)
    · next idle => exact (or_iff_left idle).symm
  · simp [Run.arm]

/-- The mark moves with 5 units of progress (R84). -/
theorem Run.progressed_iff :
    run.progressed pos = true ↔
      match run.dir with
      | .up => run.markPos + 5 ≤ pos
      | .down => pos ≤ run.markPos - 5 := by
  unfold Run.progressed
  cases run.dir <;> exact decide_eq_true_iff

/-- A mark does not change whether a height arms the overload test. -/
theorem Run.mark_arm (start : Option Pos) :
    (run.mark pos now).arm start pos = { run.mark pos now with armed := (run.arm start pos).armed } := by
  rw [Run.arm_same, Run.mark_same]
  unfold Run.arm
  rcases start with _ | a | d
  · rfl
  · dsimp only
    split <;> rfl
  · rfl

theorem Run.press_same (p : Plain) (v : Int) :
    run.press p v now =
      { run with
        groundSince := (run.press p v now).groundSince, overSince := (run.press p v now).overSince
        runLoad := (run.press p v now).runLoad } := by
  unfold Run.press
  split
  · split <;> rfl
  · rfl

end

section
variable (s : State) (r : Record) (run : Run) (pos : Int)

/-- The run data that a scan changes in a record that runs. -/
theorem State.runScan_eq :
    s.runScan r run pos =
      { run.mark pos s.now with
        armed := (run.arm r.start pos).armed, groundSince := (s.runScan r run pos).groundSince
        overSince := (s.runScan r run pos).overSince, runLoad := (s.runScan r run pos).runLoad } := by
  have mark := run.mark_arm pos s.now r.start
  have fields : (run.mark pos s.now).groundSince = run.groundSince := by rw [Run.mark_same]
  unfold State.runScan
  split
  · rw [Run.press_same, mark]
  · rw [mark]

/-- The stall mark and the arming of a scan (R84, R89). -/
theorem State.runScan_marks :
    (s.runScan r run pos).markPos = (run.mark pos s.now).markPos ∧
      (s.runScan r run pos).markAt = (run.mark pos s.now).markAt ∧
      (s.runScan r run pos).armed = (run.arm r.start pos).armed := by
  rw [State.runScan_eq]
  exact ⟨rfl, rfl, rfl⟩

/-- What a scan leaves of the run data. -/
theorem State.runScan_same :
    s.runScan r run pos =
      { run with
        markPos := (s.runScan r run pos).markPos, markAt := (s.runScan r run pos).markAt
        armed := (s.runScan r run pos).armed, groundSince := (s.runScan r run pos).groundSince
        overSince := (s.runScan r run pos).overSince, runLoad := (s.runScan r run pos).runLoad } := by
  obtain ⟨markPos, markAt, armed⟩ := s.runScan_marks r run pos
  have e := s.runScan_eq r run pos
  rw [Run.mark_same] at e
  rw [markPos, markAt, armed]
  exact e

theorem State.runScan_kept :
    (s.runScan r run pos).lift = run.lift ∧ (s.runScan r run pos).dir = run.dir ∧
      (s.runScan r run pos).target = run.target ∧ (s.runScan r run pos).coast = run.coast ∧
      (s.runScan r run pos).cls = run.cls ∧ (s.runScan r run pos).pump = run.pump ∧
      (s.runScan r run pos).runAcc = run.runAcc ∧ (s.runScan r run pos).runFrom = run.runFrom := by
  rw [State.runScan_same]
  exact ⟨rfl, rfl, rfl, rfl, rfl, rfl, rfl, rfl⟩

section
variable {v : Int} (ok : s.chanOk 4 = true) (value : s.chanValue 4 = some v)
include ok value

/-- With a pressure value the run takes it (R86, R89, R90). -/
theorem State.runScan_press :
    s.runScan r run pos =
      Run.press
        { run with
          markPos := (run.mark pos s.now).markPos, markAt := (run.mark pos s.now).markAt
          armed := (run.arm r.start pos).armed }
        s.settings.plain v s.now := by
  simp only [State.runScan, ok, value, Run.mark_arm]
  rw [Run.mark_same]

/-- The ground time of a `LIFT` going down (R86). -/
theorem State.runScan_ground (lift : run.lift = true) (down : run.dir = .down) :
    (s.runScan r run pos).groundSince =
      if v < s.settings.plain.gndPres then some (run.groundSince.getD s.now) else none := by
  rw [State.runScan_press s r run pos ok value]
  simp only [Run.press, lift, down, if_true]
  exact holdSince_eq decide_eq_true_iff _ _

/-- The load and the overload time of a `LIFT` going up (R88 to R90). -/
theorem State.runScan_over (lift : run.lift = true) (up : run.dir = .up) :
    (s.runScan r run pos).runLoad = some (s.settings.plain.load v) ∧
      (s.runScan r run pos).overSince =
        if (run.arm r.start pos).armed = true ∧ s.settings.plain.ratedKg < (s.settings.plain.load v : Int) then
          some (run.overSince.getD s.now)
        else none := by
  have test : ((run.arm r.start pos).armed && decide (s.settings.plain.ratedKg < (s.settings.plain.load v : Int))) = true ↔
      (run.arm r.start pos).armed = true ∧ s.settings.plain.ratedKg < (s.settings.plain.load v : Int) := by
    rw [Bool.and_eq_true, decide_eq_true_iff]
  rw [State.runScan_press s r run pos ok value]
  simp only [Run.press, lift, up, if_true]
  exact ⟨trivial, holdSince_eq test _ _⟩

/-- A run of another axis takes no pressure. -/
theorem State.runScan_tilt (tilt : run.lift = false) :
    (s.runScan r run pos).groundSince = run.groundSince ∧ (s.runScan r run pos).overSince = run.overSince := by
  rw [State.runScan_press s r run pos ok value]
  simp only [Run.press, tilt]
  exact ⟨rfl, rfl⟩

end

end

/-! ### The end of a run by its coast stop (R74, R79, R80, R90) -/

/-- A scan makes the coast stop at this position (R79, R87). -/
def Run.coasts (run : Run) (pos : Int) : Prop :=
  ¬(run.lift = true ∧ run.dir = .down ∧ run.target = 0) ∧ run.rem pos ≤ run.coast

theorem Run.coasts_iff (run : Run) (pos : Int) :
    (!run.noStop && decide (run.rem pos ≤ run.coast)) = true ↔ run.coasts pos := by
  simp only [Run.noStop, Run.coasts, Bool.and_eq_true, Bool.not_eq_true', Bool.and_eq_false_iff, decide_eq_true_iff,
    not_and_or, beq_eq_false_iff_ne, decide_eq_false_iff_not, Bool.not_eq_true, or_assoc, ne_eq]

/-- The run data of a run that ends (R74). -/
def Run.left (run : Run) (now : Nat) : Run :=
  { run with
    runAcc := run.runAcc + (now - run.runFrom), runKind := none, cls := none, groundSince := none, overSince := none
    runLoad := none }

section
variable {s : State} {run : Run} (axis : s.axis.run = some run)
include axis

theorem State.leaveRun_run : s.leaveRun.axis.run = some (run.left s.now) := by
  unfold State.leaveRun
  rw [axis]
  dsimp only
  rw [State.storeLoad_same]
  split <;> rfl

/-- The last load is that of the last pressure value of an upward run (R90). -/
theorem State.leaveRun_lastLoad :
    (∀ w, run.lift = true → run.dir = .up → run.runLoad = some w → s.leaveRun.axis.lastLoad = w) ∧
      (¬(run.lift = true ∧ run.dir = .up) → s.leaveRun.axis.lastLoad = s.axis.lastLoad) := by
  refine ⟨fun w lift up load => ?_, fun other => ?_⟩
  · simp only [State.leaveRun, axis, State.storeLoad, lift, up, load]
    split <;> rfl
  · have idle : ¬(run.lift && run.dir == .up) = true := by simpa using other
    simp only [State.leaveRun, axis, State.storeLoad, if_neg idle]
    split <;> rfl

/-- What a coast stop leaves (R79, R80). -/
theorem State.coastStop_spec {h : Handle} {r : Record} (f : s.find h = some r) :
    (s.coastStop h).find h = some { r with state := .settling, wait := none } ∧
      (s.coastStop h).axis =
        { s.leaveRun.axis with
          run := some { run.left s.now with settleEnd := some (s.now + s.settings.plain.settle.toNat) } } ∧
      (s.coastStop h).arb = s.leaveRun.arb := by
  have found : s.leaveRun.find h = some r := by
    rw [s.leaveRun_same]
    exact f
  refine ⟨State.find_upd found (fun y => { y with state := .settling, wait := none }) (State.find_spec f).1, ?_, rfl⟩
  have run_eq := State.leaveRun_run axis
  unfold State.coastStop
  simp only [State.upd_axis, run_eq]
  rfl

end

/-! ### The scan at the axis controller -/

section
variable {s : State} {r : Record} {run : Run} {pos : Int} (holder : s.packRecord = some r) (axis : s.axis.run = some run)
  (ok : s.chanOk r.kind.axisChan = true) (value : s.chanValue r.kind.axisChan = some pos)
include holder axis ok value

/-- In `RUNNING` the scan is taken into the run, which then stops, goes to CREEP or goes on. -/
theorem State.axisScan_running (running : r.state = .running) :
    (run.coasts pos →
      s.axisScan =
        { s with axis := { s.axis with run := some (s.runScan r run pos) } }.coastStop r.handle) ∧
    (¬run.coasts pos → run.cls = some .fast ∧ run.rem pos ≤ s.settings.plain.slowZone run.lift →
      s.axisScan = s.creepRun (s.runScan r run pos)) ∧
    (¬run.coasts pos → ¬(run.cls = some .fast ∧ run.rem pos ≤ s.settings.plain.slowZone run.lift) →
      s.axisScan = { s with axis := { s.axis with run := some (s.runScan r run pos) } }) := by
  obtain ⟨lift, dir, target, coast, cls, -⟩ := s.runScan_kept r run pos
  have stops : (!(s.runScan r run pos).noStop &&
      decide ((s.runScan r run pos).rem pos ≤ (s.runScan r run pos).coast)) = true ↔ run.coasts pos := by
    rw [Run.coasts_iff, Run.coasts, Run.coasts, Run.rem, Run.rem, lift, dir, target, coast]
  have slows : (s.runScan r run pos).cls = some .fast ∧
      (s.runScan r run pos).rem pos ≤ s.settings.plain.slowZone (s.runScan r run pos).lift ↔
        run.cls = some .fast ∧ run.rem pos ≤ s.settings.plain.slowZone run.lift := by
    rw [Run.rem, Run.rem, lift, dir, target, cls]
  simp only [State.axisScan, holder, axis, ok, value, running]
  refine ⟨fun coasts => ?_, fun goes slow => ?_, fun goes fast => ?_⟩
  · rw [if_pos (stops.mpr coasts)]
  · rw [if_neg (mt stops.mp goes), if_pos (slows.mpr slow)]
    rfl
  · rw [if_neg (mt stops.mp goes), if_neg (mt slows.mp fast)]

/-- The scan that makes the coast stop: the record settles, and the run has ended with its load stored (R79, R80, R90). -/
theorem State.axisScan_stops (running : r.state = .running) (coasts : run.coasts pos) :
    ∃ y new, s.axisScan.find r.handle = some y ∧ y.state = .settling ∧ y.wait = none ∧ s.axisScan.axis.run = some new ∧
      new.settleEnd = some (s.now + s.settings.plain.settle.toNat) ∧ new.cls = none ∧ new.runKind = none ∧
      new.runAcc = run.runAcc + (s.now - run.runFrom) ∧ s.axisScan.axis.valves = .off ∧
      (run.lift = true → run.dir = .up → ∀ v, s.chanOk 4 = true → s.chanValue 4 = some v →
        s.axisScan.axis.lastLoad = s.settings.plain.load v) ∧
      (¬(run.lift = true ∧ run.dir = .up) → s.axisScan.axis.lastLoad = s.axis.lastLoad) ∧
      (run.pump = true → s.axisScan.arb.contactor = .opened ∧ s.axisScan.arb.restUntil = some (s.now + 500)) := by
  rw [(State.axisScan_running holder axis ok value running).1 coasts]
  obtain ⟨lift, dir, -, -, -, pump, runAcc, runFrom⟩ := s.runScan_kept r run pos
  set t : State := { s with axis := { s.axis with run := some (s.runScan r run pos) } }
  have now : t.axis.run = some (s.runScan r run pos) := rfl
  obtain ⟨find, stopped, arb⟩ := State.coastStop_spec now (State.packRecord_spec holder).1
  obtain ⟨valves, left, -⟩ := State.leaveRun_some now
  obtain ⟨stored, kept⟩ := State.leaveRun_lastLoad now
  rw [lift, dir] at stored kept
  rw [stopped, arb, left, pump]
  refine ⟨_, _, find, rfl, rfl, rfl, rfl, rfl, rfl, ?_, valves, fun up upward v pressure load => ?_, kept, fun on => ?_⟩
  · rw [← runAcc, ← runFrom]
    rfl
  · exact stored _ up upward (State.runScan_over s r run pos pressure load up upward).1
  · rw [if_pos on]
    exact ⟨rfl, rfl⟩

/-- The scan that makes no coast stop: the run goes on, in CREEP from the slow zone on (R75). -/
theorem State.axisScan_goesOn (running : r.state = .running) (goes : ¬run.coasts pos) :
    ∃ cls valves,
      s.axisScan =
        { s with axis := { s.axis with run := some { s.runScan r run pos with cls := cls }, valves := valves } } ∧
      (run.cls = some .fast ∧ run.rem pos ≤ s.settings.plain.slowZone run.lift →
        cls = some .creep ∧ valves = valvesFor run.lift run.dir (some .creep)) ∧
      (¬(run.cls = some .fast ∧ run.rem pos ≤ s.settings.plain.slowZone run.lift) →
        cls = run.cls ∧ valves = s.axis.valves) := by
  obtain ⟨-, slows, keeps⟩ := State.axisScan_running holder axis ok value running
  obtain ⟨lift, dir, -, -, cls, -⟩ := s.runScan_kept r run pos
  by_cases slow : run.cls = some .fast ∧ run.rem pos ≤ s.settings.plain.slowZone run.lift
  · refine ⟨some .creep, valvesFor run.lift run.dir (some .creep), ?_, fun _ => ⟨rfl, rfl⟩, fun fast => absurd slow fast⟩
    rw [slows goes slow, State.creepRun, ← lift, ← dir]
  · refine ⟨run.cls, s.axis.valves, ?_, fun h => absurd h slow, fun _ => ⟨rfl, rfl⟩⟩
    rw [keeps goes slow, ← cls]

/-- In `LEAD` and `SETTLING` the position arms the overload test alone (R89). -/
theorem State.axisScan_arms (waits : r.state = .lead ∨ r.state = .settling) :
    s.axisScan = { s with axis := { s.axis with run := some (run.arm r.start pos) } } := by
  rcases waits with e | e <;> simp only [State.axisScan, holder, axis, ok, value, e]

theorem State.axisScan_holding (holding : r.state = .holding) : s.axisScan = s := by
  simp only [State.axisScan, holder, axis, ok, value, holding]

end

end Sys2Proof.Machine
end

section
/-!
A scan (O51): the converter, the order in which the readers take the scan (log entry 9), the first supply value and the scan in
a run, in the terms of R63, R75, R79, R84, R86 to R90 and R110 to R122.
-/

namespace Sys2Proof.Machine

/-! ### The readers of a scan (R111) -/

/-- The readers before the close of the event leave the conversions, the supply monitor and the link as they are, and only
queue notices. -/
structure State.Reads (s t : State) : Prop where
  conv : t.conv = s.conv
  supply : t.supply = s.supply
  link : t.link = s.link
  notes : ∃ ns, t.notes = s.notes.pushAll ns

theorem State.Reads.trans {s t u : State} (a : s.Reads t) (b : t.Reads u) : s.Reads u where
  conv := b.conv.trans a.conv
  supply := b.supply.trans a.supply
  link := b.link.trans a.link
  notes := by
    obtain ⟨x, hx⟩ := a.notes
    obtain ⟨y, hy⟩ := b.notes
    exact ⟨x ++ y, by rw [hy, hx, NoticeQueue.pushAll_append]⟩

theorem State.Follows.reads {s t : State} (f : s.Follows t) : s.Reads t := ⟨f.conv, f.supply, f.link, f.notes⟩

theorem State.FollowsDoors.reads {s t : State} {sides : List Side} (f : s.FollowsDoors t sides) : s.Reads t :=
  ⟨f.1.conv, f.1.supply, f.1.link, f.1.notes⟩

theorem State.takeLoad_follows (s : State) : s.Follows s.takeLoad := by
  unfold State.takeLoad
  split
  · exact .quiet
  · exact .refl s

theorem State.takeLoad_now (s : State) : s.takeLoad.now = s.now := by
  unfold State.takeLoad
  split <;> rfl

theorem State.axisScan_follows (s : State) : s.Follows s.axisScan := by
  unfold State.axisScan
  dsimp only
  repeat' split
  all_goals
    first
    | exact .refl s
    | exact .quiet
    | exact State.Follows.trans .quiet (State.coastStop_follows _ _)

theorem State.pumpScan_follows (s : State) : s.Follows s.pumpScan := .quiet

theorem State.doorCurrent_reads (s : State) (side : Side) (wasOk : Bool) : s.Reads (s.doorCurrent side wasOk) := by
  unfold State.doorCurrent
  dsimp only
  repeat' split
  all_goals
    first
    | exact (State.Follows.refl s).reads
    | exact (s.obstruct_follows _ _).reads
    | exact (s.setDoor_follows _ _).reads

/-- The supply monitor's part of a scan changes its own state and queues its notice alone. -/
theorem State.supplyScan_same (s : State) :
    s.supplyScan = { s with supply := s.supplyScan.supply, notes := s.supplyScan.notes } := by
  unfold State.supplyScan
  split
  · split <;> rfl
  · rfl

/-! ### The scan from its codes to the close of the event (R110, R125) -/

/-- The converter has taken the codes at their time (R110). -/
def State.scanTaken (s : State) (codes : Scan) : State :=
  let b := s.passTo s.conv.nextAt
  { b with conv := { b.conv.scan codes b.settings.cal with nextAt := nextDue b.conv.nextAt Config.scanMs b.now } }

/-- The present load and the conditions have followed. -/
def State.scanReported (s : State) (codes : Scan) : State := (s.scanTaken codes).takeLoad.report

/-- The other readers have taken the scan. -/
def State.scanRead (s : State) (codes : Scan) : State :=
  ((s.scanReported codes).supplyScan.axisScan.pumpScan.doorCurrent .near (s.chanOk 7)).doorCurrent .off (s.chanOk 8)

section
variable (s : State) (codes : Scan)

theorem State.takeScan_eq : s.takeScan codes = (s.scanRead codes).completeCalp.conclude.drain := by
  have was (n : Fin 9) : (s.passTo s.conv.nextAt).chanOk n = s.chanOk n := by
    unfold State.chanOk
    rw [(s.passTo_counts _).conv]
  unfold State.takeScan State.scan
  simp only [was]
  rfl

theorem State.scanTaken_conv :
    ∃ next, (s.scanTaken codes).conv = { s.conv.scan codes s.settings.cal with nextAt := next } := by
  have c := s.passTo_counts s.conv.nextAt
  refine ⟨nextDue (s.passTo s.conv.nextAt).conv.nextAt Config.scanMs (s.passTo s.conv.nextAt).now, ?_⟩
  rw [State.scanTaken, c.conv, c.settings]

theorem State.scanReported_follows : (s.scanTaken codes).Follows (s.scanReported codes) :=
  (State.takeLoad_follows _).trans (State.report_follows _)

theorem State.scanReported_now : (s.scanReported codes).now = max s.now s.conv.nextAt :=
  ((State.report_steady _).now.trans (State.takeLoad_now _)).trans (s.passTo_now _)

/-- The present load follows the pressure value (R88). -/
theorem State.scanReported_load (ok : (s.scanTaken codes).chanOk 4 = true) {v : Int}
    (value : (s.scanTaken codes).chanValue 4 = some v) :
    (s.scanReported codes).axis.presentLoad = s.settings.plain.load v := by
  have settings : (s.scanTaken codes).settings = s.settings := (s.passTo_counts _).settings
  refine (State.report_steady _).presentLoad.trans ?_
  rw [← settings]
  simp only [State.takeLoad, ok, value]

theorem State.scanRead_reads : (s.scanReported codes).supplyScan.Reads (s.scanRead codes) :=
  (((State.axisScan_follows _).trans (State.pumpScan_follows _)).reads.trans
    (State.doorCurrent_reads _ .near _)).trans (State.doorCurrent_reads _ .off _)

/-- The conversions of a scan stand at its end (R110). -/
theorem State.takeScan_conv_eq : (s.takeScan codes).conv = (s.scanTaken codes).conv := by
  have closed : State.Frames _ _ :=
    ((State.completeCalp_takes (s.scanRead codes)).frames.trans (State.conclude_follows _).frames).trans
      (State.drain_takes _).frames
  have supplied : (s.scanReported codes).supplyScan.conv = (s.scanReported codes).conv := by rw [State.supplyScan_same]
  rw [State.takeScan_eq, closed.conv, (s.scanRead_reads codes).conv, supplied, (s.scanReported_follows codes).conv]

/-- With no `CALP` waiting and nothing on the line the event ends with its close. -/
theorem State.takeScan_quiet (calp : s.link.calp = none) (fifo : s.link.fifo = []) (complete : s.link.complete = none) :
    (s.scanRead codes).Reads (s.takeScan codes) := by
  have supplied : (s.scanReported codes).supplyScan.link = (s.scanReported codes).link := by rw [State.supplyScan_same]
  have link : (s.scanRead codes).link = s.link := by
    rw [(s.scanRead_reads codes).link, supplied, (s.scanReported_follows codes).link]
    exact (s.passTo_counts _).link
  have idle : (s.scanRead codes).completeCalp = s.scanRead codes := by
    simp only [State.completeCalp, link, calp]
  have f := (s.scanRead codes).conclude_follows
  rw [State.takeScan_eq, idle, State.drain_empty]
  · exact f.reads
  · rw [f.link, link, fifo]
  · rw [f.link, link, complete]

/-- The first supply value gives the supply its state, with its notice (R63, R65). -/
theorem State.takeScan_first_supply {v : Int} (calp : s.link.calp = none) (fifo : s.link.fifo = [])
    (complete : s.link.complete = none) (first : s.supply.state = .unknown)
    (ok : ((s.takeScan codes).conv.chans[(5 : Fin 9)]).status = .ok)
    (value : ((s.takeScan codes).conv.chans[(5 : Fin 9)]).value = some v) :
    (s.takeScan codes).supply.state = s.settings.plain.band v ∧
      s.queued (s.takeScan codes) (.supply .unknown (s.settings.plain.band v) v) := by
  have c := s.passTo_counts s.conv.nextAt
  have f := s.scanReported_follows codes
  rw [s.takeScan_conv_eq, ← f.conv] at ok value
  have unknown : (s.scanReported codes).supply.state = .unknown := by
    rw [f.supply]
    exact (congrArg Supply.state c.supply).trans first
  have settings : (s.scanReported codes).settings = s.settings := f.settings.trans c.settings
  obtain ⟨w, state, eq⟩ := State.supplyScan_first ok value unknown
  rw [settings] at state eq
  have reads := (s.scanRead_reads codes).trans (s.takeScan_quiet codes calp fifo complete)
  rw [eq] at reads
  obtain ⟨before, hb⟩ := (s.passTo_follows s.conv.nextAt).notes
  obtain ⟨middle, ht⟩ := f.notes
  obtain ⟨after, ha⟩ := reads.notes
  refine ⟨(congrArg Supply.state reads.supply).trans state, before ++ middle, after, ?_⟩
  rw [ha, NoticeQueue.pushAll_append, ← hb]
  exact congrArg (fun q : NoticeQueue => (q.push _).pushAll after) ht

/-- The readers take the scan in the order of log entry 9 (R111). -/
theorem State.takeScan_order {m : State} (reported : (s.scanReported codes).supplyScan = m) :
    s.takeScan codes =
        ((m.axisScan.pumpScan.doorCurrent .near (s.chanOk 7)).doorCurrent .off (s.chanOk 8)).completeCalp.conclude.drain ∧
      m.conv = (s.takeScan codes).conv ∧ m.now = max s.now s.conv.nextAt ∧ m.inputs = s.inputs ∧ m.settings = s.settings ∧
      ((s.scanTaken codes).chanOk 4 = true → ∀ v, (s.scanTaken codes).chanValue 4 = some v →
        m.axis.presentLoad = s.settings.plain.load v) := by
  have c := s.passTo_counts s.conv.nextAt
  have f := s.scanReported_follows codes
  subst reported
  refine ⟨s.takeScan_eq codes, ?_, ?_, ?_, ?_, fun ok v value => ?_⟩
  · rw [s.takeScan_conv_eq, State.supplyScan_same, f.conv]
  · rw [State.supplyScan_same, s.scanReported_now]
  · rw [State.supplyScan_same, f.inputs]
    exact c.inputs
  · rw [State.supplyScan_same, f.settings]
    exact c.settings
  · rw [State.supplyScan_same, s.scanReported_load codes ok value]

theorem State.takeScan_conv :
    ∃ next, (s.takeScan codes).conv = { s.conv.scan codes s.settings.cal with nextAt := next } := by
  rw [s.takeScan_conv_eq]
  exact s.scanTaken_conv codes

/-- The reference after a scan is that of the converter (R120, R121). -/
theorem State.takeScan_reference :
    (s.takeScan codes).conv.refGood = (s.conv.reference codes[9].toNat).refGood ∧
      (s.takeScan codes).conv.refRun = (s.conv.reference codes[9].toNat).refRun ∧
      (s.takeScan codes).conv.refFails = (s.conv.reference codes[9].toNat).refFails := by
  obtain ⟨next, conv⟩ := s.takeScan_conv codes
  rw [conv]
  exact s.conv.scan_reference codes s.settings.cal

theorem State.takeScan_chan (inside : refInRange codes[9].toNat = true) (n : Fin 9) :
    (s.takeScan codes).conv.chans[n] =
      (s.conv.chans[n]).scan n (codes[n.val]'(by omega)).toNat (s.takeScan codes).conv.refGood s.settings.cal[n] := by
  rw [(s.takeScan_reference codes).1]
  obtain ⟨next, conv⟩ := s.takeScan_conv codes
  rw [conv]
  exact Converter.scan_chan s.settings.cal inside n

theorem State.takeScan_dropped (outside : ¬refInRange codes[9].toNat = true) (n : Fin 9) :
    (s.takeScan codes).conv.chans[n] = (s.conv.chans[n]).drop := by
  obtain ⟨next, conv⟩ := s.takeScan_conv codes
  rw [conv]
  exact Converter.scan_dropped s.settings.cal outside n

end

/-- Settles O51: the converter's part channel by channel, the readers in their order, and the axis controller's part by the
state of the record that holds the pack. -/
theorem scanConverts : Obligations.ScanConverts := by
  unfold Obligations.ScanConverts
  refine ⟨fun s codes scanning => ?_, fun s r run pos holder axis ok value => ⟨?_, fun running goes => ?_, ?_, ?_⟩,
    fun f before c x value => ?_⟩
  · obtain ⟨next, conv⟩ := s.takeScan_conv codes
    obtain ⟨ch9, pitch, roll⟩ := s.conv.scan_filters codes s.settings.cal
    obtain ⟨good, run, fails⟩ := s.takeScan_reference codes
    refine ⟨s.takeScan codes, ?_, ?_, ?_, ?_, s.takeScan_order codes rfl, fun low high => ?_, ?_, fun outside => ?_,
      fun low high wasGood => ?_⟩
    · show execScanResult codes s = _
      rw [execScanResult, if_pos scanning]
    · rw [conv]
      exact ch9
    · rw [conv]
      exact pitch
    · rw [conv]
      exact roll
    · have inside := (refInRange_iff _).mpr ⟨low, high⟩
      refine ⟨?_, fun bad => ?_, fun n => ?_⟩
      · rw [fails]
        exact Converter.reference_kept inside
      · rw [good, run, Converter.reference_recovers inside bad]
        exact ⟨rfl, decide_eq_true_iff.trans Nat.succ_le_succ_iff⟩
      · rw [s.takeScan_chan codes inside n]
        refine ⟨fun bad other => ?_, fun band => ?_⟩
        · rw [bad]
          exact Channel.scan_bad_reference _ other
        · have band := (inBand_iff n _).mpr band
          refine ⟨(Channel.scan_inside _ _ band).2.2.1, fun good => ?_, fun good => ?_⟩
          · rw [good, ← histCap_eq]
            exact (Channel.scan_enters _ band).1
          · rw [good, ← histCap_eq]
            exact (Channel.scan_enters _ band).2
    · intro v calp fifo complete first chan reading
      obtain ⟨state, queued⟩ := s.takeScan_first_supply codes calp fifo complete first chan reading
      exact ⟨state, state ▸ queued⟩
    · have outside := mt (refInRange_iff _).mp outside
      rw [good, run, fails, Converter.reference_bad outside]
      exact ⟨rfl, rfl, rfl, s.takeScan_dropped codes outside⟩
    · have inside := (refInRange_iff _).mpr ⟨low, high⟩
      refine ⟨?_, fun n => ?_⟩
      · rw [good, Converter.reference_good inside wasGood]
        exact wasGood
      · rw [s.takeScan_chan codes inside n]
        refine ⟨fun banded out early => ?_, fun banded out late alive => ?_, fun band => ?_, fun ok => ?_⟩
        · exact Channel.scan_outside _ _ (mt (inBand_iff n _).mp (by omega)) early
        · exact Channel.scan_third _ _ (mt (inBand_iff n _).mp (by omega)) late alive
        · obtain ⟨hist, bad, -, stays⟩ := Channel.scan_inside _ _ ((inBand_iff n _).mpr band)
          rw [← histCap_eq]
          exact ⟨hist, bad, stays⟩
        · rw [Channel.scan_value, if_pos ok]
  · exact State.axisScan_stops holder axis ok value
  · obtain ⟨cls, valves, scanned, slows, keeps⟩ := State.axisScan_goesOn holder axis ok value running goes
    obtain ⟨markPos, markAt, armed⟩ := s.runScan_marks r run pos
    obtain ⟨on, stays⟩ := run.mark_spec pos s.now
    have arms := run.arm_iff pos r.start
    have moved := run.progressed_iff pos
    rw [scanned]
    refine ⟨{ s.runScan r run pos with cls := cls }, rfl, ?_, slows, keeps, fun marks => ?_, fun marks => ?_, ?_,
      fun v pressure load => ⟨?_, fun lift up => ?_, ?_⟩⟩
    · conv_lhs => rw [State.runScan_same]
    · rw [markPos, markAt]
      exact on (moved.mpr marks)
    · rw [markPos, markAt, stays (mt moved.mp marks)]
      exact ⟨rfl, rfl⟩
    · rw [armed]
      exact arms
    · exact State.runScan_ground s r run pos pressure load
    · obtain ⟨taken, timed⟩ := State.runScan_over s r run pos pressure load lift up
      refine ⟨taken, fun arm above => timed.trans (if_pos ⟨arms.mpr arm, above⟩), fun idle => timed.trans (if_neg ?_)⟩
      rintro ⟨arm, above⟩
      exact idle.elim (· (arms.mp arm)) (Int.not_le.mpr above)
    · exact State.runScan_tilt s r run pos pressure load
  · intro waits
    rw [State.axisScan_arms holder axis ok value waits]
    exact ⟨(run.arm r.start pos).armed, by rw [← Run.arm_same], run.arm_iff pos r.start⟩
  · exact State.axisScan_holding holder axis ok value
  · exact ⟨fun chan fresh other => filterStep_enters value chan fresh other,
      fun g known chan fresh was => known ▸ filterStep_follows value chan fresh was, filterStep_idle value, by decide, by decide⟩

end Sys2Proof.Machine
end

section
/-!
The judgement after the settle time (O41): the moment at which the settle timer has passed, the endings it leads to and the
nudge, in the terms of R78 and R80 to R82.
-/

namespace Sys2Proof.Machine

/-! ### Run data replaced -/

/-- The run data replaced, with nothing else changed. -/
def State.withRun (s : State) (run : Run) : State := { s with axis := { s.axis with run := some run } }

/-- Run data of the same class, axis, direction and drive keep the agreement. -/
theorem State.Sound.withRun {s : State} (h : s.Sound) {run new : Run} (axis : s.axis.run = some run)
    (cls : new.cls = run.cls := by rfl) (lift : new.lift = run.lift := by rfl) (dir : new.dir = run.dir := by rfl)
    (pump : new.pump = run.pump := by rfl) : (s.withRun new).Sound where
  records := h.records
  pack := by
    rcases h.pack with ⟨-, none, -⟩ | ⟨x, run', r, held⟩
    · rw [axis] at none
      cases none
    · obtain rfl : run = run' := Option.some.inj (axis.symm.trans held.axis)
      refine .inr ⟨x, new, r, held.pack, rfl, held.find, held.side, held.granted, fun running => ?_, fun rests => ?_⟩
      · rw [cls, lift, dir, pump]
        exact held.driven running
      · rw [cls]
        exact held.still rests
  door side := by
    rcases h.door side with ⟨channel, phase, motorOpen, motorClose, latch⟩ | ⟨x, p, r, held⟩
    · exact .inl (by cases side <;> exact ⟨channel, phase, motorOpen, motorClose, latch⟩)
    · refine .inr ⟨x, p, r, ?_⟩
      obtain ⟨channel, phase, find, ofSide, running, motorOpen, motorClose, latch, moving⟩ := held
      cases side <;> exact ⟨channel, phase, find, ofSide, running, motorOpen, motorClose, latch, moving⟩

/-! ### The holder of the pack when its timer has passed -/

/-- `m` is a later moment of `s` in which records, resources and outputs agree: the holder `r` of the pack still holds it, as
`y`, with the kind and the position to report that it had in `s`. -/
structure State.StillHeld (s m : State) (r y : Record) : Prop where
  sound : m.Sound
  follows : s.Follows m
  found : m.find r.handle = some y
  kind : y.kind = r.kind
  pos : m.endPos y = s.endPos r
  holds : m.holdsPack r.handle = true

section
variable {s m : State} {r y : Record} (held : s.StillHeld m r y)
include held

/-- The ending of the pack's holder at a later moment (R13, R48). -/
theorem State.StillHeld.ends (o : RecOutcome) (why : Option EndReason) :
    s.Ends (m.endTree r.handle o why) r o why ∧ (m.endTree r.handle o why).packFree := by
  have handle := (State.find_spec held.found).1
  have ends := State.endTree_ends (handle.symm ▸ held.found) o why
  rw [handle] at ends
  exact ⟨ends.since held.follows handle held.kind held.pos, held.sound.endTree_packFree held.holds o why⟩

/-- A change of the holder's flags leaves it the holder. -/
theorem State.StillHeld.upd_flags {f : Record → Record} (flags : ∀ r, f r = { r with flags := (f r).flags }) :
    s.StillHeld (m.upd r.handle f) r (f y) where
  sound := held.sound.upd_flags r.handle flags
  follows := held.follows.trans (m.upd_follows _ _)
  found := State.find_upd held.found f (by rw [flags]; exact (State.find_spec held.found).1)
  kind := by
    rw [flags]
    exact held.kind
  pos := by
    rw [← held.pos, flags]
    unfold State.endPos
    cases y.side with
    | none => rfl
    | some side => cases side <;> rfl
  holds := held.holds

end

/-- When the settle timer has passed, with the run data as it is then (R80). -/
theorem State.Sound.passTo_stillHeld {s : State} (sound : s.Sound) {r : Record} {run : Run} (holder : s.packRecord = some r)
    (axis : s.axis.run = some run) (settling : r.state = .settling) (t0 : Nat) :
    run.cls = none ∧ ∃ y, y.bare = r.bare ∧ ∀ new : Run, new.cls = run.cls → new.lift = run.lift → new.dir = run.dir →
      new.pump = run.pump → s.StillHeld ((s.passTo t0).withRun new) r y := by
  obtain ⟨f, hp⟩ := State.packRecord_spec holder
  have c := s.passTo_counts t0
  obtain ⟨-, -, -, run', axis', cls⟩ := sound.still f (by rw [settling]; rfl) (by rw [settling]; nofun)
  obtain rfl : run = run' := Option.some.inj (axis.symm.trans axis')
  have same := (c.unslowed fun run' h => .inl (by
    obtain rfl : run = run' := Option.some.inj (axis.symm.trans h)
    rw [cls]
    nofun)).1
  obtain ⟨y, hy, e⟩ := c.find f
  refine ⟨cls, y, e, fun new hcls hlift hdir hpump => ⟨?_, ?_, hy, Record.bare_kind e, c.endPos e, ?_⟩⟩
  · exact (c.sound sound).withRun (same ▸ axis) hcls hlift hdir hpump
  · exact (s.passTo_follows t0).trans .quiet
  · exact (c.holdsPack _).trans hp

/-! ### The judgement (R81) -/

/-- The shortfall judged is the remaining distance. -/
theorem Run.verdict_eq (run : Run) (tol pos : Int) :
    run.verdict tol pos = if run.rem pos < -tol then .over else if tol < run.rem pos then .short else .done := by
  unfold Run.verdict Run.rem
  cases run.dir <;> rfl

/-- The record flagged `OVERSHOT`. -/
def Record.overshoot (r : Record) : Record := { r with flags := { r.flags with overshot := true } }

/-- The run data with the settle timer stopped, and whether a nudge is due (R80, R82). -/
def Run.timed (run : Run) (due : Bool) : Run := { run with settleEnd := none, nudgeDue := due }

/-- What each judgement leads to (R81, R82). -/
theorem State.settled_eq (s : State) (r : Record) (run : Run) :
    s.settled r run =
      match run.verdict (s.settings.plain.tolerance run.lift) (s.reported r.kind.axisChan) with
      | .done => (s.withRun (run.timed run.nudgeDue)).endTree r.handle .done none
      | .over => ((s.withRun (run.timed run.nudgeDue)).upd r.handle Record.overshoot).endTree r.handle .done none
      | .short =>
        if (r.nudges : Int) < s.settings.plain.nudges then (s.withRun (run.timed true)).proceed r
        else (s.withRun (run.timed run.nudgeDue)).endTree r.handle .failed (some .short) := by
  unfold State.settled
  cases run.verdict (s.settings.plain.tolerance run.lift) (s.reported r.kind.axisChan) <;> rfl

/-! ### The nudge (R78, R82) -/

section
variable {s m : State} {r y : Record} {run : Run} (held : s.StillHeld m r y) (bare : y.bare = r.bare)
  (axis : m.axis.run = some run) (due : run.nudgeDue = true)
include held bare axis due

/-- A nudge that finds a PAUSE-class condition false waits in `HOLDING` and stays due. -/
theorem State.StillHeld.nudge_held (settling : r.state = .settling) (cls : run.cls = none) (c : Cond) :
    ∃ z new, (m.hold r.handle c).find r.handle = some z ∧ (m.hold r.handle c).axis.run = some new ∧ z.state = .holding ∧
      z.wait = some (.cond c) ∧ new.nudgeDue = true := by
  have rests : y.state ≠ .running := by
    rw [Record.bare_state bare, settling]
    nofun
  obtain ⟨t, rfl, counts, -⟩ := State.hold_still held.found rests c
  obtain ⟨z, hz, e⟩ := counts.find (State.find_upd held.found (fun y => y.held c m.now) (State.find_spec held.found).1)
  have same := (counts.unslowed fun run' h => .inl (by
    obtain rfl : run = run' := Option.some.inj (axis.symm.trans h)
    rw [cls]
    nofun)).1
  refine ⟨z, run, hz, same ▸ axis, ?_, ?_, due⟩
  · rw [Record.bare_eq e]
    rfl
  · rw [Record.bare_eq e]
    rfl

/-- A nudge during pump rest waits for it in `SETTLING` and stays due. -/
theorem State.StillHeld.nudge_rested (settling : r.state = .settling) {x : State}
    (eq : x = m.upd r.handle fun y => { y with wait := some .rest, leadEnd := none }) :
    ∃ z new, x.find r.handle = some z ∧ x.axis.run = some new ∧ z.state = .settling ∧ z.wait = some .rest ∧
      new.nudgeDue = true := by
  subst eq
  exact ⟨_, run, State.find_upd held.found _ (State.find_spec held.found).1, axis, (Record.bare_state bare).trans settling,
    rfl, due⟩

/-- A nudge runs in CREEP with the creep coast, and is counted (R75, R78, R82). -/
theorem State.StillHeld.nudge_runs :
    ∃ z new, (m.enterRunning r.handle).find r.handle = some z ∧ (m.enterRunning r.handle).axis.run = some new ∧
      z.state = .running ∧ z.nudges = r.nudges + 1 ∧ new.runKind = some .nudge ∧ new.cls = some .creep ∧
        new.nudgeDue = false ∧ new.coast = if run.lift then s.settings.plain.liftCrep else s.settings.plain.tiltCrep := by
  obtain ⟨cls, derated, begins, how⟩ := State.enterRunning_begins held.found axis held.holds
  have creep : (m.startRun y run).cls = some .creep := by simp [State.startRun, State.startClass, due]
  have slow : cls = .creep := by
    rcases how with ⟨same, -⟩ | ⟨-, rfl, -⟩
    · exact Option.some.inj (same.trans creep)
    · rfl
  have nudges : y.nudges = r.nudges := by rw [Record.bare_eq bare]
  refine ⟨_, _, begins.find, begins.axis, rfl, ?_, ?_, congrArg some slow, rfl, ?_⟩
  · simp [State.startRecord, due, nudges]
  · simp [State.startRun, due]
  · rw [← held.follows.settings]
    cases lift : run.lift <;> simp [State.startRun, Plain.coast, due, lift]

end

/-- Settles O41: the verdict on the remaining distance, and the ending or the nudge that it leads to. -/
theorem settleJudges : Obligations.SettleJudges := by
  intro s r run t0 sound holder axis settling timer
  have c := s.passTo_counts t0
  obtain ⟨cls, y, bare, still⟩ := ((State.sound_iff s).mp sound).passTo_stillHeld holder axis settling t0
  have ended := still (run.timed run.nudgeDue) rfl rfl rfl rfl
  have nudge := still (run.timed true) rfl rfl rfl rfl
  have now := s.passTo_now t0
  have reported : (s.passTo t0).reported r.kind.axisChan = s.reported r.kind.axisChan := by
    unfold State.reported State.chanValue
    rw [c.conv]
  intro pos short tol
  have judged := (s.passTo t0).settled_eq r run
  rw [c.settings, reported, Run.verdict_eq, show run.rem (s.reported r.kind.axisChan) = short from rfl,
    show s.settings.plain.tolerance run.lift = tol from rfl] at judged
  have row : exec .settleTimerExpiry s = .next ((s.passTo t0).settled r run).conclude := by
    show execSettleTimerExpiry s = _
    simp only [execSettleTimerExpiry, holder, axis, settling, timer]
  refine ⟨_, row, ?_, fun above below => ?_, fun past _ => ?_, fun above under spent => ?_, fun above under left => ?_⟩
  · rw [judged]
    split
    · exact (State.endTree_now _ _ _ _).trans now
    · exact (State.endTree_now _ _ _ _).trans now
    · split
      · exact (State.proceed_steady _ _).now.trans now
      · exact (State.endTree_now _ _ _ _).trans now
  · rw [judged, if_neg (by omega), if_neg (by omega)]
    exact ended.ends _ _
  · rw [judged, if_pos past]
    have flagged := ended.upd_flags (f := Record.overshoot) fun _ => rfl
    obtain ⟨ends, free⟩ := flagged.ends .done none
    have handle := (State.find_spec flagged.found).1
    obtain ⟨rest, recent⟩ := State.endTree_done_recent (handle.symm ▸ flagged.found) none
    rw [handle] at recent
    exact ⟨ends, free, _, rest, recent, handle, rfl⟩
  · rw [judged, if_neg (by omega), if_pos under]
    dsimp only
    rw [if_neg (by omega)]
    exact ended.ends _ _
  · rw [judged, if_neg (by omega), if_pos under]
    dsimp only
    rw [if_pos left]
    obtain ⟨holding, rested, runs⟩ := ((s.passTo t0).withRun (run.timed true)).proceed_cases r
    have lost : ((s.passTo t0).withRun (run.timed true)).pauseLost r = s.pauseLost r := c.pauseLost r
    have pump : ((s.passTo t0).withRun (run.timed true)).pumpOf r = s.pumpOf r := c.pumpOf r
    have rest : ((s.passTo t0).withRun (run.timed true)).resting = s.resting := c.resting
    rw [lost, pump, rest] at rested runs
    rw [lost] at holding
    cases lost' : s.pauseLost r with
    | some k =>
      obtain ⟨z, new, found, axis', state, wait, due⟩ := nudge.nudge_held bare rfl rfl settling cls k
      rw [holding k lost']
      refine ⟨z, new, found, axis', fun c' same => ?_, nofun, nofun⟩
      cases same
      exact ⟨state, wait, due⟩
    | none =>
      by_cases waits : s.pumpOf r = true ∧ s.resting = true
      · obtain ⟨z, new, found, axis', state, wait, due⟩ :=
          nudge.nudge_rested bare rfl rfl settling (rested lost' waits)
        refine ⟨z, new, found, axis', nofun, fun _ _ _ => ⟨state, wait, due⟩, fun _ other => ?_⟩
        rw [waits.1, waits.2] at other
        rcases other with other | other <;> cases other
      · obtain ⟨z, new, found, axis', ran⟩ := nudge.nudge_runs bare rfl rfl
        rw [runs lost' waits]
        exact ⟨z, new, found, axis', nofun, fun _ p q => absurd ⟨p, q⟩ waits, fun _ _ => ran⟩

end Sys2Proof.Machine
end

section
/-!
SUPPORT. One counter through an event and through active time, and the `SERVICE` notices that wait for the close of the event
(R163 to R168).
-/

namespace Sys2Proof.Machine

/-! ### One counter (R162, R164 to R168) -/

theorem OriginFilter.passes_iff (f : OriginFilter) (o : Option Origin) :
    f.passes o = true ↔
      f = .any ∨ (f = .link ∧ o = some .link) ∨ (f = .station ∧ ∃ j, o = some (.station j)) := by
  rcases o with _ | _ | j <;> cases f <;> simp [OriginFilter.passes]

theorem SideFilter.passes_iff (f : SideFilter) (side : Option Side) :
    f.passes side = true ↔ f = .any ∨ (f = .near ∧ side = some .near) ∨ (f = .off ∧ side = some .off) := by
  rcases side with _ | _ | _ <;> cases f <;> simp [SideFilter.passes]

theorem Counter.amount_eq (c : Counter) (load : Nat) :
    c.amount load = if c.load = true ∧ c.source = .liftCyc then max 1 ((load + 99) / 100) else 1 := by
  simp [Counter.amount]

/-- A raised counter first reaches its threshold (R168). -/
def Counter.Crosses (c : Counter) (value : Nat) : Prop :=
  c.value < value ∧ c.threshold ≠ 0 ∧ c.threshold ≤ value ∧ c.reached = false

/-- A counter within its range raised: it saturates, and at a crossing its reached flag is set (R167, R168). -/
theorem Counter.raise_spec {c : Counter} (valid : c.valid = true) (amount shown : Nat) :
    (c.Crosses (min 4294967295 (c.value + amount)) →
      c.raise amount shown = ({ c with value := min 4294967295 (c.value + amount), reached := true }, some shown)) ∧
    (¬c.Crosses (min 4294967295 (c.value + amount)) →
      c.raise amount shown = ({ c with value := min 4294967295 (c.value + amount) }, none)) := by
  obtain ⟨-, small, -⟩ := (Counter.valid_iff c).mp valid
  rw [show Config.counterMax = 4294967295 from rfl] at small
  unfold Counter.raise
  rw [show Config.counterMax = 4294967295 from rfl]
  dsimp only
  refine ⟨fun ⟨up, crosses⟩ => ?_, fun stays => ?_⟩
  · rw [if_neg (by omega), if_pos crosses]
  · split
    · next same => rw [same]
    · next up =>
      rw [if_neg fun crosses => stays ⟨by omega, crosses⟩]

theorem Counter.raise_source (c : Counter) (amount shown : Nat) : (c.raise amount shown).1.source = c.source := by
  unfold Counter.raise
  dsimp only
  repeat' split
  all_goals rfl

theorem Counter.take_source (c : Counter) (src : List Source) (o : Option Origin) (side : Option Side) (load : Nat) :
    (c.take src o side load).1.source = c.source := by
  unfold Counter.take
  split
  · exact c.raise_source _ _
  · rfl

/-- Active time raises a counter by its whole 100 ms and keeps the rest (R166). -/
theorem Counter.elapse_spec {c : Counter} (valid : c.valid = true) (ms : Nat) :
    (c.elapse ms).1.value = min 4294967295 (c.value + (c.residue + ms) / 100) ∧
      (c.elapse ms).1.residue = (c.residue + ms) % 100 := by
  have valid' : ({ c with residue := (c.residue + ms) % 100 } : Counter).valid = true := by
    rw [Counter.valid_iff] at valid ⊢
    dsimp only
    omega
  obtain ⟨crosses, stays⟩ := Counter.raise_spec valid' ((c.residue + ms) / 100) (max c.threshold (c.value + 1))
  unfold Counter.elapse
  by_cases h : ({ c with residue := (c.residue + ms) % 100 } : Counter).Crosses
      (min 4294967295 (c.value + (c.residue + ms) / 100))
  · rw [crosses h]
    exact ⟨rfl, rfl⟩
  · rw [stays h]
    exact ⟨rfl, rfl⟩

/-! ### An event at all counters (R164, R168, R169) -/

theorem State.count_frozen {s : State} (frozen : s.cnt.frozen = true) (src : List Source) (o : Option Origin)
    (side : Option Side) (load : Nat) : s.count src o side load = s := if_pos frozen

theorem State.count_thawed {s : State} (thawed : s.cnt.frozen = false) (src : List Source) (o : Option Origin)
    (side : Option Side) (load : Nat) :
    s.count src o side load = s.applyCounters fun _ c => c.take src o side load := by
  unfold State.count
  rw [thawed]
  rfl

theorem State.applyCounters_service (s : State) (f : Fin 8 → Counter → Counter × Option Nat) (i : Fin 8) :
    (s.applyCounters f).cnt.service[i] = (s.cnt.service[i]).or (f i s.cnt.recs[i]).2 := by
  simp [State.applyCounters, State.decideDerating_cnt]

theorem State.slowRun_notes (s : State) : s.slowRun.notes = s.notes := by
  unfold State.slowRun
  repeat' split
  all_goals rfl

theorem State.applyCounters_notes (s : State) (f : Fin 8 → Counter → Counter × Option Nat) :
    (s.applyCounters f).notes = s.notes := by
  unfold State.applyCounters State.decideDerating
  dsimp only
  split
  · exact State.slowRun_notes _
  · rfl

theorem Counter.derates_iff (c : Counter) : c.derates = true ↔ c.reached = true ∧ c.derate = true := Bool.and_eq_true_iff

/-! ### The notices that wait for the close of the event (R168) -/

/-- Every `SERVICE` notice that waits in `s` waits in `t`, and no counter has another source. -/
structure State.KeepsServices (s t : State) : Prop where
  waits : ∀ (i : Fin 8) (v : Nat), s.cnt.service[i] = some v → t.cnt.service[i] = some v
  source : ∀ i : Fin 8, (t.cnt.recs[i]).source = (s.cnt.recs[i]).source

theorem State.KeepsServices.same {s t : State} (cnt : t.cnt = s.cnt := by rfl) : s.KeepsServices t :=
  ⟨fun _ _ h => cnt ▸ h, fun _ => by rw [cnt]⟩

theorem State.KeepsServices.refl (s : State) : s.KeepsServices s := .same

theorem State.KeepsServices.trans {s t u : State} (a : s.KeepsServices t) (b : t.KeepsServices u) : s.KeepsServices u :=
  ⟨fun i v h => b.waits i v (a.waits i v h), fun i => (b.source i).trans (a.source i)⟩

theorem State.KeepsServices.foldl {α : Type} (f : State → α → State) (hf : ∀ (s : State) (x : α), s.KeepsServices (f s x))
    (xs : List α) (s : State) : s.KeepsServices (xs.foldl f s) :=
  List.foldlRecOn xs f (motive := s.KeepsServices) (.refl s) fun _ ht x _ => ht.trans (hf _ x)

theorem State.count_keepsServices (s : State) (src : List Source) (o : Option Origin) (side : Option Side) (load : Nat) :
    s.KeepsServices (s.count src o side load) := by
  cases frozen : s.cnt.frozen with
  | true =>
    rw [State.count_frozen frozen]
    exact .refl s
  | false =>
    rw [State.count_thawed frozen]
    refine ⟨fun i v waits => ?_, fun i => ?_⟩
    · rw [State.applyCounters_service, waits]
      rfl
    · rw [State.applyCounters_recs]
      exact Counter.take_source _ _ _ _ _

theorem State.enterRunning_keepsServices (s : State) (h : Handle) : s.KeepsServices (s.enterRunning h) := by
  unfold State.enterRunning
  split
  · dsimp only
    split
    · exact State.KeepsServices.trans .same (State.count_keepsServices _ _ _ _ _)
    · exact .same
  · exact .refl s

theorem State.paused_cnt (s : State) (r : Record) : (s.paused r).cnt = s.cnt := by
  unfold State.paused
  split
  · rw [s.leaveRun_same]
  · rfl

theorem State.hold_keepsServices (s : State) (h : Handle) (c : Cond) : s.KeepsServices (s.hold h c) := by
  cases f : s.find h with
  | none =>
    simp only [State.hold, f]
    exact .refl s
  | some r =>
    rw [State.hold_eq f]
    exact (State.KeepsServices.same (s.paused_cnt r)).trans
      (State.KeepsServices.trans .same (State.count_keepsServices _ _ _ _ _))

theorem State.proceed_keepsServices (s : State) (r : Record) : s.KeepsServices (s.proceed r) := by
  unfold State.proceed
  split
  · exact s.hold_keepsServices _ _
  · split
    · exact .same
    · exact s.enterRunning_keepsServices _

theorem State.endOne_keepsServices (s : State) (h : Handle) (o : RecOutcome) (why : Option EndReason) :
    s.KeepsServices (s.endOne h o why) := by
  cases f : s.find h with
  | none =>
    rw [State.endOne_absent f]
    exact .refl s
  | some r =>
    rw [State.endOne_eq f]
    exact (State.KeepsServices.same (s.quit_cnt o why r)).trans (State.count_keepsServices _ _ _ _ _)

theorem State.endChain_keepsServices : ∀ (fuel : Nat) (s : State) (h : Handle) (o : RecOutcome) (why : Option EndReason),
    s.KeepsServices (s.endChain fuel h o why)
  | 0, s, _, _, _ => .refl s
  | fuel + 1, s, h, o, why => by
    unfold State.endChain
    refine (s.endOne_keepsServices h o why).trans ?_
    cases o with
    | done => exact State.KeepsServices.foldl State.freePred (fun _ _ => .same) _ _
    | stopped | failed | cancelled =>
      exact State.KeepsServices.foldl _ (fun t k => State.endChain_keepsServices fuel t k _ _) _ _

theorem State.endTree_keepsServices (s : State) (h : Handle) (o : RecOutcome) (why : Option EndReason) :
    s.KeepsServices (s.endTree h o why) := State.endChain_keepsServices _ _ _ _ _

theorem State.judge_keepsServices (s : State) (h : Handle) : s.KeepsServices (s.judge h) := by
  unfold State.judge
  cases s.find h with
  | none => exact .refl s
  | some r =>
    dsimp only
    cases r.state <;> dsimp only <;> repeat' split
    all_goals
      first
      | exact s.endTree_keepsServices _ _ _
      | exact s.hold_keepsServices _ _
      | exact s.proceed_keepsServices _
      | exact s.enterRunning_keepsServices _
      | exact .same

theorem State.afterGrant_keepsServices (s : State) (h : Handle) (pump : Bool) : s.KeepsServices (s.afterGrant h pump) := by
  unfold State.afterGrant
  split
  · split
    · exact .same
    · exact s.enterRunning_keepsServices _
  · exact .same

theorem State.grantPack_keepsServices (s : State) (r : Record) : s.KeepsServices (s.grantPack r) := by
  rw [State.grantPack_eq]
  split
  · exact State.KeepsServices.trans .same (State.endTree_keepsServices _ _ _ _)
  · exact State.KeepsServices.trans .same (State.afterGrant_keepsServices _ _ _)

theorem State.setWaits_cnt (s : State) (rs : List Record) (w : WaitReason) : (s.setWaits rs w).cnt = s.cnt := by
  rw [State.setWaits_same]

theorem State.lookPack_keepsServices (s : State) : s.KeepsServices s.lookPack := by
  unfold State.lookPack
  split
  · exact .refl s
  · next r rest _ =>
    refine (State.KeepsServices.same (s.setWaits_cnt rest .pack)).trans ?_
    dsimp only
    repeat' split
    case isFalse.isFalse.isFalse => exact State.grantPack_keepsServices _ _
    all_goals exact .same

theorem State.grantDoor_keepsServices (s : State) (side : Side) (r : Record) : s.KeepsServices (s.grantDoor side r) := by
  unfold State.grantDoor
  dsimp only
  split
  · exact .same (by cases side <;> rfl)
  · exact State.KeepsServices.trans .same (State.endTree_keepsServices _ _ _ _)

theorem State.lookDoor_keepsServices (s : State) (side : Side) : s.KeepsServices (s.lookDoor side) := by
  unfold State.lookDoor
  split
  · exact .refl s
  · next r rest _ =>
    refine (State.KeepsServices.same (s.setWaits_cnt rest .channel)).trans ?_
    dsimp only
    repeat' split
    case isFalse.isFalse => exact State.grantDoor_keepsServices _ _ _
    all_goals exact .same

theorem State.looks_keepsServices : ∀ (fuel : Nat) (s : State), s.KeepsServices (s.looks fuel)
  | 0, s => .refl s
  | fuel + 1, s => by
    have once : s.KeepsServices s.lookOnce :=
      (s.lookPack_keepsServices.trans (State.lookDoor_keepsServices _ _)).trans (State.lookDoor_keepsServices _ _)
    unfold State.looks
    dsimp only
    split
    · exact once.trans (State.looks_keepsServices fuel _)
    · exact once

theorem State.driveAway_cnt (s : State) : s.driveAway.cnt = s.cnt := by
  unfold State.driveAway
  dsimp only
  split <;> rfl

/-- What waits in the midst of an event waits until its close. -/
theorem State.closing_keepsServices (s : State) : s.KeepsServices s.report.look.driveAway :=
  ((State.KeepsServices.foldl _ State.judge_keepsServices _ _).trans (State.looks_keepsServices _ _)).trans
    (.same (State.driveAway_cnt _))

/-- What waits in the midst of an event is queued at its close (R168). -/
theorem State.conclude_queues {s : State} {i : Fin 8} {v : Nat} (waits : s.cnt.service[i] = some v) :
    s.queued s.conclude (.service i (s.cnt.recs[i]).source v) := by
  have kept := s.closing_keepsServices
  have listed : Notice.service i (s.cnt.recs[i]).source v ∈ s.report.look.driveAway.cnt.notices := by
    refine List.mem_filterMap.mpr ⟨i, List.mem_finRange i, ?_⟩
    rw [kept.waits i v waits, kept.source i]
    rfl
  obtain ⟨before, after, split⟩ := List.append_of_mem listed
  obtain ⟨ns, queued⟩ := ((s.report_follows.trans (State.look_follows _)).trans (State.driveAway_follows _)).notes
  refine ⟨ns ++ before, after, ?_⟩
  rw [State.conclude_notes, queued, split, NoticeQueue.pushAll_append, NoticeQueue.pushAll_append]
  rfl

end Sys2Proof.Machine
end

section
/-!
Duty counters (O32): an event and its notices, active time, and what the ending of a record hands over, in the terms of R90,
R91 and R163 to R168.
-/

namespace Sys2Proof.Machine

/-! ### An event at one counter (R164, R165, R167, R168) -/

/-- An event of a source passes a counter's filters (R164). -/
def Counter.Hears (c : Counter) (src : Source) (o : Option Origin) (side : Option Side) : Prop :=
  c.duration = false ∧ c.source = src ∧
    (c.origin = .any ∨ (c.origin = .link ∧ o = some .link) ∨ (c.origin = .station ∧ ∃ j, o = some (.station j))) ∧
    (c.side = .any ∨ (c.side = .near ∧ side = some .near) ∨ (c.side = .off ∧ side = some .off))

theorem Counter.take_hears (c : Counter) (src : Source) (o : Option Origin) (side : Option Side) (load : Nat) :
    (c.Hears src o side →
      c.take [src] o side load = c.raise (c.amount load) (min 4294967295 (c.value + c.amount load))) ∧
    (¬c.Hears src o side → c.take [src] o side load = (c, none)) := by
  have hears : (c.duration = false ∧ c.source ∈ [src] ∧ c.origin.passes o = true ∧ c.side.passes side = true) ↔
      c.Hears src o side := by
    rw [List.mem_singleton, OriginFilter.passes_iff, SideFilter.passes_iff]
    rfl
  exact ⟨fun h => if_pos (hears.mpr h), fun h => if_neg (mt hears.mp h)⟩

/-! ### The last load (R90) -/

theorem State.Counts.lastLoad {s t : State} (c : s.Counts t) : t.axis.lastLoad = s.axis.lastLoad := by
  rcases c.slowed with ⟨axis, -⟩ | ⟨run, x, -, -, -, -, axis, -⟩
  · rw [axis]
  · rw [axis]
    rfl

/-- A hold out of `RUNNING` ends the run, and leaves the last load as the end of the run has it (R42, R90). -/
theorem State.hold_lastLoad {s : State} {h : Handle} {r : Record} (f : s.find h = some r) (running : r.state = .running)
    (c : Cond) : (s.hold h c).axis.lastLoad = s.leaveRun.axis.lastLoad := by
  rw [State.hold_eq f, (State.count_counts _ _ _ _ _).lastLoad, State.paused, if_pos running]
  rfl

/-- The end of a record's run by its ending leaves the last load as the end of the run has it, and any other ending leaves it
(R13, R90). -/
theorem State.quit_lastLoad (s : State) (r : Record) (o : RecOutcome) (why : Option EndReason) :
    (r.side = none ∧ s.holdsPack r.handle = true ∧ r.state = .running →
      (s.quit r o why).axis.lastLoad = s.leaveRun.axis.lastLoad) ∧
    (¬(r.side = none ∧ s.holdsPack r.handle = true ∧ r.state = .running) →
      (s.quit r o why).axis.lastLoad = s.axis.lastLoad) := by
  refine ⟨fun ⟨side, holds, running⟩ => ?_, fun other => ?_⟩
  · rw [(State.quit_packHolder o why side holds).2.1, State.stopOutputs_running side holds running]
  · by_cases pack : r.side = none ∧ s.holdsPack r.handle = true
    · obtain ⟨side, holds⟩ := pack
      rw [(State.quit_packHolder o why side holds).2.1, State.stopOutputs_still side fun e => other ⟨side, holds, e⟩]
    · by_cases door : ∃ side, r.side = some side ∧ s.holdsDoor side r.handle = true
      · obtain ⟨side, hs, holds⟩ := door
        rw [(State.quit_doorHolder o why hs holds).2.1]
      · rw [(State.quit_waiter o why (fun hs => Bool.eq_false_iff.mpr fun h => pack ⟨hs, h⟩)
          fun side hs => Bool.eq_false_iff.mpr fun h => door ⟨side, hs, h⟩).2.1]

/-! ### What an ending hands over (R91, R163) -/

theorem travel_eq (start : Option Pos) (end_ : Pos) :
    travel start end_ = match start, end_ with | some (.value a), .value b => b - a | _, _ => 0 := by
  rcases start with _ | _ | _ <;> cases end_ <;> rfl

theorem State.ranBy_door {s : State} {r : Record} {side : Side} (hs : r.side = some side) :
    s.ranBy r = true ↔ s.holdsDoor side r.handle = true ∧ (s.door side).phase.isSome = true := by
  simp only [State.ranBy, State.movedBy, hs, Bool.and_eq_true, State.sideMoving]

theorem State.ranBy_pack {s : State} {r : Record} (hs : r.side = none) :
    s.ranBy r = true ↔ s.holdsPack r.handle = true ∧ ∃ run, s.axis.run = some run ∧ 0 < run.runs := by
  simp only [State.ranBy, hs, Bool.and_eq_true]
  cases s.axis.run <;> simp

theorem endSources_done (r : Record) (why : Option EndReason) (pos : Pos) (ran : Bool) :
    endSources r ⟨.done, why, pos⟩ ran =
      match r.kind with
      | .lift => if 500 ≤ travel r.start pos then [.liftCyc] else []
      | .stow => if ran then [.stowCyc] else []
      | .doorOpen | .doorShut => if ran then [.doorCyc] else []
      | .tilt | .level | .unstow => [] := by
  unfold endSources
  cases r.kind <;> rfl

theorem endSources_failed (r : Record) (why : Option EndReason) (pos : Pos) (ran : Bool) :
    endSources r ⟨.failed, why, pos⟩ ran = if why = some .overload then [.overload, .fails] else [.fails] := by
  unfold endSources
  cases r.kind <;> rfl

theorem endSources_other (r : Record) {o : RecOutcome} (other : o = .stopped ∨ o = .cancelled) (why : Option EndReason)
    (pos : Pos) (ran : Bool) : endSources r ⟨o, why, pos⟩ ran = [] := by
  unfold endSources
  rcases other with rfl | rfl <;> cases r.kind <;> rfl

/-! ### Active time (R166) -/

theorem State.passTime_thawed {s : State} (thawed : s.cnt.frozen = false) (ms : Nat) :
    s.passTime ms =
      (State.applyCounters { s with now := s.now + ms } fun _ c =>
        if s.accrues c then c.elapse ms else (c, none)).queueServices := by
  unfold State.passTime
  dsimp only
  rw [thawed]
  rfl

/-- The row of a counter whose span is active lets time pass until its residue comes to 100. -/
theorem State.passTime_counts_one {s : State} (ranged : s.cnt.Ranged) (thawed : s.cnt.frozen = false) {i : Fin 8}
    (active : s.accrues s.cnt.recs[i] = true) :
    ((s.passTime (100 - (s.cnt.recs[i]).residue)).cnt.recs[i]).value = min 4294967295 ((s.cnt.recs[i]).value + 1) ∧
      ((s.passTime (100 - (s.cnt.recs[i]).residue)).cnt.recs[i]).residue = 0 := by
  obtain ⟨-, -, residue⟩ := (Counter.valid_iff _).mp (ranged.valid i)
  have whole : (s.cnt.recs[i]).residue + (100 - (s.cnt.recs[i]).residue) = 100 := by omega
  have spec := Counter.elapse_spec (ranged.valid i) (100 - (s.cnt.recs[i]).residue)
  rw [whole] at spec
  have counted : (s.passTime (100 - (s.cnt.recs[i]).residue)).cnt.recs[i] =
      ((s.cnt.recs[i]).elapse (100 - (s.cnt.recs[i]).residue)).1 := by
    rw [State.passTime_thawed thawed, State.queueServices_cnt]
    dsimp only
    rw [State.applyCounters_recs]
    exact congrArg Prod.fst (if_pos active)
  rw [counted]
  exact spec

/-- Settles O32: one counter through an event, the notices that wait for the close, and an ending as `State.quit` and the count
of its end event. -/
theorem countersCount : Obligations.CountersCount := by
  refine ⟨⟨fun c src o side load valid => ?_, fun s src o side load frozen => State.count_frozen frozen _ _ _ _,
    fun s src o side load i inv thawed => ?_, fun s => ?_⟩, fun s r o why f => ?_, fun s h r run c f running axis => ?_,
    fun c ms valid => Counter.elapse_spec valid ms, fun s i inv => ⟨fun thawed active => ?_, fun idle => ?_⟩⟩
  · intro passes amount value crosses
    obtain ⟨hears, deaf⟩ := c.take_hears src o side load
    rw [Counter.amount_eq] at hears
    obtain ⟨crossing, rising⟩ := Counter.raise_spec valid amount value
    exact ⟨deaf, fun heard cross => (hears heard).trans (crossing cross), fun heard stays =>
      (hears heard).trans (rising stays)⟩
  · intro x y
    obtain ⟨bounded, served⟩ := (State.inv_iff s).mp inv
    have counted : x = s.applyCounters fun _ c => c.take src o side load := State.count_thawed thawed _ _ _ _
    have recs : x.cnt.recs[i] = y.1 := by
      rw [counted, State.applyCounters_recs]
    have service : x.cnt.service[i] = y.2 := by
      rw [counted, State.applyCounters_service, served i]
      rfl
    have notes : x.notes = s.notes := by
      rw [counted, State.applyCounters_notes]
    refine ⟨recs, service, notes, ?_, fun v crossed => ?_⟩
    · rw [(State.count_ranged bounded.cnt src o side load).derating, vector_any_iff]
      simp only [Counter.derates_iff]
      exact Iff.rfl
    · have queued := State.conclude_queues (service.trans crossed)
      rw [(s.count_keepsServices src o side load).source i] at queued
      exact queued.since (s.count_follows src o side load)
  · exact ⟨rfl, State.conclude_served s, State.conclude_notes s⟩
  · obtain ⟨left, kept⟩ := s.quit_lastLoad r o why
    refine ⟨s.quit r o why, _, _, s.ranBy r, State.endOne_eq f o why, s.quit_cnt o why r, travel_eq r.start (s.endPos r),
      fun side hs => State.ranBy_door hs, State.ranBy_pack, ?_, ?_, fun other => endSources_other r other _ _ _,
      fun run w runs axis lift up load => ?_, fun other => ?_⟩
    · rintro rfl
      exact endSources_done r why _ _
    · rintro rfl
      exact endSources_failed r why _ _
    · exact (left runs).trans ((State.leaveRun_lastLoad axis).1 w lift up load)
    · by_cases runs : r.side = none ∧ s.holdsPack r.handle = true ∧ r.state = .running
      · refine (left runs).trans ?_
        cases axis : s.axis.run with
        | none => simp only [State.leaveRun, axis]
        | some run => exact (State.leaveRun_lastLoad axis).2 fun ⟨lift, up⟩ => other ⟨runs, run, axis, lift, up⟩
      · exact kept runs
  · rw [State.hold_lastLoad f running]
    exact State.leaveRun_lastLoad axis
  · obtain ⟨bounded, -⟩ := (State.inv_iff s).mp inv
    refine ⟨_, ?_, s.passTime_follows _, s.passTime_now _, State.passTime_counts_one bounded.cnt thawed active⟩
    show execDurationCount i s = _
    simp only [execDurationCount, thawed, active]
    rfl
  · show execDurationCount i s = _
    rcases idle with frozen | still
    · simp only [execDurationCount, frozen]
      rfl
    · simp only [execDurationCount, still, Bool.and_false]
      rfl

end Sys2Proof.Machine
end

section
/-!
SUPPORT. The settings by name: what is read from the fields of a station entry, and what each form of a `SETV` changes (R112,
R127, R193, R194).
-/

namespace Sys2Proof.Machine

/-! ### Words -/

theorem reading_none_iff {α : Type} {all : List α} {word : α → String} {w : String} :
    reading all word w = none ↔ ∀ x ∈ all, word x ≠ w := by
  simp [reading, List.find?_eq_none]

/-- A word is read as the one thing of the list that is written with it. -/
theorem reading_some_iff {α : Type} {all : List α} {word : α → String} (nodup : (all.map word).Nodup) {w : String} {x : α} :
    reading all word w = some x ↔ x ∈ all ∧ word x = w := by
  constructor
  · intro read
    exact ⟨List.mem_of_find?_eq_some read, by simpa using List.find?_some read⟩
  · rintro ⟨mem, rfl⟩
    cases read : reading all word (word x) with
    | none => exact absurd rfl (reading_none_iff.mp read x mem)
    | some y =>
      have same : word y = word x := by simpa using List.find?_some read
      exact congrArg some (List.inj_on_of_nodup_map nodup (List.mem_of_find?_eq_some read) mem same)

theorem Kind.lifts_words_nodup : (Kind.lifts.map Kind.word).Nodup := by decide

theorem mem_allSides (side : Side) : side ∈ allSides := by cases side <;> decide

theorem allSides_words_nodup : (allSides.map Machine.sideWord).Nodup := by decide

/-! ### The values of the plain settings (R193) -/

theorem PlainName.mem_all (p : PlainName) : p ∈ PlainName.all := by cases p <;> decide

/-- A value replaced is the one read, and every other setting reads as before. -/
theorem Plain.get_put (x : Plain) (v : Int) (p q : PlainName) : (x.put v p).get q = if q = p then v else x.get q := by
  have all : PlainName.all.map (x.put v p).get = PlainName.all.map fun q => if q = p then v else x.get q := by
    cases p <;> rfl
  exact List.map_inj_left.mp all q q.mem_all

theorem inRange_iff (r : Int × Int) (v : Int) : inRange r v = true ↔ r.1 ≤ v ∧ v ≤ r.2 := by simp [inRange]

/-! ### The fields of a station entry (R127, R194) -/

theorem readKinds_iff (fs : List Field) (ks : List Kind) :
    readKinds fs = some ks ↔ ks.Nodup ∧ (∀ k ∈ ks, k ∈ Kind.lifts) ∧ fs = ks.map fun k => .word k.word := by
  induction fs generalizing ks with
  | nil =>
    cases ks <;> simp [readKinds]
  | cons f fs ih =>
    cases f with
    | num n | wnum w n | bad text =>
      cases ks <;> simp [readKinds]
    | word w =>
      constructor
      · intro read
        unfold readKinds at read
        split at read
        · next k rest hk hrest =>
          obtain ⟨mem, rfl⟩ := (reading_some_iff Kind.lifts_words_nodup).mp hk
          obtain ⟨nodup, lifts, rfl⟩ := (ih rest).mp hrest
          split at read
          · cases read
          · next new =>
            cases read
            exact ⟨List.nodup_cons.mpr ⟨new, nodup⟩, List.forall_mem_cons.mpr ⟨mem, lifts⟩, rfl⟩
        · cases read
      · rintro ⟨nodup, lifts, eq⟩
        cases ks with
        | nil => cases eq
        | cons k ks =>
          obtain ⟨word, rfl⟩ := List.cons.inj eq
          cases word
          obtain ⟨new, nodup⟩ := List.nodup_cons.mp nodup
          obtain ⟨mem, lifts⟩ := List.forall_mem_cons.mp lifts
          have hk : reading Kind.lifts Kind.word k.word = some k :=
            (reading_some_iff Kind.lifts_words_nodup).mpr ⟨mem, rfl⟩
          have hks := (ih ks).mpr ⟨nodup, lifts, rfl⟩
          simp only [readKinds, hk, hks, if_neg new]

/-- The kinds an authority has determine it. -/
theorem Auth.eq_of_iff (auth : Auth) (ks : List Kind) :
    auth = .of ks ↔ ∀ k ∈ Kind.lifts, auth.has k = true ↔ k ∈ ks := by
  have flag (b : Bool) (p : Prop) [Decidable p] : b = decide p ↔ (b = true ↔ p) := by cases b <;> simp
  obtain ⟨lift, tilt, level, stow, unstow⟩ := auth
  simp only [Auth.of, Auth.mk.injEq, flag, Kind.lifts, List.forall_mem_cons, List.not_mem_nil, false_imp_iff, implies_true,
    and_true, Auth.has]

/-- The role words that the fields after an address form (R194). -/
def RoleForm (role side : String) (ks : List Kind) (r : Role) : Prop :=
  (role = "PENDANT" ∧ side = "NONE" ∧ r = .pendant (.of ks)) ∨ (role = "PLATFORM" ∧ side = "NONE" ∧ r = .platform (.of ks)) ∨
    (role = "KEYPAD" ∧ ks = [] ∧ ∃ x, side = Machine.sideWord x ∧ r = .keypad x) ∨
    (role = "CAB" ∧ side = "NONE" ∧ ks = [] ∧ r = .cab)

theorem readRole_iff (role side : String) (rest : List Field) (r : Role) :
    readRole role side rest = some r ↔ ∃ ks, readKinds rest = some ks ∧ RoleForm role side ks r := by
  unfold readRole
  cases readKinds rest with
  | none => simp
  | some ks =>
    simp only [Option.some.injEq, exists_eq_left', RoleForm]
    split
    · simp [@eq_comm _ r]
    · simp [@eq_comm _ r]
    · simp [Option.map_eq_some_iff, reading_some_iff allSides_words_nodup, mem_allSides, @eq_comm _ r, @eq_comm _ side]
    · simp [@eq_comm _ r, and_assoc]
    · next pendant platform keypad cab =>
      refine iff_of_false nofun ?_
      rintro (⟨h, -⟩ | ⟨h, -⟩ | ⟨h, -⟩ | ⟨h, -⟩)
      exacts [pendant h, platform h, keypad h, cab h]

/-- The fields of a configured station entry (R194). -/
def EntryForm (fs : List Field) (a : Int) (role : Role) : Prop :=
  a ≠ 0 ∧
    ((∃ (ks : List Kind) (auth : Auth), ks.Nodup ∧ (∀ k ∈ ks, k ∈ Kind.lifts) ∧
        (∀ k ∈ Kind.lifts, auth.has k = true ↔ k ∈ ks) ∧
        ((role = .pendant auth ∧ fs = .num a :: .word "PENDANT" :: .word "NONE" :: ks.map fun k => .word k.word) ∨
          (role = .platform auth ∧ fs = .num a :: .word "PLATFORM" :: .word "NONE" :: ks.map fun k => .word k.word))) ∨
      (role = .keypad .near ∧ fs = [.num a, .word "KEYPAD", .word "NEAR"]) ∨
      (role = .keypad .off ∧ fs = [.num a, .word "KEYPAD", .word "OFF"]) ∨
      (role = .cab ∧ fs = [.num a, .word "CAB", .word "NONE"]))

/-- A station entry with its role is read from four fields or more: its address, its role words and its authority words. -/
theorem readEntry_role_iff (fs : List Field) (a : Int) (r : Role) :
    readEntry fs = some (a, some r) ↔
      a ≠ 0 ∧ ∃ role side rest, fs = .num a :: .word role :: .word side :: rest ∧ readRole role side rest = some r := by
  constructor
  · intro read
    unfold readEntry at read
    split at read
    · split at read <;> cases read
    · split at read
      · cases read
      · next nonzero =>
        obtain ⟨r', hr, same⟩ := Option.map_eq_some_iff.mp read
        cases same
        exact ⟨nonzero, _, _, _, rfl, hr⟩
    · cases read
  · rintro ⟨nonzero, role, side, rest, rfl, read⟩
    simp [readEntry, nonzero, read]

/-- What is read as a configured station entry is what has its form (R194). -/
theorem readEntry_form_iff (fs : List Field) (a : Int) (r : Role) : readEntry fs = some (a, some r) ↔ EntryForm fs a r := by
  rw [readEntry_role_iff]
  refine and_congr_right fun _ => ?_
  constructor
  · rintro ⟨role, side, rest, rfl, read⟩
    obtain ⟨ks, words, form⟩ := (readRole_iff role side rest r).mp read
    obtain ⟨nodup, lifts, rfl⟩ := (readKinds_iff rest ks).mp words
    have auth := (Auth.eq_of_iff (.of ks) ks).mp rfl
    rcases form with ⟨rfl, rfl, rfl⟩ | ⟨rfl, rfl, rfl⟩ | ⟨rfl, rfl, x, rfl, rfl⟩ | ⟨rfl, rfl, rfl, rfl⟩
    · exact .inl ⟨ks, .of ks, nodup, lifts, auth, .inl ⟨rfl, rfl⟩⟩
    · exact .inl ⟨ks, .of ks, nodup, lifts, auth, .inr ⟨rfl, rfl⟩⟩
    · cases x
      · exact .inr (.inl ⟨rfl, rfl⟩)
      · exact .inr (.inr (.inl ⟨rfl, rfl⟩))
    · exact .inr (.inr (.inr ⟨rfl, rfl⟩))
  · rintro (⟨ks, auth, nodup, lifts, has, form⟩ | ⟨rfl, rfl⟩ | ⟨rfl, rfl⟩ | ⟨rfl, rfl⟩)
    · obtain rfl := (Auth.eq_of_iff auth ks).mpr has
      have words := (readKinds_iff (ks.map fun k => .word k.word) ks).mpr ⟨nodup, lifts, rfl⟩
      rcases form with ⟨rfl, rfl⟩ | ⟨rfl, rfl⟩
      · exact ⟨_, _, _, rfl, (readRole_iff _ _ _ _).mpr ⟨ks, words, .inl ⟨rfl, rfl, rfl⟩⟩⟩
      · exact ⟨_, _, _, rfl, (readRole_iff _ _ _ _).mpr ⟨ks, words, .inr (.inl ⟨rfl, rfl, rfl⟩)⟩⟩
    · exact ⟨_, _, _, rfl, (readRole_iff _ _ _ _).mpr ⟨[], rfl, .inr (.inr (.inl ⟨rfl, rfl, .near, rfl, rfl⟩))⟩⟩
    · exact ⟨_, _, _, rfl, (readRole_iff _ _ _ _).mpr ⟨[], rfl, .inr (.inr (.inl ⟨rfl, rfl, .off, rfl, rfl⟩))⟩⟩
    · exact ⟨_, _, _, rfl, (readRole_iff _ _ _ _).mpr ⟨[], rfl, .inr (.inr (.inr ⟨rfl, rfl, rfl, rfl⟩))⟩⟩

/-- An entry without a role is address 0 alone (R194). -/
theorem readEntry_none_role {fs : List Field} {a : Int} (read : readEntry fs = some (a, none)) : fs = [.num 0] := by
  unfold readEntry at read
  split at read
  · split at read
    · next zero => rw [zero]
    · cases read
  · split at read
    · cases read
    · obtain ⟨r, -, same⟩ := Option.map_eq_some_iff.mp read
      cases same
  · cases read

/-- What `GETV` reports of a configured entry has its form (R193, R194). -/
theorem entryFields_form {a : Nat} (nonzero : (a : Int) ≠ 0) (role : Role) : EntryForm (entryFields (some ⟨a, role⟩)) a role := by
  have kinds (auth : Auth) : auth.kinds.Nodup ∧ (∀ k ∈ auth.kinds, k ∈ Kind.lifts) ∧
      ∀ k ∈ Kind.lifts, auth.has k = true ↔ k ∈ auth.kinds := by
    rw [Auth.kinds_eq]
    refine ⟨List.Nodup.filter _ (by decide), fun k m => List.mem_of_mem_filter m, fun k m => ?_⟩
    rw [List.mem_filter]
    exact (and_iff_right m).symm
  refine ⟨nonzero, ?_⟩
  rcases role with auth | auth | side | _
  · obtain ⟨nodup, lifts, has⟩ := kinds auth
    exact .inl ⟨auth.kinds, auth, nodup, lifts, has, .inl ⟨rfl, rfl⟩⟩
  · obtain ⟨nodup, lifts, has⟩ := kinds auth
    exact .inl ⟨auth.kinds, auth, nodup, lifts, has, .inr ⟨rfl, rfl⟩⟩
  · cases side
    · exact .inr (.inl ⟨rfl, rfl⟩)
    · exact .inr (.inr (.inl ⟨rfl, rfl⟩))
  · exact .inr (.inr (.inr ⟨rfl, rfl⟩))

/-! ### What each form changes (R112, R127, R194) -/

/-- Another entry of the table has the address (R127). -/
def Settings.Taken (w : Settings) (i : Fin 6) (a : Int) : Prop :=
  ∃ j : Fin 6, j ≠ i ∧ ∃ e, w.stn[j] = some e ∧ (e.addr : Int) = a

theorem Settings.taken_iff (w : Settings) (i : Fin 6) (a : Int) : addrTaken w.stn i a = true ↔ w.Taken i a := by
  unfold addrTaken Settings.Taken
  simp only [List.any_eq_true, List.mem_finRange, true_and, Bool.and_eq_true, bne_iff_ne]
  refine exists_congr fun j => and_congr_right fun _ => ?_
  cases w.stn[j] <;> simp

/-- A station entry is stored with an address from 1 to 15 that no other entry has, and is `RANGE` otherwise. -/
theorem Settings.change_entry (w : Settings) (i : Fin 6) {fs : List Field} {a : Int} {role : Role}
    (form : EntryForm fs a role) :
    (1 ≤ a → a ≤ 15 → ¬w.Taken i a →
      w.change (.stn i) fs = .inr { w with stn := modAt w.stn i fun _ => some ⟨a.toNat, role⟩ }) ∧
    (a < 1 ∨ 15 < a ∨ w.Taken i a → w.change (.stn i) fs = .inl "RANGE") := by
  have test : (inRange (1, 15) a && !addrTaken w.stn i a) = true ↔ (1 ≤ a ∧ a ≤ 15) ∧ ¬w.Taken i a := by
    rw [Bool.and_eq_true, inRange_iff, Bool.not_eq_true', ← Bool.not_eq_true, w.taken_iff]
  have read := (readEntry_form_iff fs a role).mpr form
  refine ⟨fun low high free => ?_, fun bad => ?_⟩
  · simp only [Settings.change, read]
    rw [if_pos (test.mpr ⟨⟨low, high⟩, free⟩)]
  · simp only [Settings.change, read]
    rw [if_neg (mt test.mp ?_)]
    rintro ⟨⟨low, high⟩, free⟩
    rcases bad with bad | bad | bad
    · omega
    · omega
    · exact free bad

/-- Address 0 alone clears the entry. -/
theorem Settings.change_clear (w : Settings) (i : Fin 6) :
    w.change (.stn i) [.num 0] = .inr { w with stn := modAt w.stn i fun _ => none } := rfl

/-- Anything else is `SYNTAX`. -/
theorem Settings.change_noEntry (w : Settings) (i : Fin 6) {fs : List Field} (nonzero : fs ≠ [.num 0])
    (none : ∀ a role, ¬EntryForm fs a role) : w.change (.stn i) fs = .inl "SYNTAX" := by
  have read : readEntry fs = .none := by
    cases read : readEntry fs with
    | none => rfl
    | some x =>
      obtain ⟨a, _ | role⟩ := x
      · exact absurd (readEntry_none_role read) nonzero
      · exact absurd ((readEntry_form_iff fs a role).mp read) (none a role)
  simp only [Settings.change, read]

/-- A plain setting takes one number in its range. -/
theorem Settings.change_plain (w : Settings) (p : PlainName) (v : Int) :
    w.change (.plain p) [.num v] =
      if p.range.1 ≤ v ∧ v ≤ p.range.2 then .inr { w with plain := w.plain.put v p } else .inl "RANGE" := by
  simp only [Settings.change, inRange_iff]

/-- A calibration end takes a code, a value and a mark, each in its range, that leave the pair's codes in order (R112). -/
theorem Settings.change_cal (w : Settings) (c : Fin 9) (hi : Bool) (code v m : Int) :
    w.change (.cal c hi) [.num code, .num v, .num m] =
      if 0 ≤ code ∧ code ≤ 4096 ∧ (chanRange c).1 ≤ v ∧ v ≤ (chanRange c).2 ∧ (m = 0 ∨ m = 1) ∧
          (w.cal[c].setEnd hi code v (decide (m = 1))).cLo < (w.cal[c].setEnd hi code v (decide (m = 1))).cHi then
        .inr { w with cal := modAt w.cal c fun _ => w.cal[c].setEnd hi code v (decide (m = 1)) }
      else .inl "RANGE" := by
  have mark : (0 ≤ m ∧ m ≤ 1) ↔ (m = 0 ∨ m = 1) := by omega
  simp only [Settings.change, Bool.and_eq_true, inRange_iff, decide_eq_true_eq, and_assoc]
  simp only [← and_assoc (a := 0 ≤ m), mark]

theorem Settings.change_otherForm (w : Settings) (fs : List Field) :
    ((∀ v, fs ≠ [.num v]) → ∀ p, w.change (.plain p) fs = .inl "SYNTAX") ∧
      ((∀ code v m, fs ≠ [.num code, .num v, .num m]) → ∀ c hi, w.change (.cal c hi) fs = .inl "SYNTAX") := by
  refine ⟨fun other p => ?_, fun other c hi => ?_⟩
  · unfold Settings.change
    split
    · exact absurd rfl (other _)
    · next same => cases same
    · next same => cases same
    · rfl
  · unfold Settings.change
    split
    · next same => cases same
    · exact absurd rfl (other _ _ _)
    · next same => cases same
    · rfl

end Sys2Proof.Machine
end

section
/-!
`SETV` (O34): the tables of settings, the order of the refusals and what is stored, in the terms of R70, R112, R127, R193 and
R194.
-/

namespace Sys2Proof.Machine

/-! ### The request (R194, R195) -/

section
variable {s : State} (t : Tag) {n : SettingName} {fs : List Field}

theorem State.reqSetv_refused {why : String} (refused : s.settings.change n fs = .inl why) :
    s.reqSetv t (.word n.word :: fs) = s.answer t .setv why [] := by
  simp only [State.reqSetv, SettingName.read_word, refused]

theorem State.reqSetv_busy {w : Settings} (changed : s.settings.change n fs = .inr w)
    (busy : s.plan.records ≠ [] ∨ s.store.save.isSome) :
    s.reqSetv t (.word n.word :: fs) = s.answer t .setv "BUSY" [] := by
  simp only [State.reqSetv, SettingName.read_word, changed]
  refine if_neg fun idle => ?_
  rw [Bool.and_eq_true, List.isEmpty_iff, Option.isNone_iff_eq_none] at idle
  rcases busy with table | save
  · exact table idle.1
  · rw [idle.2] at save
    cases save

theorem State.reqSetv_stored {w : Settings} (changed : s.settings.change n fs = .inr w) (table : s.plan.records = [])
    (save : s.store.save = none) :
    s.reqSetv t (.word n.word :: fs) =
      (s.setSettings n w).conclude.answer t .setv "OK" (.word n.word :: w.contents n) := by
  simp only [State.reqSetv, SettingName.read_word, changed, table, save]
  rfl

theorem State.reqSetv_unnamed (unnamed : ∀ n : SettingName, fs.head? ≠ some (.word n.word)) :
    s.reqSetv t fs = s.answer t .setv "SYNTAX" [] := by
  unfold State.reqSetv
  split
  · next name rest =>
    have unknown : reading SettingName.all SettingName.word name = none :=
      reading_none_iff.mpr fun n _ same => unnamed n (by rw [← same]; rfl)
    rw [unknown]
  · rfl

end

/-- Settings stored leave everything but the marks of the stations (R127, R194). -/
theorem State.setSettings_same (s : State) (n : SettingName) (w : Settings) :
    s.setSettings n w =
      { s with settings := w, bus := { s.bus with stations := (s.setSettings n w).bus.stations } } := by
  unfold State.setSettings
  dsimp only
  split
  · split <;> rfl
  · rfl
  · rfl

/-- The station whose entry has changed is marked for the next poll cycle, and no other (R127). -/
theorem State.setSettings_stations (s : State) (n : SettingName) (w : Settings) :
    (∀ i : Fin 6, n ≠ .stn i → (s.setSettings n w).bus.stations[i] = s.bus.stations[i]) ∧
      ∀ i : Fin 6, n = .stn i → ((s.setSettings n w).bus.stations[i]).entry = (s.bus.stations[i]).entry ∧
        (((s.setSettings n w).bus.stations[i]).changed = true ↔
          (s.bus.stations[i]).changed = true ∨ s.settings.stn[i] ≠ w.stn[i]) := by
  cases n with
  | plain p => exact ⟨fun _ _ => rfl, nofun⟩
  | cal c hi => exact ⟨fun _ _ => rfl, nofun⟩
  | stn k =>
    by_cases same : s.settings.stn[k] = w.stn[k]
    · have kept : s.setSettings (.stn k) w = { s with settings := w } := if_pos same
      rw [kept]
      refine ⟨fun _ _ => rfl, ?_⟩
      rintro i ⟨⟩
      exact ⟨rfl, (or_iff_left (not_not_intro same)).symm⟩
    · have marked : (s.setSettings (.stn k) w).bus.stations =
          modAt s.bus.stations k fun x => { x with changed := true } := by
        unfold State.setSettings
        dsimp only
        rw [if_neg same]
      simp only [marked]
      refine ⟨fun i other => ?_, ?_⟩
      · have apart : i ≠ k := fun e => other (by rw [e])
        simp [apart]
      · rintro i ⟨⟩
        have entry : (modAt s.bus.stations k fun x => { x with changed := true })[k] =
            { s.bus.stations[k] with changed := true } := by simp
        rw [entry]
        exact ⟨rfl, iff_of_true rfl (.inr same)⟩

/-- A `SETV` that stores: the settings are then those changed, and the reply is behind the close of the event. -/
theorem State.setv_stores {s : State} {t : Tag} {n : SettingName} {fs : List Field} {w : Settings}
    (ready : s.ready ⟨t, .setv, .word n.word :: fs⟩) (changed : s.settings.change n fs = .inr w) (table : s.plan.records = [])
    (save : s.store.save = none) :
    ∃ u, exec (.setv t (.word n.word :: fs)) s = .next u ∧ u.settings = w ∧
      (s.setSettings n w).conclude.replies u t .setv "OK" (.word n.word :: w.contents n) := by
  have same := s.setSettings_same n w
  have link : (s.setSettings n w).conclude.link = s.link := State.conclude_link (by rw [same])
  obtain ⟨u, row, replies⟩ := State.serve_replies_after ready (State.reqSetv_stored t changed table save) link
  have settings : (s.setSettings n w).conclude.settings = w := by
    rw [(State.conclude_follows _).settings, same]
  refine ⟨u, row, ?_, replies⟩
  rw [replies.1]
  dsimp only
  exact settings

/-- Settles O34: what `Settings.change` makes of each form, and the request that refuses it or stores it. -/
theorem setvStores : Obligations.SetvStores := by
  refine ⟨⟨fun x => rfl, PlainName.mem_all, rfl, rfl, rfl⟩,
    fun s t n fs ready => ⟨fun why refused => ?_, fun w changed busy => ?_⟩, fun s t fs ready unnamed => ?_,
    Settings.change_otherForm, fun w i fs => ?_, fun s t p v => ?_,
    fun s t n fs w ready changed table save => ?_, Settings.change_cal, fun w i a role low high free => ?_⟩
  · exact State.serve_replies ready (State.reqSetv_refused t refused)
  · exact State.serve_replies ready (State.reqSetv_busy t changed busy)
  · exact State.serve_replies ready (State.reqSetv_unnamed t unnamed)
  · intro lifts entry taken
    exact ⟨fun a role form low high free => (w.change_entry i form).1 low high free,
      fun a role form bad => (w.change_entry i form).2 bad, fun nonzero none => w.change_noEntry i nonzero none⟩
  · intro fs ready
    have change := s.settings.change_plain p v
    refine ⟨fun out => ?_, fun low high busy => ?_, fun low high table save => ?_⟩
    · rw [if_neg out] at change
      exact State.serve_replies ready (State.reqSetv_refused (n := .plain p) t change)
    · rw [if_pos ⟨low, high⟩] at change
      exact State.serve_replies ready (State.reqSetv_busy (n := .plain p) t change busy)
    · rw [if_pos ⟨low, high⟩] at change
      obtain ⟨u, row, settings, replies⟩ := State.setv_stores (n := .plain p) ready change table save
      have stored : (s.settings.plain.put v p).get p = v := by rw [Plain.get_put, if_pos rfl]
      refine ⟨u, s.setSettings (.plain p) { s.settings with plain := s.settings.plain.put v p }, row, ?_, rfl, stored,
        fun q other => ?_, settings⟩
      · simp only [Settings.contents, stored] at replies
        exact replies
      · exact (Plain.get_put _ _ _ _).trans (if_neg other)
  · obtain ⟨u, row, settings, replies⟩ := State.setv_stores ready changed table save
    obtain ⟨others, marked⟩ := s.setSettings_stations n w
    exact ⟨u, _, row, settings, replies, s.setSettings_same n w, others, marked⟩
  · have form := entryFields_form (a := a) (by omega) role
    refine ⟨w.change_clear i, (w.change_entry i form).1 (by omega) (by omega) ?_⟩
    rintro ⟨j, other, e, entry, same⟩
    exact free j other e entry (by omega)

end Sys2Proof.Machine
end

section
/-!
SUPPORT. The side doors (R93 to R107): the record that drives a door and its ending, the switches that are counted with it,
and the moment at which a timer has passed.
-/

namespace Sys2Proof.Machine

/-! ### The record that drives a door (R48, R93) -/

/-- The record that drives a door is the one in the table under the handle that holds the channel. -/
theorem State.doorRecord_iff {s : State} {side : Side} {r : Record} :
    s.doorRecord side = some r ↔ s.find r.handle = some r ∧ s.holdsDoor side r.handle = true := by
  unfold State.doorRecord State.holdsDoor
  cases s.arb.channel side with
  | none => simp
  | some x =>
    rw [Option.bind_some, beq_iff_eq]
    refine ⟨fun f => ?_, fun ⟨f, same⟩ => same ▸ f⟩
    obtain ⟨handle, -⟩ := State.find_spec f
    exact ⟨handle ▸ f, handle.symm⟩

/-- Counting leaves the driver of a door, but for its flag `DERATED`. -/
theorem State.Counts.doorRecord {s t : State} (c : s.Counts t) {side : Side} {r : Record} (driver : s.doorRecord side = some r) :
    ∃ y, t.doorRecord side = some y ∧ y.bare = r.bare := by
  obtain ⟨f, holds⟩ := State.doorRecord_iff.mp driver
  obtain ⟨y, found, bare⟩ := c.find f
  have handle := Record.bare_handle bare
  exact ⟨y, State.doorRecord_iff.mpr ⟨handle.symm ▸ found, by rw [c.holdsDoor, handle]; exact holds⟩, bare⟩

theorem State.endDoor_eq {s : State} {side : Side} {r : Record} (driver : s.doorRecord side = some r) (o : RecOutcome)
    (why : Option EndReason) : s.endDoor side o why = s.endTree r.handle o why := by
  obtain ⟨-, holds⟩ := State.doorRecord_iff.mp driver
  unfold State.holdsDoor at holds
  unfold State.endDoor
  cases channel : s.arb.channel side with
  | none =>
    rw [channel] at holds
    cases holds
  | some x =>
    rw [channel] at holds
    rw [← beq_iff_eq.mp holds]

/-- The driver of a door that ends leaves the door free, with the derived state (R107). -/
theorem State.Sound.endDoor_ends {s : State} (h : s.Sound) {side : Side} {r : Record} (driver : s.doorRecord side = some r)
    (o : RecOutcome) (why : Option EndReason) :
    s.Ends (s.endDoor side o why) r o why ∧ (s.endDoor side o why).doorFree side := by
  obtain ⟨f, holds⟩ := State.doorRecord_iff.mp driver
  rw [State.endDoor_eq driver]
  exact ⟨State.endTree_ends f o why, h.endTree_doorFree holds o why⟩

/-- An ending is the same for a record and for what counting has left of it. -/
theorem State.Ends.of_bare {m x : State} {r y : Record} {o : RecOutcome} {why : Option EndReason} (h : m.Ends x y o why)
    (bare : y.bare = r.bare) : m.Ends x r o why :=
  h.since (.refl m) (Record.bare_handle bare) (Record.bare_kind bare) ((State.Counts.refl m).endPos bare)

/-! ### Switches that are due (R31, R99 to R101, R105) -/

theorem DoorSwitches.countDue_get (d : DoorSwitches) (now : Nat) (sw : Switch) :
    (d.countDue now).get sw = (d.get sw).countDue now := by cases sw <;> rfl

/-- From `s`, the switches of a side that are due have been counted in `b`, and nothing else has changed. -/
structure State.HasCountedDue (s b : State) (side : Side) : Prop where
  rest : b = { s with inputs := b.inputs }
  recounted : s.inputs.recounted b.inputs [side]
  counted : ∀ sw, ((b.inputs.switches side).get sw).counted =
    if ((s.inputs.switches side).get sw).since + 30 ≤ s.now then some ((s.inputs.switches side).get sw).raw
    else ((s.inputs.switches side).get sw).counted

theorem State.countDue_hasCountedDue (s : State) (side : Side) : s.HasCountedDue (s.countDue side) side where
  rest := by cases side <;> rfl
  recounted := (s.countDue_follows side).2
  counted sw := by
    rw [State.countDue_switches, DoorSwitches.countDue_get, Debounced.countDue_counted]
    rfl

theorem State.countDue_doorRecord (s : State) (side : Side) : (s.countDue side).doorRecord side = s.doorRecord side := by
  simp only [State.doorRecord, State.find, State.countDue_arb, State.countDue_plan]

theorem State.Sound.countDue {s : State} (h : s.Sound) (side : Side) : (s.countDue side).Sound := by
  cases side <;> exact h.of_same

/-- The driver of a door ends, with the door derived from the switches as they stand at this moment (R99 to R101, R105). -/
theorem State.Sound.settleDoor_ends {s : State} (h : s.Sound) {side : Side} {r : Record} (driver : s.doorRecord side = some r)
    (o : RecOutcome) (why : Option EndReason) :
    (s.countDue side).Ends (s.settleDoor side o why) r o why ∧ (s.settleDoor side o why).doorFree side :=
  (h.countDue side).endDoor_ends ((s.countDue_doorRecord side).trans driver) o why

/-! ### A door when a timer has passed -/

/-- The moment to which time has passed names the passing of time. -/
theorem State.passTo_at_now (s : State) (t : Nat) : s.passTo (s.passTo t).now = s.passTo t := by
  rw [State.passTo_now, State.passTo, State.passTo]
  congr 1
  omega

/-- From `s`, time has passed and the switches of a side that were due then have been counted in `b`. -/
structure State.DueLater (s b : State) (side : Side) (at_ : Nat) : Prop where
  rest : b = { s.passTo b.now with inputs := b.inputs }
  recounted : s.inputs.recounted b.inputs [side]
  counted : ∀ sw, ((b.inputs.switches side).get sw).counted =
    if ((s.inputs.switches side).get sw).since + 30 ≤ b.now then some ((s.inputs.switches side).get sw).raw
    else ((s.inputs.switches side).get sw).counted
  now : b.now = max s.now at_

theorem State.passTo_countDue_dueLater (s : State) (side : Side) (at_ : Nat) :
    s.DueLater ((s.passTo at_).countDue side) side at_ := by
  obtain ⟨rest, recounted, counted⟩ := (s.passTo at_).countDue_hasCountedDue side
  have now : ((s.passTo at_).countDue side).now = (s.passTo at_).now := State.countDue_now _ _
  rw [(s.passTo_counts at_).inputs] at recounted counted
  refine ⟨?_, recounted, fun sw => ?_, now.trans (s.passTo_now at_)⟩
  · rwa [now, State.passTo_at_now]
  · rw [now]
    exact counted sw

/-- The driver of a door that fails when a timer has passed (R99 to R101, R104, R105). -/
theorem State.Sound.failDoor_fails {s : State} (h : s.Sound) {side : Side} {r : Record} (driver : s.doorRecord side = some r)
    (at_ : Nat) (why : EndReason) :
    ∃ b x, s.DueLater b side at_ ∧ s.failDoor side at_ why = x.conclude ∧ b.Ends x r .failed (some why) ∧ x.doorFree side := by
  have c := s.passTo_counts at_
  obtain ⟨y, driven, bare⟩ := c.doorRecord driver
  obtain ⟨ends, free⟩ := (c.sound h).settleDoor_ends driven .failed (some why)
  exact ⟨_, _, s.passTo_countDue_dueLater side at_, rfl, ends.of_bare bare, free⟩

/-! ### Phases -/

theorem Door.watched_iff (d : Door) : d.watched = true ↔ d.phase = some .opening ∨ d.phase = some .closing := by
  simp [Door.watched]

theorem State.passTo_door (s : State) (t : Nat) (side : Side) : (s.passTo t).door side = s.door side :=
  (s.passTo_counts t).door side

/-- The door of a phase that begins (R93, R95). -/
theorem State.enterPhase_door (s : State) (side : Side) (p : Phase) :
    (s.enterPhase side p).door side =
      ⟨.moving, some p, s.now, none, p == .opening || p == .reverse, p == .closing || p == .pullin, p == .unlatch⟩ := by
  cases side <;> rfl

theorem State.enterPhase_beac (s : State) (side : Side) (p : Phase) : (s.enterPhase side p).beac = s.beac.dropTrail side := by
  cases side <;> rfl

/-- A phase that begins changes the door of its side and drops its trail, and nothing else. -/
theorem State.enterPhase_eq (s : State) (side : Side) (p : Phase) :
    s.enterPhase side p = { s.setDoor side ((s.enterPhase side p).door side) with beac := s.beac.dropTrail side } := by
  cases side <;> rfl

theorem State.enterPhase_arb (s : State) (side : Side) (p : Phase) : (s.enterPhase side p).arb = s.arb := by
  cases side <;> rfl

theorem State.enterPhase_plan (s : State) (side : Side) (p : Phase) : (s.enterPhase side p).plan = s.plan := by
  cases side <;> rfl

end Sys2Proof.Machine
end

section
/-!
The timers and the obstruction of a door (O49), in the terms of R98 to R105.
-/

namespace Sys2Proof.Machine

/-! ### What an obstruction and a current value do (R103 to R105) -/

section
variable {s : State} {side : Side}

theorem State.obstruct_closing (phase : (s.door side).phase = some .closing) :
    s.obstruct side true = s.enterPhase side .reverse := by
  simp only [State.obstruct, phase, if_true]

theorem State.obstruct_opening (phase : (s.door side).phase = some .opening) (measured : Bool) :
    s.obstruct side measured = s.settleDoor side .failed (some .obstruct) := by
  simp only [State.obstruct, phase]

/-- A current that cannot be read ends the record of a watched door and reverses nothing. -/
theorem State.obstruct_unread (watched : (s.door side).phase = some .opening ∨ (s.door side).phase = some .closing) :
    s.obstruct side false = s.settleDoor side .failed (some .obstruct) := by
  rcases watched with opening | closing
  · exact State.obstruct_opening opening false
  · simp only [State.obstruct, closing]
    rfl

theorem State.doorCurrent_unwatched (unwatched : ¬(s.door side).watched = true) (wasOk : Bool) :
    s.doorCurrent side wasOk = s := if_neg unwatched

section
variable (watched : (s.door side).watched = true)
include watched

/-- A value read is compared once the blanking time has passed. -/
theorem State.doorCurrent_read (ok : s.chanOk (currentChan side) = true) (wasOk : Bool) :
    s.doorCurrent side wasOk =
      if (s.door side).phaseAt + 300 ≤ s.now then
        s.setDoor side
          { s.door side with
            obsSince :=
              if s.settings.plain.doorObs < s.reported (currentChan side) then some ((s.door side).obsSince.getD s.now)
              else none }
      else s := by
  unfold State.doorCurrent
  rw [if_pos watched, if_pos ok, holdSince_eq decide_eq_true_iff]
  exact if_congr decide_eq_true_iff rfl rfl

/-- A channel that is not OK obstructs as it is lost, or at the first moment compared. -/
theorem State.doorCurrent_unread (lost : ¬s.chanOk (currentChan side) = true) (wasOk : Bool) :
    s.doorCurrent side wasOk =
      if wasOk = true ∨ (s.door side).phaseAt + 300 ≤ s.now then s.settleDoor side .failed (some .obstruct) else s := by
  unfold State.doorCurrent
  rw [if_pos watched, if_neg lost, State.obstruct_unread ((Door.watched_iff _).mp watched)]
  exact if_congr (by rw [Bool.or_eq_true, decide_eq_true_iff]; rfl) rfl rfl

end

end

/-! ### The rows of the timers (R98 to R105) -/

/-- The row of the `UNLATCH` window: no switch is counted before the ending (R98). -/
theorem State.Sound.unlatchWindow_ends {s : State} (h : s.Sound) {side : Side} {r : Record}
    (driver : s.doorRecord side = some r) (unlatch : (s.door side).phase = some .unlatch) :
    ∃ x : State, exec (.unlatchWindowExpiry side) s = .next x.conclude ∧ s.Ends x r .failed (some .latch) ∧
      x.doorFree side ∧ x.inputs = s.inputs ∧ x.now = max s.now ((s.door side).phaseAt + 800) := by
  have c := s.passTo_counts ((s.door side).phaseAt + 800)
  obtain ⟨y, driven, bare⟩ := c.doorRecord driver
  obtain ⟨ends, free⟩ := (c.sound h).endDoor_ends driven .failed (some .latch)
  refine ⟨_, congrArg Host.Outcome.next (if_pos unlatch),
    ends.since (s.passTo_follows _) (Record.bare_handle bare) (Record.bare_kind bare) (c.endPos bare), free, ?_, ?_⟩
  · exact (State.endDoor_follows _ _ _ _).inputs.trans c.inputs
  · exact (State.endDoor_now _ _ _ _).trans (s.passTo_now _)

section
variable {s : State} {side : Side} {t0 : Nat} (since : (s.door side).obsSince = some t0)
include since

theorem exec_obstruction_watched (watched : (s.door side).watched = true) :
    exec (.obstruction side) s = .next ((s.passTo (t0 + 120)).obstruct side true).conclude := by
  show execObstruction side s = _
  simp only [execObstruction, since, if_pos watched]
  rfl

theorem exec_obstruction_unwatched (unwatched : ¬(s.door side).watched = true) : exec (.obstruction side) s = .next s := by
  show execObstruction side s = _
  simp only [execObstruction, since, if_neg unwatched]

/-- An obstruction of an opening leaf is a failure at the moment at which the obstruction time has passed (R105). -/
theorem exec_obstruction_opening (opening : (s.door side).phase = some .opening) :
    exec (.obstruction side) s = .next (s.failDoor side (t0 + 120) .obstruct) := by
  rw [exec_obstruction_watched since ((Door.watched_iff _).mpr (.inl opening)), State.obstruct_opening, State.failDoor]
  rwa [State.passTo_door]

/-- An obstruction of a closing leaf turns it round (R104). -/
theorem exec_obstruction_closing (closing : (s.door side).phase = some .closing) :
    exec (.obstruction side) s = .next ((s.passTo (t0 + 120)).enterPhase side .reverse).conclude := by
  rw [exec_obstruction_watched since ((Door.watched_iff _).mpr (.inr closing)), State.obstruct_closing]
  rwa [State.passTo_door]

end

/-- Counting leaves the handles of the table. -/
theorem State.Counts.handles {s t : State} (c : s.Counts t) : t.handles = s.handles := by
  rw [State.handles_bare, State.handles_bare, c.bare]

/-- Settles O49: the rows of the timers by the failure of the door's record, the current value by whether the door is watched
and the channel read, and an obstruction by the phase it finds. -/
theorem doorTimersAndObstruction : Obligations.DoorTimersAndObstruction := by
  refine ⟨fun s side => ?_, fun s side wasOk => ?_, fun s side t0 since => ⟨fun closing => ?_, fun shut opens => ?_⟩⟩
  · intro counts fails
    have row_fails {r : Record} {at_ : Nat} {why : EndReason} {c : Instr} (sound : s.Sound)
        (driver : s.doorRecord side = some r) (row : exec c s = .next (s.failDoor side at_ why)) :
        ∃ b x : State, counts b ∧ b.now = max s.now at_ ∧ exec c s = .next x.conclude ∧ b.Ends x r .failed (some why) ∧
          x.doorFree side := by
      obtain ⟨b, x, ⟨rest, recounted, counted, now⟩, eq, ends, free⟩ := sound.failDoor_fails driver at_ why
      exact ⟨b, x, ⟨rest, recounted, counted⟩, now, row.trans (congrArg Host.Outcome.next eq), ends, free⟩
    refine ⟨fun r t0 sound driver since opening => ?_, fun r sound driver => ?_,
      fun other => congrArg Host.Outcome.next (if_neg other), fun opening closing => ?_,
      fun other => congrArg Host.Outcome.next (if_neg other), fun other => congrArg Host.Outcome.next (if_neg other)⟩
    · exact row_fails ((State.sound_iff s).mp sound) driver (exec_obstruction_opening since opening)
    · have sound := (State.sound_iff s).mp sound
      refine ⟨sound.unlatchWindow_ends driver, fun watched => ?_, fun pullin => ?_, fun reverse => ?_⟩
      · exact row_fails sound driver (congrArg Host.Outcome.next (if_pos ((Door.watched_iff _).mpr watched)))
      · exact row_fails sound driver (congrArg Host.Outcome.next (if_pos pullin))
      · exact row_fails sound driver (congrArg Host.Outcome.next (if_pos reverse))
    · refine congrArg Host.Outcome.next (if_neg fun watched => ?_)
      exact ((Door.watched_iff _).mp watched).elim opening closing
  · intro d n x watched compared ok
    have chan : n = currentChan side := by cases side <;> rfl
    have watched_iff : d.watched = true ↔ watched := Door.watched_iff d
    have ok_iff : s.chanOk (currentChan side) = true ↔ ok := by
      rw [← chan]
      exact s.chanOk_iff n
    refine ⟨fun un => State.doorCurrent_unwatched (mt watched_iff.mp un) wasOk, fun on read early => ?_,
      fun on read late => ?_, fun on lost was early => ?_, fun on lost now r sound driver => ?_⟩
    · exact (State.doorCurrent_read (watched_iff.mpr on) (ok_iff.mpr read) wasOk).trans (if_neg early)
    · have taken := (State.doorCurrent_read (watched_iff.mpr on) (ok_iff.mpr read) wasOk).trans (if_pos late)
      rwa [← chan] at taken
    · refine (State.doorCurrent_unread (watched_iff.mpr on) (mt ok_iff.mp lost) wasOk).trans (if_neg ?_)
      rintro (ok | late)
      · rw [was] at ok
        cases ok
      · exact early late
    · have settled : x = s.settleDoor side .failed (some .obstruct) :=
        (State.doorCurrent_unread (watched_iff.mpr on) (mt ok_iff.mp lost) wasOk).trans (if_pos now)
      obtain ⟨ends, free⟩ := ((State.sound_iff s).mp sound).settleDoor_ends driver .failed (some .obstruct)
      obtain ⟨rest, recounted, counted⟩ := s.countDue_hasCountedDue side
      rw [settled]
      exact ⟨s.countDue side, rest, recounted, counted, ends, free⟩
  · have c := s.passTo_counts (t0 + 120)
    have follows := (s.passTo_follows (t0 + 120)).trans (State.enterPhase_follows _ side .reverse)
    have now := State.enterPhase_now (s.passTo (t0 + 120)) side .reverse
    refine ⟨_, exec_obstruction_closing since closing, now.trans (s.passTo_now _), follows.trans (State.conclude_follows _),
      ?_, ?_, ?_⟩
    · rw [State.handles, State.enterPhase_plan]
      exact c.handles
    · rw [State.enterPhase_arb, c.arb]
    · rw [State.enterPhase_door, now]
      rfl
  · refine exec_obstruction_unwatched since fun watched => ?_
    exact ((Door.watched_iff _).mp watched).elim opens shut

end Sys2Proof.Machine
end

section
/-!
The door that follows its switches and the grant that begins its movement (O46), in the terms of R94 to R102, R104, R107 and
R108.
-/

namespace Sys2Proof.Machine

/-! ### A door that nothing drives (R94, R108) -/

theorem State.doorSwitched_undriven {s : State} {side : Side} (still : (s.door side).phase = none) (back : Bool) :
    ((s.doorSwitched side back).door side).state = s.derived side ∧
      (s.doorSwitched side back).notes =
        if (s.door side).state = s.derived side ∨ (s.door side).state = .unknown then s.notes
        else s.notes.push (.doorMoved side (s.door side).state (s.derived side)) := by
  have moved : s.doorSwitched side back = s.doorMoved side := by rw [State.doorSwitched, still]
  rw [moved]
  unfold State.doorMoved
  dsimp only
  split
  · exact ⟨by rw [State.setDoor_door], by rw [State.setDoor_notes]⟩
  · cases side <;> exact ⟨rfl, rfl⟩

/-! ### Switches of one side counted in one event (R31, R33) -/

theorem touches_iff (ins : List DInput) (side : Side) : touches ins side = true ↔ ∃ sw, .door side sw ∈ ins := by
  unfold touches
  rw [List.any_eq_true]
  constructor
  · rintro ⟨d, m, touched⟩
    cases d with
    | door x sw => exact ⟨sw, beq_iff_eq.mp touched ▸ m⟩
    | park | ign | engine | master | oilhot => cases touched
  · rintro ⟨sw, m⟩
    exact ⟨_, m, beq_self_eq_true side⟩

theorem State.handEngine_same {s : State} {v : Inputs} (same : v.engine = s.inputs.engine) : s.handEngine v = s := by
  unfold State.handEngine
  rw [same]
  rcases s.inputs.engine.counted with _ | _ | _ <;> rfl

theorem State.handMaster_same {s : State} {v : Inputs} (same : v.master = s.inputs.master) : s.handMaster v = s := by
  refine if_neg fun ⟨on, off⟩ => ?_
  rw [same, off] at on
  cases on

/-- A list of switches of one side is handed to the door of that side, and to nothing else (R33). -/
theorem State.countInputs_ofSide {s : State} {side : Side} {ins : List DInput} (ofSide : ∀ d ∈ ins, ∃ sw, d = .door side sw)
    (nonempty : ins ≠ []) :
    s.countInputs ins =
      State.doorSwitched { s with inputs := s.inputs.countAll ins } side
        (((s.inputs.countAll ins).switches side).opened.shows true && !(s.inputs.switches side).opened.shows true) := by
  set b : State := { s with inputs := s.inputs.countAll ins } with hb
  have hands : ((b.handDoor s.inputs ins .near).handDoor s.inputs ins .off) = b.handDoor s.inputs ins side := by
    have other (u : State) {x : Side} (apart : x ≠ side) : u.handDoor s.inputs ins x = u := by
      refine if_neg fun touched => ?_
      obtain ⟨sw, m⟩ := (touches_iff ins x).mp touched
      obtain ⟨sw', same⟩ := ofSide _ m
      exact apart (DInput.door.inj same).1
    cases side
    · exact other _ (by decide)
    · rw [other b (by decide)]
  have mine : b.handDoor s.inputs ins side = b.doorSwitched side
      ((b.inputs.switches side).opened.shows true && !(s.inputs.switches side).opened.shows true) := by
    obtain ⟨d, m⟩ := List.exists_mem_of_ne_nil ins nonempty
    obtain ⟨sw, rfl⟩ := ofSide d m
    exact if_pos ((touches_iff ins side).mpr ⟨sw, m⟩)
  have kept (d : DInput) (noDoor : ∀ sw, d ≠ .door side sw) (back : Bool) :
      s.inputs.get d = (b.doorSwitched side back).inputs.get d := by
    rw [(b.doorSwitched_follows side back).inputs, hb, Inputs.countAll_get, if_neg fun m => ?_]
    obtain ⟨sw, same⟩ := ofSide d m
    exact noDoor sw same
  show (((b.handDoor s.inputs ins .near).handDoor s.inputs ins .off).handEngine s.inputs).handMaster s.inputs = _
  rw [hands, mine, State.handEngine_same (kept .engine nofun _), State.handMaster_same (kept .master nofun _)]

/-- Switches of one side that have a new level reach their door together, as counted when the last of them is due (R31). -/
theorem State.counted_ofSide {s : State} {side : Side} {ins : List DInput} (ofSide : ∀ d ∈ ins, ∃ sw, d = .door side sw)
    (new : ∃ d ∈ ins, (s.inputs.get d).counted ≠ some (s.inputs.get d).raw) :
    ∃ b : State, b = { s.passTo b.now with inputs := b.inputs } ∧
      (∀ d, b.inputs.get d = if d ∈ ins then (s.inputs.get d).count else s.inputs.get d) ∧
      s.counted ins =
        b.doorSwitched side
          ((b.inputs.switches side).opened.shows true && !(s.inputs.switches side).opened.shows true) := by
  set due := s.inputs.due ins
  have inputs : (s.passTo (s.inputs.dueAt due)).inputs = s.inputs := (s.passTo_counts _).inputs
  have nonempty : due ≠ [] := fun none => by
    obtain ⟨d, m, moving⟩ := new
    exact (s.inputs.due_nil ins).mp none d m moving
  have counts := State.countInputs_ofSide (s := s.passTo (s.inputs.dueAt due))
    (fun d m => ofSide d ((s.inputs.mem_due ins d).mp m).1) nonempty
  rw [inputs] at counts
  refine ⟨{ s.passTo (s.inputs.dueAt due) with inputs := s.inputs.countAll due }, ?_,
    Inputs.countAll_due_get s.inputs ins, counts⟩
  dsimp only
  rw [State.passTo_at_now]

/-! ### A switch change in a phase (R98 to R102, R104) -/

theorem State.doorSwitched_driven {s : State} {side : Side} {p : Phase} (phase : (s.door side).phase = some p) (back : Bool) :
    s.doorSwitched side back = s.phaseSwitched side p (s.derived side) back := by
  rw [State.doorSwitched, phase]

/-! ### The grant of a door channel (R96, R97) -/

/-- The record of a door that is granted its channel: running, from the state that it finds (R9). -/
def Record.atDoor (r : Record) (found : DoorState) : Record :=
  { r with state := .running, wait := none, start := some (.door found) }

/-- The door channel granted to a record, before its movement begins (R9, R54). -/
def State.doorGranted (s : State) (side : Side) (r : Record) : State :=
  { s.upd r.handle fun y => y.atDoor (s.door side).state with
    arb := s.arb.setChannel side (some ⟨r.handle, s.settings.plain.doorDraw.toNat⟩) }

theorem State.grantDoor_of_phase {s : State} {side : Side} {r : Record} {p : Phase}
    (start : startPhase r.kind (s.door side).state = .inl p) :
    s.grantDoor side r = (s.doorGranted side r).enterPhase side p := by
  simp only [State.grantDoor, start]
  rfl

theorem State.grantDoor_of_end {s : State} {side : Side} {r : Record} {o : RecOutcome} {why : Option EndReason}
    (start : startPhase r.kind (s.door side).state = .inr (o, why)) :
    s.grantDoor side r = (s.doorGranted side r).endTree r.handle o why := by
  simp only [State.grantDoor, start]
  rfl

section
variable {s : State} {side : Side} {r : Record} (f : s.find r.handle = some r)
include f

theorem State.doorGranted_find : (s.doorGranted side r).find r.handle = some (r.atDoor (s.door side).state) :=
  State.find_upd f _ rfl

/-- A grant that begins a phase (R95 to R97, R151). -/
theorem State.grantDoor_begins {p : Phase} (start : startPhase r.kind (s.door side).state = .inl p) :
    (s.grantDoor side r).door side =
        ⟨.moving, some p, s.now, none, p == .opening || p == .reverse, p == .closing || p == .pullin, p == .unlatch⟩ ∧
      (s.grantDoor side r).arb.channel side = some ⟨r.handle, s.settings.plain.doorDraw.toNat⟩ ∧
      (s.grantDoor side r).beac = s.beac.dropTrail side ∧
      ∃ y, (s.grantDoor side r).find r.handle = some y ∧ y.state = .running ∧ y.start = some (.door (s.door side).state) := by
  rw [State.grantDoor_of_phase start, State.enterPhase_arb]
  refine ⟨State.enterPhase_door _ _ _, Arbiter.setChannel_channel _ _ _, State.enterPhase_beac _ _ _,
    r.atDoor (s.door side).state, ?_, rfl, rfl⟩
  rw [State.find, State.enterPhase_plan]
  exact State.doorGranted_find f

/-- The ending of a record that holds a door channel leaves the door free, whatever else is in the table (R13, R107). -/
theorem State.endTree_doorFree_of_find (of : r.side = some side) (holds : s.holdsDoor side r.handle = true) (o : RecOutcome)
    (why : Option EndReason) : (s.endTree r.handle o why).doorFree side := by
  obtain ⟨arb, -, stopped, -⟩ := State.quit_doorHolder o why of holds
  have derived : (s.quit r o why).derived side = s.derived side := by rw [State.derived, State.derived, s.quit_inputs]
  have quit : (s.quit r o why).doorFree side := by
    unfold State.doorFree
    rw [arb, stopped, derived, Arbiter.setChannel_channel]
    exact ⟨rfl, rfl, rfl, rfl, rfl, rfl⟩
  have one : (s.endOne r.handle o why).doorFree side := by
    rw [State.endOne_eq f]
    exact (State.count_counts _ _ _ _ _).doorFree quit
  exact State.endTree_induction (P := fun t => t.doorFree side) one (fun _ j free => free.freePred j)
    fun _ _ j free => free.endChain 12 j _ _

/-- A grant that ends its record at once: the final position is the state found, which is the derived one (R96, R97, R107). -/
theorem State.grantDoor_ends (of : r.side = some side) (free : s.arb.channel side = none)
    (found : (s.door side).state = s.derived side) {o : RecOutcome} {why : Option EndReason}
    (start : startPhase r.kind (s.door side).state = .inr (o, why)) :
    s.Ends (s.grantDoor side r) r o why ∧ (s.grantDoor side r).arb.channel side = none := by
  have granted := State.doorGranted_find (side := side) f
  have holds : (s.doorGranted side r).holdsDoor side r.handle = true := by
    simp [State.holdsDoor, State.doorGranted]
  have free' : s.holdsDoor side r.handle = false := by simp [State.holdsDoor, free]
  have pos : (s.doorGranted side r).endPos (r.atDoor (s.door side).state) = s.endPos r := by
    unfold State.endPos
    rw [show (r.atDoor (s.door side).state).side = some side from of, of]
    dsimp only
    rw [show (r.atDoor (s.door side).state).handle = r.handle from rfl, holds, free', if_pos rfl, if_neg nofun, found]
    rfl
  rw [State.grantDoor_of_end start]
  refine ⟨(State.endTree_ends (r := r.atDoor (s.door side).state) granted o why).since .quiet rfl rfl pos, ?_⟩
  exact (State.endTree_doorFree_of_find (r := r.atDoor (s.door side).state) granted of holds o why).1

end

/-- Settles O46: a door that nothing drives by its derived state, switches of one side by what the count hands on, a phase by
the combination that it meets, and a grant by the phase or the ending that the state found leads to. -/
theorem doorFollowsAndBegins : Obligations.DoorFollowsAndBegins := by
  refine ⟨⟨fun c l o => ?_, fun s side back still => State.doorSwitched_undriven still back⟩, fun s side ins ofSide new => ?_,
    fun s side back p phase => ?_, fun s side r f of free still => ?_⟩
  · cases c <;> cases l <;> cases o <;> rfl
  · obtain ⟨b, rest, get, counted⟩ := State.counted_ofSide ofSide new
    refine ⟨b, rest, fun d m => (get d).trans (if_pos m), fun d m => (get d).trans (if_neg m), ?_⟩
    intro back
    have same : back =
        ((b.inputs.switches side).opened.shows true && !(s.inputs.switches side).opened.shows true) := by
      rw [Bool.eq_iff_iff, decide_eq_true_iff]
      simp only [Bool.and_eq_true, Bool.not_eq_true', Debounced.shows_iff, ← Bool.not_eq_true]
    rw [exec_inputCountedChange_counted new, counted, same]
  · intro x c enters ends
    have meets {d : DoorState} (e : c = d) : x = s.phaseSwitched side p d back :=
      e ▸ State.doorSwitched_driven phase back
    have enters_of {q : Phase} (eq : x = s.enterPhase side q) (latch : (q == .unlatch) = false := by rfl) :
        enters q (q == .opening || q == .reverse) (q == .closing || q == .pullin) := by
      have door := s.enterPhase_door side q
      rw [latch] at door
      refine eq.trans ?_
      rw [State.enterPhase_eq, door]
      cases side <;> rfl
    have ends_of {o : RecOutcome} {why : Option EndReason} (eq : x = s.endDoor side o why) : ends o why := by
      intro r sound driver
      rw [eq]
      exact ((State.sound_iff s).mp sound).endDoor_ends driver o why
    refine ⟨fun notReverse fault => ends_of ((meets fault).trans ?_), ?_, ?_, ?_, ?_, ?_⟩
    · cases p with
      | reverse => exact absurd rfl notReverse
      | unlatch | opening | closing | pullin => rfl
    · rintro rfl
      refine ⟨?_, fun opened => ends_of (meets opened), ?_⟩
      · rintro (e | e) <;> exact enters_of (meets e)
      · rintro (e | e) <;> exact meets e
    · rintro rfl
      refine ⟨fun opened => ends_of (meets opened), ?_⟩
      rintro (e | e | e | e) <;> exact meets e
    · rintro rfl
      refine ⟨fun closed => enters_of (meets closed), fun shut => ends_of (meets shut), ?_⟩
      rintro (e | e | e) <;> exact meets e
    · rintro rfl
      refine ⟨fun shut => ends_of (meets shut), ?_⟩
      rintro (e | e | e | e) <;> exact meets e
    · rintro rfl
      exact ⟨fun rises => ends_of ((meets rfl).trans (if_pos rises)),
        fun rests => (meets rfl).trans (if_neg (by rw [rests]; nofun))⟩
  · intro d begins ends
    have begins_of {p : Phase} (start : startPhase r.kind d = .inl p) :
        begins p (p == .opening || p == .reverse) (p == .closing || p == .pullin) (p == .unlatch) := by
      obtain ⟨door, channel, trail, record⟩ := State.grantDoor_begins f start
      exact ⟨door, channel, by cases side <;> exact trail, record⟩
    have ends_of (found : d = s.derived side) {o : RecOutcome} {why : Option EndReason}
        (start : startPhase r.kind d = .inr (o, why)) : ends o why := State.grantDoor_ends f of free found start
    refine ⟨fun kind => ⟨fun e => ?_, fun e => ?_, fun e found => ?_, fun e found => ?_⟩,
      fun kind => ⟨fun e => ?_, fun e => ?_, fun e found => ?_, fun e found => ?_⟩⟩
    · exact begins_of (p := .unlatch) (by rw [kind, e]; rfl)
    · exact begins_of (p := .opening) (by rcases e with e | e <;> rw [kind, e] <;> rfl)
    · exact ends_of found (by rw [kind, e]; rfl)
    · exact ends_of found (by rcases e with e | e <;> rw [kind, e] <;> rfl)
    · exact begins_of (p := .closing) (by rcases e with e | e <;> rw [kind, e] <;> rfl)
    · exact begins_of (p := .pullin) (by rw [kind, e]; rfl)
    · exact ends_of found (by rw [kind, e]; rfl)
    · exact ends_of found (by rcases e with e | e <;> rw [kind, e] <;> rfl)

end Sys2Proof.Machine
end

section
/-!
The conversion of a code (O50), in the terms of R113 and R114.
-/

namespace Sys2Proof.Machine

/-- A quotient rounded to nearest lies within half a divisor of the dividend, and an exact half lies away from zero. -/
theorem roundDiv_nearest (num : Int) {den : Nat} (pos : 0 < den) :
    2 * (roundDiv num den * den - num).natAbs ≤ den ∧
      (2 * (roundDiv num den * den - num).natAbs = den → 0 ≤ (roundDiv num den * den - num) * num.sign) := by
  have split (a : Int) : (2 * a + den) / (2 * den : Int) * den * 2 = 2 * a + den - (2 * a + den) % (2 * den : Int) := by
    have e := Int.mul_ediv_add_emod (2 * a + den) (2 * den)
    linarith
  have low (a : Int) : 0 ≤ (2 * a + den) % (2 * den : Int) := Int.emod_nonneg _ (by omega)
  have high (a : Int) : (2 * a + den) % (2 * den : Int) < 2 * den := Int.emod_lt_of_pos _ (by omega)
  unfold roundDiv
  split
  · next nonneg =>
    have e := split num
    have l := low num
    have h := high num
    refine ⟨by omega, fun half => mul_nonneg (by omega) (Int.sign_nonneg_iff.mpr nonneg)⟩
  · next neg =>
    have e := split (-num)
    have l := low (-num)
    have h := high (-num)
    rw [neg_mul]
    refine ⟨by omega, fun half => mul_nonneg_of_nonpos_of_nonpos (by omega) (Int.sign_nonpos_iff.mpr (by omega))⟩

/-- A mean rounded to nearest, halves up (R114). -/
theorem meanOf_nearest {codes : List Nat} (nonempty : 0 < codes.length) :
    2 * codes.sum < (2 * meanOf codes + 1) * codes.length ∧
      (2 * meanOf codes) * codes.length ≤ 2 * codes.sum + codes.length := by
  have e : codes.length * meanOf codes + _ = _ := Nat.div_add_mod (codes.sum + codes.length / 2) codes.length
  have h := Nat.mod_lt (codes.sum + codes.length / 2) nonempty
  have above : (2 * meanOf codes + 1) * codes.length = 2 * (codes.length * meanOf codes) + codes.length := by ring
  have below : 2 * meanOf codes * codes.length = 2 * (codes.length * meanOf codes) := by ring
  omega

theorem chanRange_ordered (n : Fin 9) : (chanRange n).1 ≤ (chanRange n).2 := by
  revert n
  decide

/-- Settles O50: the rounded quotient by its distance from the exact one, then the clamp by its cases. -/
theorem conversionRoundsAndClamps : Obligations.ConversionRoundsAndClamps := by
  unfold Obligations.ConversionRoundsAndClamps
  refine ⟨fun k n c ordered => ?_, fun k n c => ?_, by decide, fun codes => meanOf_nearest⟩
  · intro den num
    have span : ((k.cHi - k.cLo).toNat : Int) = den := Int.toNat_of_nonneg (by omega)
    have near := roundDiv_nearest num (den := den.toNat) (by omega)
    rw [Int.toNat_of_nonneg (by omega : 0 ≤ den)] at near
    have abs : den.toNat = den.natAbs := by omega
    exact ⟨_, abs ▸ near.1, fun half => near.2 (half.trans abs.symm), clampInt_eq (chanRange_ordered n)⟩
  · have ordered := chanRange_ordered n
    unfold Cal.convert clampInt
    exact ⟨le_max_left _ _, max_le ordered (min_le_left _ _)⟩

end Sys2Proof.Machine
end

section
/-!
`CALP` (O29): the request and its completion by a scan, in the terms of R112, R124 and R125.
-/

namespace Sys2Proof.Machine

/-! ### The request (R124) -/

theorem chanOf_iff (n : Int) (c : Fin 9) : chanOf n = some c ↔ n = c.val := by
  unfold chanOf
  constructor
  · intro found
    have named := List.find?_some found
    exact (of_decide_eq_true named).symm
  · rintro rfl
    revert c
    decide

theorem chanOf_none {n : Int} (outside : ¬(0 ≤ n ∧ n ≤ 8)) : chanOf n = none := by
  cases found : chanOf n with
  | none => rfl
  | some c =>
    have named := (chanOf_iff n c).mp found
    omega

section
variable (s : State) (t : Tag) (n v : Int) (hi : Bool)

/-- The fields of a well-formed `CALP` (R124). -/
def calpFields : List Field := [.num n, .word (if hi then "HI" else "LO"), .num v]

theorem readCalp_calpFields : readCalp (calpFields n v hi) = some (n, hi, v) := by
  cases hi <;> rfl

variable {n} {v}

/-- A channel number or a value out of its range (R124). -/
theorem State.reqCalp_range
    (outside : ¬(0 ≤ n ∧ n ≤ 8) ∨ ∃ c : Fin 9, n = c.val ∧ ¬((chanRange c).1 ≤ v ∧ v ≤ (chanRange c).2)) :
    s.reqCalp t (calpFields n v hi) = s.answer t .calp "RANGE" [] := by
  unfold State.reqCalp
  rw [readCalp_calpFields]
  dsimp only
  rcases outside with outside | ⟨c, named, outside⟩
  · rw [chanOf_none outside]
  · rw [(chanOf_iff n c).mpr named]
    dsimp only
    rw [if_neg (mt (inRange_iff _ _).mp outside)]

/-- With channel and value in their ranges the plan table is looked at first, and then the channel (R124). -/
theorem State.reqCalp_inRange {c : Fin 9} (named : n = c.val) (low : (chanRange c).1 ≤ v) (high : v ≤ (chanRange c).2) :
    s.reqCalp t (calpFields n v hi) =
      if s.plan.records = [] then
        if (s.conv.chans[c]).status = .ok then { s with link := { s.link with calp := some ⟨t, c, hi, v⟩ } }
        else s.answer t .calp "SENSOR" []
      else s.answer t .calp "BUSY" [] := by
  unfold State.reqCalp
  rw [readCalp_calpFields]
  dsimp only
  rw [(chanOf_iff n c).mpr named]
  dsimp only
  rw [if_pos ((inRange_iff _ _).mpr ⟨low, high⟩)]
  simp only [List.isEmpty_iff, State.chanOk_iff]

end

/-! ### A scan admits no record (R110, R111) -/

theorem State.obstruct_thins (s : State) (side : Side) (measured : Bool) : s.Thins (s.obstruct side measured) := by
  have settled : s.Thins (s.settleDoor side .failed (some .obstruct)) := by
    refine State.Thins.trans ?_ (State.endDoor_thins _ _ _ _)
    cases side <;> exact .same
  unfold State.obstruct
  split
  · split
    · exact s.enterPhase_thins _ _
    · exact settled
  · exact settled
  all_goals exact .refl s

theorem State.doorCurrent_thins (s : State) (side : Side) (wasOk : Bool) : s.Thins (s.doorCurrent side wasOk) := by
  unfold State.doorCurrent
  dsimp only
  repeat' split
  all_goals
    first
    | exact .refl s
    | exact s.obstruct_thins _ _
    | exact s.setDoor_thins _ _

theorem State.axisScan_thins (s : State) : s.Thins s.axisScan := by
  unfold State.axisScan
  dsimp only
  repeat' split
  all_goals
    first
    | exact .refl s
    | exact .same
    | exact State.Thins.trans .same (State.coastStop_thins _ _)

theorem State.takeLoad_plan (s : State) : s.takeLoad.plan = s.plan := by
  unfold State.takeLoad
  split <;> rfl

theorem State.supplyScan_plan (s : State) : s.supplyScan.plan = s.plan := by rw [State.supplyScan_same]

/-- An empty table stays empty where no record is admitted. -/
theorem State.Thins.empty {s t : State} (a : s.Thins t) (h : s.plan.records = []) : t.plan.records = [] :=
  List.eq_nil_of_length_eq_zero (Nat.le_zero.mp (a.length.trans (by rw [h]; rfl)))

theorem State.scanRead_thins (s : State) (codes : Scan) : s.Thins (s.scanRead codes) := by
  have taken : s.Thins (s.scanTaken codes) := (s.passTo_thins _).trans .same
  have loaded (m : State) : m.Thins m.takeLoad := .same m.takeLoad_plan
  have supplied (m : State) : m.Thins m.supplyScan := .same m.supplyScan_plan
  have pumped (m : State) : m.Thins m.pumpScan := .same
  have reported : s.Thins (s.scanReported codes) := (taken.trans (loaded _)).trans (State.report_thins _)
  have axis := (reported.trans (supplied _)).trans (State.axisScan_thins _)
  exact ((axis.trans (pumped _)).trans (State.doorCurrent_thins _ .near _)).trans (State.doorCurrent_thins _ .off _)

/-! ### The completion (R125) -/

/-- From `s`, a waiting `CALP` has been answered and waits no longer; of the link nothing else has changed. -/
def State.toldCalp (s u : State) (w : CalpWait) (result : String) (fs : List Field) : Prop :=
  u.link = { s.link with calp := none, tx := u.link.tx, feed := u.link.feed } ∧
    u.link.tx ++ u.link.feed = s.link.tx ++ replyText w.tag (chars "CALP") result fs

theorem State.answer_toldCalp {s m : State} (w : CalpWait) (link : m.link = { s.link with calp := none })
    (result : String) (fs : List Field) : s.toldCalp (m.answer w.tag .calp result fs) w result fs := by
  unfold State.toldCalp State.answer Link.place
  rw [link]
  exact ⟨rfl, by rw [List.append_assoc, List.take_append_drop]; rfl⟩

theorem State.toldCalp.concluded {s u : State} {w : CalpWait} {result : String} {fs : List Field}
    (told : s.toldCalp u w result fs) : s.toldCalp u.conclude w result fs := by
  unfold State.toldCalp
  rw [u.conclude_follows.link]
  exact told

/-- Whether a scan has given a channel a code that a `CALP` may store (R125). -/
def Channel.usable (c : Channel) : Prop := c.status = .ok ∧ c.fresh = true

/-- The pair with the end that a waiting `CALP` stores (R125). -/
def State.calibrated (s : State) (w : CalpWait) : Cal :=
  s.settings.cal[w.chan].setEnd w.hi (meanOf (s.conv.chans[w.chan]).hist) w.value true

section
variable {s : State} {w : CalpWait}

/-- Without a usable code nothing is stored (R125). -/
theorem State.finishCalp_sensor (unusable : ¬(s.conv.chans[w.chan]).usable) :
    s.toldCalp (s.finishCalp w) w "SENSOR" [] ∧ (s.finishCalp w).settings = s.settings := by
  have eq : s.finishCalp w = State.answer _ w.tag .calp "SENSOR" [] := if_neg unusable
  rw [eq]
  exact ⟨State.answer_toldCalp w rfl _ _, rfl⟩

/-- With a record in the table nothing is stored (R125). -/
theorem State.finishCalp_busy (usable : (s.conv.chans[w.chan]).usable) (records : s.plan.records ≠ []) :
    s.toldCalp (s.finishCalp w) w "BUSY" [] ∧ (s.finishCalp w).settings = s.settings := by
  have eq : s.finishCalp w = State.answer _ w.tag .calp "BUSY" [] :=
    (if_pos usable).trans (if_neg (mt List.isEmpty_iff.mp records))
  rw [eq]
  exact ⟨State.answer_toldCalp w rfl _ _, rfl⟩

/-- A pair whose ends lie too close is not stored (R125). -/
theorem State.finishCalp_range (usable : (s.conv.chans[w.chan]).usable) (empty : s.plan.records = [])
    (narrow : (s.calibrated w).cHi - (s.calibrated w).cLo < 1000) :
    s.toldCalp (s.finishCalp w) w "RANGE" [.num (meanOf (s.conv.chans[w.chan]).hist)] ∧
      (s.finishCalp w).settings = s.settings := by
  have eq : s.finishCalp w = State.answer _ w.tag .calp "RANGE" [.num (meanOf (s.conv.chans[w.chan]).hist)] :=
    ((if_pos usable).trans (if_pos (List.isEmpty_iff.mpr empty))).trans (if_pos narrow)
  rw [eq]
  exact ⟨State.answer_toldCalp w rfl _ _, rfl⟩

/-- The end is stored and its pair marked (R125). -/
theorem State.finishCalp_ok (usable : (s.conv.chans[w.chan]).usable) (empty : s.plan.records = [])
    (wide : 1000 ≤ (s.calibrated w).cHi - (s.calibrated w).cLo) :
    s.toldCalp (s.finishCalp w) w "OK"
        [.num w.chan.val, .word (if w.hi then "HI" else "LO"), .num (meanOf (s.conv.chans[w.chan]).hist),
          .num ((s.calibrated w).cHi - (s.calibrated w).cLo)] ∧
      (s.finishCalp w).settings = { s.settings with cal := modAt s.settings.cal w.chan fun _ => s.calibrated w } := by
  have eq : s.finishCalp w = State.answer (State.setCal _ w.chan (s.calibrated w)) w.tag .calp "OK" _ :=
    ((if_pos usable).trans (if_pos (List.isEmpty_iff.mpr empty))).trans (if_neg (Int.not_lt.mpr wide))
  rw [eq]
  exact ⟨State.answer_toldCalp w rfl _ _, rfl⟩

/-- A waiting `CALP` is answered in every case. -/
theorem State.finishCalp_told (s : State) (w : CalpWait) : ∃ result fs, s.toldCalp (s.finishCalp w) w result fs := by
  by_cases usable : (s.conv.chans[w.chan]).usable
  · by_cases empty : s.plan.records = []
    · rcases lt_or_ge ((s.calibrated w).cHi - (s.calibrated w).cLo) 1000 with narrow | wide
      · exact ⟨_, _, (State.finishCalp_range usable empty narrow).1⟩
      · exact ⟨_, _, (State.finishCalp_ok usable empty wide).1⟩
    · exact ⟨_, _, (State.finishCalp_busy usable empty).1⟩
  · exact ⟨_, _, (State.finishCalp_sensor usable).1⟩

end

section
variable {s : State} (codes : Scan)

theorem State.scanRead_eq : (s.passTo s.conv.nextAt).scan codes = s.scanRead codes := by
  have was (n : Fin 9) : (s.passTo s.conv.nextAt).chanOk n = s.chanOk n := by
    unfold State.chanOk
    rw [(s.passTo_counts _).conv]
  unfold State.scan
  simp only [was]
  rfl

/-- What the readers of a scan leave to the completion of a waiting `CALP`. -/
theorem State.scanRead_calp : (s.scanRead codes).link = s.link ∧ (s.scanRead codes).settings = s.settings ∧
    (s.scanRead codes).conv.chans = (s.conv.scan codes s.settings.cal).chans := by
  have passed := s.passTo_counts s.conv.nextAt
  have read := (s.passTo s.conv.nextAt).scan_scans codes
  rw [State.scanRead_eq] at read
  refine ⟨read.link.trans passed.link, read.settings.trans passed.settings, ?_⟩
  obtain ⟨next, conv⟩ := s.scanTaken_conv codes
  rw [(s.scanRead_reads codes).conv, State.supplyScan_same, (s.scanReported_follows codes).conv, conv]

/-- The scan that a `CALP` waits for: its readers, the completion and the close of the event (R125). -/
def State.calpScan (s : State) (codes : Scan) (w : CalpWait) : State := ((s.scanRead codes).finishCalp w).conclude

/-- With nothing on the line either of the rows that report the scan is this one event (R125, log entry 25). -/
theorem State.exec_calpScan {w : CalpWait} (scanning : s.conv.scanning = true) (calp : s.link.calp = some w)
    (fifo : s.link.fifo = []) (complete : s.link.complete = none) :
    exec (.calpCompletion codes) s = .next (s.calpScan codes w) ∧ exec (.scanResult codes) s = .next (s.calpScan codes w) := by
  obtain ⟨link, -, -⟩ := s.scanRead_calp codes
  have finished : (s.scanRead codes).completeCalp = (s.scanRead codes).finishCalp w := by
    unfold State.completeCalp
    rw [link, calp]
  have drained : (s.calpScan codes w).drain = s.calpScan codes w := by
    obtain ⟨result, fs, told, -⟩ := (s.scanRead codes).finishCalp_told w
    have closed : (s.calpScan codes w).link = _ := (State.conclude_follows _).link.trans told
    refine State.drain_empty ?_ ?_ <;> rw [closed]
    · exact (congrArg Link.fifo link).trans fifo
    · exact (congrArg Link.complete link).trans complete
  have taken : s.takeScan codes = s.calpScan codes w := by
    rw [State.takeScan_eq, finished]
    exact drained
  rw [← taken]
  refine ⟨congrArg Host.Outcome.next (if_pos ?_), congrArg Host.Outcome.next (if_pos scanning)⟩
  rw [scanning, calp]
  rfl

variable {codes} {w : CalpWait}

/-- What the completion answers stands at the end of the scan. -/
theorem State.calpScan_told {result : String} {fs : List Field}
    (told : (s.scanRead codes).toldCalp ((s.scanRead codes).finishCalp w) w result fs) :
    s.toldCalp (s.calpScan codes w) w result fs := by
  obtain ⟨link, -, -⟩ := s.scanRead_calp codes
  have told := told.concluded
  unfold State.toldCalp at told
  rwa [link] at told

theorem State.calpScan_settings : (s.calpScan codes w).settings = ((s.scanRead codes).finishCalp w).settings :=
  (State.conclude_follows _).settings

end

/-! ### The statement -/

/-- Settles O29: the request by the order of its checks, its completion by the cases of R125. -/
theorem calpTakenAndCompleted : Obligations.CalpTakenAndCompleted := by
  unfold Obligations.CalpTakenAndCompleted
  refine ⟨fun s t n v hi => ?_, fun s codes w scanning calp fifo complete _ => ?_,
    fun s codes w _ scanning calp empty fifo complete _ => ?_⟩
  · intro fs ready
    refine ⟨fun c named low high => ?_, fun outside => State.serve_replies ready (s.reqCalp_range t hi outside)⟩
    have served := s.reqCalp_inRange t hi named low high
    refine ⟨fun empty ok => ?_, fun empty other => ?_, fun records => ?_⟩
    · rw [if_pos empty, if_pos ok] at served
      exact congrArg Host.Outcome.next ((State.deliver_ready ready).trans served)
    · rw [if_pos empty, if_neg other] at served
      exact State.serve_replies ready served
    · rw [if_neg records] at served
      exact State.serve_replies ready served
  · intro c usable told
    obtain ⟨-, settings, chans⟩ := s.scanRead_calp codes
    obtain ⟨completion, result⟩ := State.exec_calpScan codes scanning calp fifo complete
    have found : (s.scanRead codes).conv.chans[w.chan] = c := congrArg (·[w.chan]) chans
    have told_of {r : String} (e : (s.scanRead codes).toldCalp ((s.scanRead codes).finishCalp w) w r [] ∧
        ((s.scanRead codes).finishCalp w).settings = (s.scanRead codes).settings) : told (s.calpScan codes w) r := by
      obtain ⟨link, text⟩ := State.calpScan_told e.1
      exact ⟨link, State.calpScan_settings.trans (e.2.trans settings), text⟩
    refine ⟨_, completion, result, fun unusable => told_of (State.finishCalp_sensor ?_),
      fun use records => told_of (State.finishCalp_busy ?_ ?_)⟩
    · rwa [found]
    · rwa [found]
    · rwa [State.scanRead_eq] at records
  · intro c old code new span usable told
    obtain ⟨-, settings, chans⟩ := s.scanRead_calp codes
    obtain ⟨completion, result⟩ := State.exec_calpScan codes scanning calp fifo complete
    have found : (s.scanRead codes).conv.chans[w.chan] = c := congrArg (·[w.chan]) chans
    have none := (s.scanRead_thins codes).empty empty
    have pair : (s.scanRead codes).calibrated w = new := by
      unfold State.calibrated
      rw [found, settings]
      rfl
    have usable_of (use : usable) : ((s.scanRead codes).conv.chans[w.chan]).usable := by rwa [found]
    refine ⟨_, completion, result, fun use wide => ?_, fun use narrow => ?_, fun unusable => ?_⟩
    · obtain ⟨answered, stored⟩ := State.finishCalp_ok (usable_of use) none (pair ▸ wide)
      have stored := State.calpScan_settings.trans stored
      rw [settings, pair] at stored
      rw [found, pair] at answered
      refine ⟨State.calpScan_told answered, ?_, ?_, fun j other => ?_⟩ <;> rw [stored]
      · simp
      · simp [other]
    · obtain ⟨answered, kept⟩ := State.finishCalp_range (usable_of use) none (pair ▸ narrow)
      rw [found] at answered
      exact ⟨State.calpScan_told answered, State.calpScan_settings.trans (kept.trans settings)⟩
    · obtain ⟨answered, kept⟩ := State.finishCalp_sensor (s := s.scanRead codes) (w := w) (by rwa [found])
      exact ⟨State.calpScan_told answered, State.calpScan_settings.trans (kept.trans settings)⟩

end Sys2Proof.Machine
end

section
/-!
SUPPORT. A request written as a record and read back: its numbers and words, its fields between their commas, the check and
the judgement (R178, R179), and the characters it is written with (R176, R177).
-/

namespace Sys2Proof.Machine

/-! ### Characters (R174, R177, R179) -/

/-- A character that may stand in a field (R177, R179). -/
def fieldChar (c : Ch) : Bool := recordChar c && c != 0x2C#8

theorem fieldChar_of_toNat {c : Ch} (low : 44 < c.toNat) (high : c.toNat < 127) (at_ : c.toNat ≠ 64) :
    fieldChar c = true := by
  have other {d : Ch} (ne : c.toNat ≠ d.toNat) : (c != d) = true := bne_iff_ne.mpr fun e => ne (congrArg _ e)
  simp only [fieldChar, recordChar, isControl, Bool.and_eq_true, Bool.not_eq_true', Bool.or_eq_false_iff,
    decide_eq_false_iff_not]
  refine ⟨⟨⟨⟨by omega, by omega⟩, other at_⟩, other ?_⟩, other ?_⟩
  · show c.toNat ≠ 33
    omega
  · show c.toNat ≠ 44
    omega

theorem isDigit_iff (c : Ch) : isDigit c = true ↔ 48 ≤ c.toNat ∧ c.toNat ≤ 57 := by simp [isDigit]

theorem isUpper_iff (c : Ch) : isUpper c = true ↔ 65 ≤ c.toNat ∧ c.toNat ≤ 90 := by simp [isUpper]

theorem fieldChar_of_isDigit {c : Ch} (h : isDigit c = true) : fieldChar c = true := by
  obtain ⟨low, high⟩ := (isDigit_iff c).mp h
  exact fieldChar_of_toNat (by omega) (by omega) (by omega)

theorem fieldChar_of_isUpper {c : Ch} (h : isUpper c = true) : fieldChar c = true := by
  obtain ⟨low, high⟩ := (isUpper_iff c).mp h
  exact fieldChar_of_toNat (by omega) (by omega) (by omega)

theorem recordChar_of_fieldChar {c : Ch} (h : fieldChar c = true) : recordChar c = true := (Bool.and_eq_true_iff.mp h).1

/-! ### Hexadecimal digits (R178) -/

theorem hexCh_reads : ∀ n < 16, isHex (hexCh n) = true ∧ hexVal (hexCh n) = n ∧ recordChar (hexCh n) = true := by decide

/-- The two digits of a byte are read as that byte. -/
theorem tagOf_hex2 (b : BitVec 8) : tagOf (hexCh (b.toNat / 16)) (hexCh (b.toNat % 16)) = b := by
  have h := b.isLt
  obtain ⟨-, high, -⟩ := hexCh_reads (b.toNat / 16) (by omega)
  obtain ⟨-, low, -⟩ := hexCh_reads (b.toNat % 16) (by omega)
  refine BitVec.eq_of_toNat_eq ?_
  rw [tagOf, high, low, BitVec.toNat_ofNat]
  omega

theorem isHex_hex2 (b : BitVec 8) : isHex (hexCh (b.toNat / 16)) = true ∧ isHex (hexCh (b.toNat % 16)) = true := by
  have h := b.isLt
  exact ⟨(hexCh_reads _ (by omega)).1, (hexCh_reads _ (by omega)).1⟩

theorem recordChar_hex2 (b : BitVec 8) : (hex2 b).all recordChar = true := by
  have h := b.isLt
  obtain ⟨-, -, high⟩ := hexCh_reads (b.toNat / 16) (by omega)
  obtain ⟨-, -, low⟩ := hexCh_reads (b.toNat % 16) (by omega)
  simp [hex2, high, low]

/-- The check that is written is the one that is asked for (R178). -/
theorem checks_hex2 (main : List Ch) : checks main (0x2A#8 :: hex2 (sumOf main)) = true := by
  obtain ⟨high, low⟩ := isHex_hex2 (sumOf main)
  simp [checks, hex2, high, low, tagOf_hex2]

theorem readTag_hex2 (t : Tag) (rest : List Ch) : readTag (hex2 t ++ rest) = some t := by
  obtain ⟨high, low⟩ := isHex_hex2 t
  simp [readTag, hex2, high, low, tagOf_hex2]

/-! ### Numbers (R179) -/

/-- A text is the decimal digits of a number, at least one and no more than a bound of the number asks for. -/
structure IsDecimal (cs : List Ch) (n : Nat) : Prop where
  digit : ∀ c ∈ cs, isDigit c = true
  value : digitsVal cs = n
  nonempty : cs ≠ []
  short : ∀ k, n < 10 ^ (k + 1) → cs.length ≤ k + 1

theorem isDigit_ofNat {d : Nat} (h : d < 10) :
    isDigit (BitVec.ofNat 8 (48 + d)) = true ∧ (BitVec.ofNat 8 (48 + d)).toNat - 48 = d := by
  have e : (BitVec.ofNat 8 (48 + d)).toNat = 48 + d := by
    rw [BitVec.toNat_ofNat]
    omega
  rw [isDigit_iff, e]
  omega

theorem IsDecimal.one {d : Nat} (h : d < 10) : IsDecimal [BitVec.ofNat 8 (48 + d)] d := by
  obtain ⟨digit, value⟩ := isDigit_ofNat h
  refine ⟨?_, ?_, by simp, fun k _ => by simp⟩
  · simpa using digit
  · simpa [digitsVal] using value

/-- A digit written after those of a number. -/
theorem IsDecimal.snoc {cs : List Ch} {n d : Nat} (h : IsDecimal cs n) (pos : 0 < n) (hd : d < 10) :
    IsDecimal (cs ++ [BitVec.ofNat 8 (48 + d)]) (10 * n + d) := by
  obtain ⟨digit, value⟩ := isDigit_ofNat hd
  refine ⟨?_, ?_, by simp, fun k bound => ?_⟩
  · intro c mem
    rcases List.mem_append.mp mem with mem | mem
    · exact h.digit c mem
    · rwa [List.mem_singleton.mp mem]
  · have e := h.value
    unfold digitsVal at e ⊢
    rw [List.foldl_append, e, List.foldl_cons, List.foldl_nil, value]
  · cases k with
    | zero => omega
    | succ k =>
      have := h.short k (by rw [pow_succ] at bound; omega)
      simpa using this

theorem digitsOnto_decimal : ∀ (fuel n : Nat) (acc : List Ch), n < 10 ^ (fuel + 1) →
    ∃ cs, digitsOnto (fuel + 1) n acc = cs ++ acc ∧ IsDecimal cs n
  | fuel, n, acc, bound => by
    unfold digitsOnto
    dsimp only
    by_cases last : n / 10 = 0
    · rw [if_pos last]
      have e : n % 10 = n := by omega
      exact ⟨[BitVec.ofNat 8 (48 + n % 10)], rfl, by rw [e]; exact .one (by omega)⟩
    · rw [if_neg last]
      cases fuel with
      | zero => omega
      | succ fuel =>
        obtain ⟨cs, written, decimal⟩ :=
          digitsOnto_decimal fuel (n / 10) (BitVec.ofNat 8 (48 + n % 10) :: acc) (by rw [pow_succ] at bound; omega)
        refine ⟨cs ++ [BitVec.ofNat 8 (48 + n % 10)], by rw [written, List.append_assoc]; rfl, ?_⟩
        have e := decimal.snoc (d := n % 10) (by omega) (by omega)
        rwa [Nat.div_add_mod] at e

theorem digits_decimal {n : Nat} (h : n ≤ 999999) : IsDecimal (digits n) n := by
  obtain ⟨cs, written, decimal⟩ := digitsOnto_decimal 19 n [] (by omega)
  rw [List.append_nil] at written
  exact (congrArg (IsDecimal · n) written).mpr decimal

/-- Up to six digits are read as the number they write. -/
theorem IsDecimal.read {cs : List Ch} {n : Nat} (h : IsDecimal cs n) (bound : n ≤ 999999) : readNat cs = some n := by
  have low : 1 ≤ cs.length := List.length_pos_iff.mpr h.nonempty
  have high : cs.length ≤ 6 := h.short 5 (by omega)
  have all : cs.all isDigit = true := List.all_eq_true.mpr h.digit
  simp [readNat, low, high, all, h.value]

theorem numFits_iff (n : Int) : numFits n = true ↔ -999999 ≤ n ∧ n ≤ 999999 := by simp [numFits]

/-- A number as it is written is read as that number. -/
theorem readNum_numText {n : Int} (fits : numFits n = true) : readNum (numText n) = some n := by
  obtain ⟨low, high⟩ := (numFits_iff n).mp fits
  have decimal := digits_decimal (n := n.natAbs) (by omega)
  have read := decimal.read (by omega)
  unfold numText
  split
  · rw [readNum, if_pos rfl, read]
    exact congrArg some (show -(n.natAbs : Int) = n by omega)
  · cases e : digits n.natAbs with
    | nil => exact absurd e decimal.nonempty
    | cons c rest =>
      have digit := (isDigit_iff c).mp (decimal.digit c (by rw [e]; exact List.mem_cons_self))
      have sign : c ≠ 0x2D#8 := by
        rintro rfl
        exact absurd digit.1 (by decide)
      rw [e] at read
      rw [readNum, if_neg sign, read]
      exact congrArg some (show (n.natAbs : Int) = n by omega)

theorem fieldChar_numText {n : Int} (fits : numFits n = true) : ∀ c ∈ numText n, fieldChar c = true := by
  obtain ⟨low, high⟩ := (numFits_iff n).mp fits
  have decimal := digits_decimal (n := n.natAbs) (by omega)
  intro c mem
  unfold numText at mem
  split at mem
  · rcases List.mem_cons.mp mem with rfl | mem
    · decide
    · exact fieldChar_of_isDigit (decimal.digit c mem)
  · exact fieldChar_of_isDigit (decimal.digit c mem)

/-! ### Words (R179) -/

theorem isWord_cons {cs : List Ch} (h : isWord cs = true) :
    ∃ c rest, cs = c :: rest ∧ isUpper c = true ∧ ∀ d ∈ cs, isUpper d = true ∨ isDigit d = true := by
  cases cs with
  | nil => cases h
  | cons c rest =>
    simp only [isWord, Bool.and_eq_true, List.all_eq_true, Bool.or_eq_true] at h
    obtain ⟨⟨upper, all⟩, -⟩ := h
    refine ⟨c, rest, rfl, upper, fun d mem => ?_⟩
    rcases List.mem_cons.mp mem with rfl | mem
    · exact .inl upper
    · exact all d mem

theorem fieldChar_word {cs : List Ch} (h : isWord cs = true) : ∀ c ∈ cs, fieldChar c = true := by
  obtain ⟨_, _, -, -, all⟩ := isWord_cons h
  exact fun c mem => (all c mem).elim fieldChar_of_isUpper fieldChar_of_isDigit

/-- A text that begins with a letter is no number. -/
theorem readNum_upper {c : Ch} (h : isUpper c = true) (rest : List Ch) : readNum (c :: rest) = none := by
  obtain ⟨low, high⟩ := (isUpper_iff c).mp h
  have sign : c ≠ 0x2D#8 := by
    rintro rfl
    exact absurd low (by decide)
  have digit : isDigit c = false := by
    rw [← Bool.not_eq_true, isDigit_iff]
    omega
  simp [readNum, sign, readNat, digit]

theorem word_lacks_equals {cs : List Ch} (h : isWord cs = true) : ∀ c ∈ cs, c ≠ 0x3D#8 := by
  obtain ⟨_, _, -, -, all⟩ := isWord_cons h
  rintro _ mem rfl
  exact absurd (all _ mem) (by decide)

theorem splitEq_append {a : List Ch} (none : ∀ c ∈ a, c ≠ 0x3D#8) (b : List Ch) :
    splitEq (a ++ 0x3D#8 :: b) = some (a, b) := by
  induction a with
  | nil => rfl
  | cons c rest ih =>
    have first : c ≠ 0x3D#8 := none c List.mem_cons_self
    rw [List.cons_append, splitEq, if_neg first, ih fun d mem => none d (List.mem_cons_of_mem _ mem)]
    rfl

/-! ### Fields (R179) -/

theorem wordFits_iff (w : String) : wordFits w = true ↔ isWord (chars w) = true ∧ textOf (chars w) = w := by
  simp [wordFits]

theorem readField_word {w : String} (fits : wordFits w = true) : readField (chars w) = .word w := by
  obtain ⟨word, back⟩ := (wordFits_iff w).mp fits
  obtain ⟨c, rest, eq, upper, -⟩ := isWord_cons word
  have none : readNum (chars w) = none := by rw [eq, readNum_upper upper]
  simp only [readField, none, if_pos word, back]

theorem readField_wnum {w : String} {n : Int} (fits : wordFits w = true) (number : numFits n = true) :
    readField (chars w ++ 0x3D#8 :: numText n) = .wnum w n := by
  obtain ⟨word, back⟩ := (wordFits_iff w).mp fits
  obtain ⟨c, rest, eq, upper, -⟩ := isWord_cons word
  have none : readNum (chars w ++ 0x3D#8 :: numText n) = none := by rw [eq, List.cons_append, readNum_upper upper]
  have other : ¬isWord (chars w ++ 0x3D#8 :: numText n) = true := fun h =>
    word_lacks_equals h 0x3D#8 (by simp) rfl
  simp only [readField, none, if_neg other, splitEq_append (word_lacks_equals word), readNum_numText number, if_pos word, back]

/-- A field that the grammar can write is read as it was written. -/
theorem readField_fieldText {f : Field} (fits : f.fits = true) : readField (fieldText f) = f := by
  cases f with
  | num n => simp only [readField, fieldText, readNum_numText fits]
  | word w => exact readField_word fits
  | wnum w n =>
    obtain ⟨word, number⟩ := Bool.and_eq_true_iff.mp fits
    exact readField_wnum word number
  | bad text => exact of_decide_eq_true (Bool.and_eq_true_iff.mp fits).2

theorem fieldChar_fieldText {f : Field} (fits : f.fits = true) : ∀ c ∈ fieldText f, fieldChar c = true := by
  cases f with
  | num n => exact fieldChar_numText fits
  | word w => exact fieldChar_word ((wordFits_iff w).mp fits).1
  | wnum w n =>
    obtain ⟨word, number⟩ := Bool.and_eq_true_iff.mp fits
    intro c mem
    rcases List.mem_append.mp mem with mem | mem
    · exact fieldChar_word ((wordFits_iff w).mp word).1 c mem
    · rcases List.mem_cons.mp mem with rfl | mem
      · decide
      · exact fieldChar_numText number c mem
  | bad text => exact List.all_eq_true.mp (Bool.and_eq_true_iff.mp fits).1

/-- A text without a comma is one piece, and ends at the comma after it. -/
theorem splitCommas_append {a : List Ch} (plain : ∀ c ∈ a, fieldChar c = true) (rest : List Ch) :
    splitCommas a = [a] ∧ splitCommas (a ++ 0x2C#8 :: rest) = a :: splitCommas rest := by
  induction a with
  | nil => exact ⟨rfl, rfl⟩
  | cons c a ih =>
    obtain ⟨alone, before⟩ := ih fun d mem => plain d (List.mem_cons_of_mem _ mem)
    have comma : c ≠ 0x2C#8 := bne_iff_ne.mp (Bool.and_eq_true_iff.mp (plain c List.mem_cons_self)).2
    constructor
    · rw [splitCommas, if_neg comma, alone]
    · rw [List.cons_append, splitCommas, if_neg comma, before]

theorem fieldsText_cons (f : Field) (fs : List Field) : fieldsText (f :: fs) = 0x2C#8 :: (fieldText f ++ fieldsText fs) := rfl

theorem splitCommas_fieldsText {f : Field} {fs : List Field} (fits : ∀ g ∈ f :: fs, g.fits = true) :
    splitCommas (fieldText f ++ fieldsText fs) = (f :: fs).map fieldText := by
  induction fs generalizing f with
  | nil =>
    rw [show fieldsText [] = [] from rfl, List.append_nil]
    exact (splitCommas_append (fieldChar_fieldText (fits f List.mem_cons_self)) []).1
  | cons g fs ih =>
    rw [fieldsText_cons, (splitCommas_append (fieldChar_fieldText (fits f List.mem_cons_self)) _).2,
      ih fun h mem => fits h (List.mem_cons_of_mem _ mem)]
    rfl

/-- Fields as they are written are read as those fields. -/
theorem readFields_fieldsText {fs : List Field} (fits : ∀ f ∈ fs, f.fits = true) : readFields (fieldsText fs) = fs := by
  cases fs with
  | nil => rfl
  | cons f fs =>
    rw [fieldsText_cons, readFields, splitCommas_fieldsText fits, List.map_map]
    exact (List.map_congr_left fun g mem => readField_fieldText (fits g mem)).trans (List.map_id _)

theorem recordChar_fieldsText {fs : List Field} (fits : ∀ f ∈ fs, f.fits = true) :
    ∀ c ∈ fieldsText fs, recordChar c = true := by
  intro c mem
  obtain ⟨f, hf, mem⟩ := List.mem_flatMap.mp mem
  rcases List.mem_cons.mp mem with rfl | mem
  · decide
  · exact recordChar_of_fieldChar (fieldChar_fieldText (fits f hf) c mem)

/-! ### Records (R178) -/

/-- The name of a request is four letters, which name it (R178, step 4). -/
theorem chars_reqWord (n : ReqName) :
    ∃ a b c d, chars (reqWord n) = [a, b, c, d] ∧ [a, b, c, d].all isUpper = true ∧
      reading allReqs reqWord (textOf [a, b, c, d]) = some n := by
  cases n <;> exact ⟨_, _, _, _, rfl, by decide, by decide⟩

theorem judgeName_reqWord (t : Tag) (n : ReqName) {fs : List Field} (fits : ∀ f ∈ fs, f.fits = true) :
    judgeName t (chars (reqWord n) ++ fieldsText fs) = .request ⟨t, n, fs⟩ := by
  obtain ⟨a, b, c, d, name, upper, known⟩ := chars_reqWord n
  have ends : (fieldsText fs).isEmpty = true ∨ ((fieldsText fs).head? == some 0x2C#8) = true := by
    cases fs with
    | nil => exact .inl rfl
    | cons f fs => exact .inr rfl
  simp only [name, List.cons_append, List.nil_append, judgeName]
  rw [if_pos (Bool.and_eq_true_iff.mpr ⟨upper, Bool.or_eq_true_iff.mpr ends⟩), known]
  exact congrArg (fun x => Judged.request ⟨t, n, x⟩) (readFields_fieldsText fits)

/-- What stands between the `@` of a request's record and its check. -/
def recordMain (r : Request) : List Ch := hex2 r.tag ++ chars (reqWord r.name) ++ fieldsText r.fields

theorem recordText_eq (r : Request) : recordText r = 0x40#8 :: (recordMain r ++ 0x2A#8 :: hex2 (sumOf (recordMain r))) := rfl

theorem Request.fits_iff (r : Request) :
    r.fits = true ↔ (∀ f ∈ r.fields, f.fits = true) ∧ (recordText r).length ≤ 96 := by
  rw [Request.fits, Bool.and_eq_true, List.all_eq_true, decide_eq_true_iff, Config.recordCap]

/-- A record as it is written is judged to be its request (R178). -/
theorem judgeText_recordText {r : Request} (fits : ∀ f ∈ r.fields, f.fits = true) :
    judgeText (recordText r) = .request r := by
  have length : (recordMain r ++ 0x2A#8 :: hex2 (sumOf (recordMain r))).length - 3 = (recordMain r).length := by simp [hex2]
  have name : judgeName r.tag ((recordMain r).drop 2) = .request r := judgeName_reqWord r.tag r.name fits
  have tag : readTag (recordMain r) = some r.tag := by
    rw [recordMain, List.append_assoc]
    exact readTag_hex2 _ _
  simp only [judgeText, recordText_eq, List.drop_succ_cons, List.drop_zero, length, List.take_left, List.drop_left,
    checks_hex2, if_true, tag, name]

/-- A record holds no control character after its `@`, and no `@` and no `!` (R176, R177, R180). -/
theorem recordChar_recordText {r : Request} (fits : ∀ f ∈ r.fields, f.fits = true) :
    ∀ c ∈ recordMain r ++ 0x2A#8 :: hex2 (sumOf (recordMain r)), recordChar c = true := by
  obtain ⟨a, b, c, d, name, upper, -⟩ := chars_reqWord r.name
  have hex (x : BitVec 8) : ∀ c ∈ hex2 x, recordChar c = true := List.all_eq_true.mp (recordChar_hex2 x)
  intro e mem
  simp only [recordMain, List.mem_append, List.mem_cons] at mem
  rcases mem with ((tag | word) | field) | rfl | check
  · exact hex _ e tag
  · rw [name] at word
    exact recordChar_of_fieldChar (fieldChar_of_isUpper (List.all_eq_true.mp upper e word))
  · exact recordChar_fieldsText fits e field
  · decide
  · exact hex _ e check

end Sys2Proof.Machine
end

section
/-!
SUPPORT. What stands on the line while requests are taken: a request leaves the FIFO and the assembler as they are, the drain
ends with nothing left to take or with processing waiting again (R182), and a record that stands in the FIFO is served as its
request (R176 to R178).
-/

namespace Sys2Proof.Machine

/-! ### What a request leaves on the line (R175, R176) -/

/-- The FIFO, the assembler and the complete record are as they were. -/
structure State.SameLine (s t : State) : Prop where
  fifo : t.link.fifo = s.link.fifo
  asm : t.link.asm = s.link.asm
  complete : t.link.complete = s.link.complete

theorem State.SameLine.of_link {s t : State} (link : t.link = s.link) : s.SameLine t := by
  constructor <;> rw [link]

theorem State.SameLine.trans {s t u : State} (a : s.SameLine t) (b : t.SameLine u) : s.SameLine u :=
  ⟨b.fifo.trans a.fifo, b.asm.trans a.asm, b.complete.trans a.complete⟩

theorem State.SameLine.concluded {s t : State} (a : s.SameLine t) : s.SameLine t.conclude :=
  a.trans (.of_link t.conclude_follows.link)

theorem State.SameLine.answered {s t : State} (a : s.SameLine t) (g : Tag) (n : ReqName) (w : String) (fs : List Field) :
    s.SameLine (t.answer g n w fs) := a.trans ⟨rfl, rfl, rfl⟩

theorem State.Follows.sameLine {s t : State} (f : s.Follows t) : s.SameLine t := .of_link f.link

theorem State.expire_sameLine (s : State) (byCount : Bool) : s.SameLine (s.expire byCount) := by
  rw [State.expire_eq]
  refine State.SameLine.trans (t := { s with link := s.link.expired }) ⟨rfl, rfl, rfl⟩ (State.Follows.sameLine ?_)
  exact (State.notify_follows _ _).trans (State.linkLostEnds_follows _)

section
variable (s : State) (t : Tag) (fs : List Field)

theorem State.answer_sameLine (n : ReqName) (w : String) : s.SameLine (s.answer t n w fs) := ⟨rfl, rfl, rfl⟩

theorem State.reqMove_sameLine : s.SameLine (s.reqMove t fs) := by
  have taken (a : Ask) : s.SameLine (s.takeMove t a) := (s.admit_follows a).sameLine.concluded.answered _ _ _ _
  unfold State.reqMove
  repeat' split
  all_goals
    first
    | exact s.answer_sameLine _ _ _ _
    | exact taken _

theorem State.reqSeqn_sameLine : s.SameLine (s.reqSeqn t fs) := by
  have taken (xs : List (Kind × Option Side × Option Int)) : s.SameLine (s.takeSeqn t xs) := by
    rw [State.takeSeqn_eq]
    exact (s.enrolSeqn_follows xs).sameLine.concluded.answered _ _ _ _
  unfold State.reqSeqn
  repeat' split
  all_goals
    first
    | exact s.answer_sameLine _ _ _ _
    | exact taken _

theorem State.reqCanc_sameLine : s.SameLine (s.reqCanc t fs) := by
  unfold State.reqCanc State.answerEnded
  split
  · split
    · exact (s.endTree_follows _ _ _).sameLine.concluded.answered _ _ _ _
    · exact s.answer_sameLine _ _ _ _
  · exact (s.endEach_follows _ _ _).sameLine.concluded.answered _ _ _ _
  · exact s.answer_sameLine _ _ _ _

theorem State.reqHalt_sameLine : s.SameLine (s.reqHalt t fs) := by
  have halted : s.SameLine (s.raiseHalt .request) := .of_link (s.raiseHalt_follows .request).link
  unfold State.reqHalt State.answerEnded
  split
  · exact halted.concluded.answered _ _ _ _
  · exact s.answer_sameLine _ _ _ _

theorem State.reqResm_sameLine : s.SameLine (s.reqResm t fs) := by
  have cleared : s.SameLine s.clearHalt := .of_link rfl
  unfold State.reqResm
  repeat' split
  all_goals
    first
    | exact s.answer_sameLine _ _ _ _
    | exact cleared.concluded.answered _ _ _ _

theorem State.reqCalp_sameLine : s.SameLine (s.reqCalp t fs) := by
  unfold State.reqCalp
  repeat' split
  all_goals exact ⟨rfl, rfl, rfl⟩

theorem State.reqBeac_sameLine : s.SameLine (s.reqBeac t fs) := by
  have lamps (ls : List Lamp) (f : LampCh → LampCh) : s.SameLine (ls.foldl (fun t l => t.updLamp l f) s).conclude :=
    (State.updLamps_keeps ls f s).2.sameLine.concluded
  unfold State.reqBeac
  split
  · exact s.answer_sameLine _ _ _ _
  · exact (lamps _ _).answered _ _ _ _
  · exact (lamps _ _).answered _ _ _ _

theorem State.clearCounter_sameLine (i : Fin 8) : s.SameLine (s.clearCounter i) := by
  unfold State.clearCounter
  refine State.SameLine.trans ?_ (State.decideDerating_follows _).sameLine
  exact .of_link rfl

theorem State.setUpCounter_sameLine (i : Fin 8) (f : SetupForm) : s.SameLine (s.setUpCounter i f) := by
  unfold State.setUpCounter
  refine State.SameLine.trans ?_ (State.decideDerating_follows _).sameLine
  split <;> exact .of_link rfl

theorem State.reqCounter_sameLine (clear : Bool) (n : Int) : s.SameLine (s.reqCounter t clear n) := by
  unfold State.reqCounter
  split
  · exact s.answer_sameLine _ _ _ _
  · split
    · exact (s.clearCounter_sameLine _).answered _ _ _ _
    · exact s.answer_sameLine _ _ _ _

theorem State.reqSetup_sameLine : s.SameLine (s.reqSetup t fs) := by
  unfold State.reqSetup
  split
  · exact s.answer_sameLine _ _ _ _
  · split
    · exact s.answer_sameLine _ _ _ _
    · split
      · split
        · exact (s.setUpCounter_sameLine _ _).answered _ _ _ _
        · exact s.answer_sameLine _ _ _ _
      · exact s.answer_sameLine _ _ _ _

theorem State.reqCntr_sameLine : s.SameLine (s.reqCntr t fs) := by
  have frozen (b : Bool) : s.SameLine (s.setFrozen b) := .of_link rfl
  unfold State.reqCntr
  split
  · exact s.reqCounter_sameLine _ _ _
  · exact s.reqCounter_sameLine _ _ _
  · exact s.reqSetup_sameLine _ _
  · exact (frozen _).answered _ _ _ _
  · exact (frozen _).answered _ _ _ _
  · exact s.answer_sameLine _ _ _ _

theorem State.reqNote_sameLine : s.SameLine (s.reqNote t fs) := by
  unfold State.reqNote
  split <;> exact ⟨rfl, rfl, rfl⟩

theorem State.reqSetv_sameLine : s.SameLine (s.reqSetv t fs) := by
  have set (n : SettingName) (w : Settings) : s.SameLine (s.setSettings n w) := by
    rw [State.setSettings_same]
    exact .of_link rfl
  unfold State.reqSetv
  repeat' split
  all_goals
    first
    | exact s.answer_sameLine _ _ _ _
    | exact (set _ _).concluded.answered _ _ _ _

theorem State.reqSave_sameLine : s.SameLine (s.reqSave t fs) := by
  unfold State.reqSave
  repeat' split
  all_goals exact ⟨rfl, rfl, rfl⟩

theorem State.reqLink_sameLine : s.SameLine (s.reqLink t fs) := by
  unfold State.reqLink
  repeat' split
  all_goals exact ⟨rfl, rfl, rfl⟩

theorem State.takeLive_sameLine (n : Nat) : s.SameLine (s.takeLive t n) := by
  unfold State.takeLive
  dsimp only
  split
  · exact s.answer_sameLine _ _ _ _
  · split
    · exact ⟨rfl, rfl, rfl⟩
    · exact (s.expire_sameLine _).concluded.answered _ _ _ _
  · split <;> exact ⟨rfl, rfl, rfl⟩

theorem State.reqLive_sameLine : s.SameLine (s.reqLive t fs) := by
  unfold State.reqLive
  split
  · split
    · exact s.takeLive_sameLine _ _
    · exact s.answer_sameLine _ _ _ _
  · exact s.answer_sameLine _ _ _ _

end

theorem State.serve_sameLine (s : State) (r : Request) : s.SameLine (s.serve r) := by
  have query {n : ReqName} {u : State} (e : ∃ w xs, u = s.answer r.tag n w xs) : s.SameLine u := by
    obtain ⟨w, xs, rfl⟩ := e
    exact s.answer_sameLine _ _ _ _
  unfold State.serve
  cases r.name with
  | move => exact s.reqMove_sameLine _ _
  | seqn => exact s.reqSeqn_sameLine _ _
  | canc => exact s.reqCanc_sameLine _ _
  | halt => exact s.reqHalt_sameLine _ _
  | resm => exact s.reqResm_sameLine _ _
  | qrec => exact query (s.reqQrec_answers _ _)
  | plan => exact query (s.reqPlan_answers _ _)
  | calp => exact s.reqCalp_sameLine _ _
  | beac => exact s.reqBeac_sameLine _ _
  | cntr => exact s.reqCntr_sameLine _ _
  | note => exact s.reqNote_sameLine _ _
  | getv => exact query (s.reqGetv_answers _ _)
  | setv => exact s.reqSetv_sameLine _ _
  | save => exact s.reqSave_sameLine _ _
  | link => exact s.reqLink_sameLine _ _
  | live => exact s.reqLive_sameLine _ _
  | stat => exact query (s.reqStat_answers _ _)

theorem State.process_sameLine (s : State) (text : List Ch) : s.SameLine (s.process text) := by
  unfold State.process
  split
  · exact ⟨rfl, rfl, rfl⟩
  · exact ⟨rfl, rfl, rfl⟩
  · exact ⟨rfl, rfl, rfl⟩
  · exact ⟨rfl, rfl, rfl⟩
  · exact s.serve_sameLine _

/-! ### The end of the drain (R182) -/

/-- A character that is stored changes the assembler, its complete record and the counts alone. -/
theorem Link.store_same (l : Link) (text : List Ch) (damaged : Bool) (x : RxChar) :
    ∃ asm complete counts, l.store text damaged x = { l with asm := asm, complete := complete, counts := counts } := by
  unfold Link.store Link.damage
  dsimp only
  repeat' split
  all_goals exact ⟨_, _, _, rfl⟩

theorem Link.assemble_hunting {l : Link} (hunting : l.asm = .hunting) (x : RxChar) :
    l.assemble x =
      let m := if x.c = 0x40#8 ∧ x.framing = false then { l with asm := .assembling [0x40#8] false } else l
      if x.loss then m.loss else m := by
  simp only [Link.assemble, hunting]

theorem Link.assemble_assembling {l : Link} {text : List Ch} {damaged : Bool} (asm : l.asm = .assembling text damaged)
    (x : RxChar) :
    l.assemble x = if x.loss then (l.store text damaged x).loss else l.store text damaged x := by
  simp only [Link.assemble, asm]

/-- So does a character that is assembled. -/
theorem Link.assemble_same (l : Link) (x : RxChar) :
    ∃ asm complete counts, l.assemble x = { l with asm := asm, complete := complete, counts := counts } := by
  have marked {m : Link} (same : ∃ asm complete counts, m = { l with asm := asm, complete := complete, counts := counts }) :
      ∃ asm complete counts,
        (if x.loss then m.loss else m) = { l with asm := asm, complete := complete, counts := counts } := by
    obtain ⟨_, _, _, rfl⟩ := same
    unfold Link.loss
    dsimp only
    repeat' split
    all_goals exact ⟨_, _, _, rfl⟩
  cases asm : l.asm with
  | hunting =>
    rw [Link.assemble_hunting asm]
    refine marked ?_
    split <;> exact ⟨_, _, _, rfl⟩
  | assembling text damaged =>
    rw [Link.assemble_assembling asm]
    exact marked (l.store_same text damaged x)

/-- The turns that the drain can still take: one for each character, and one for each record. -/
def Link.turns (l : Link) : Nat := 2 * l.fifo.length + if l.complete.isSome then 1 else 0

/-- Enough turns leave nothing to take, or processing waits again. -/
theorem State.drainFor_ends : ∀ (fuel : Nat) (s : State), s.link.turns ≤ fuel →
    (s.drainFor fuel).waits = true ∨ ((s.drainFor fuel).link.fifo = [] ∧ (s.drainFor fuel).link.complete = none)
  | 0, s, enough => by
    right
    unfold Link.turns at enough
    show s.link.fifo = [] ∧ s.link.complete = none
    refine ⟨List.length_eq_zero_iff.mp (by omega), ?_⟩
    cases complete : s.link.complete with
    | none => rfl
    | some text => simp [complete] at enough
  | fuel + 1, s, enough => by
    cases waits : s.waits with
    | true => exact .inl (by rw [State.drainFor_waits waits, waits])
    | false =>
      unfold Link.turns at enough
      cases complete : s.link.complete with
      | some text =>
        rw [State.drainFor_record waits complete]
        refine State.drainFor_ends fuel _ ?_
        have line := State.process_sameLine { s with link := { s.link with complete := none } } text
        simp [complete] at enough
        simpa [Link.turns, line.fifo, line.complete] using enough
      | none =>
        cases fifo : s.link.fifo with
        | nil =>
          rw [State.drainFor_empty fifo complete]
          exact .inr ⟨fifo, complete⟩
        | cons x rest =>
          rw [State.drainFor_char waits complete fifo]
          refine State.drainFor_ends fuel _ ?_
          obtain ⟨asm, record, counts, assembled⟩ := ({ s.link with fifo := rest } : Link).assemble_same x
          rw [assembled]
          simp only [fifo, List.length_cons] at enough
          unfold Link.turns
          dsimp only
          split <;> omega

theorem State.drain_ends (s : State) :
    s.drain.waits = true ∨ (s.drain.link.fifo = [] ∧ s.drain.link.complete = none) := by
  refine State.drainFor_ends _ s ?_
  unfold Link.turns
  split <;> omega

/-! ### A record that stands in the FIFO (R176 to R178) -/

/-- Characters as they stand in the FIFO, without a mark (R175). -/
def arrived (cs : List Ch) : List RxChar := cs.map fun c => ⟨c, false, false⟩

theorem Link.assemble_text {l : Link} {text : List Ch} (asm : l.asm = .assembling text false) {c : Ch}
    (char : recordChar c = true) (room : text.length < 96) :
    l.assemble ⟨c, false, false⟩ = { l with asm := .assembling (text ++ [c]) false } := by
  simp only [recordChar, Bool.and_eq_true, Bool.not_eq_true', bne_iff_ne] at char
  obtain ⟨⟨control, at_⟩, -⟩ := char
  have lf : c ≠ 0x0A#8 := by
    rintro rfl
    exact absurd control (by decide)
  have cr : c ≠ 0x0D#8 := by
    rintro rfl
    exact absurd control (by decide)
  have short : ¬Config.recordCap ≤ text.length := Nat.not_le.mpr room
  rw [Link.assemble_assembling asm]
  simp [Link.store, lf, cr, at_, control, short]

theorem Link.assemble_cr {l : Link} {text : List Ch} (asm : l.asm = .assembling text false) :
    l.assemble ⟨0x0D#8, false, false⟩ = { l with asm := .hunting, complete := some text } := by
  rw [Link.assemble_assembling asm]
  simp [Link.store]

/-- Whether processing waits is not decided by the FIFO, the assembler or the complete record. -/
theorem State.waits_line {s : State} (free : s.waits = false) {l : Link} (calp : l.calp = s.link.calp := by rfl)
    (feed : l.feed = s.link.feed := by rfl) (tx : l.tx = s.link.tx := by rfl) :
    State.waits { s with link := l } = false := free ▸ State.waits_congr rfl calp feed tx

/-- A turn that takes a character, with what the assembler makes of it. -/
theorem State.drainFor_assembles {s : State} {x : RxChar} {rest : List RxChar} {m : Link} (free : s.waits = false)
    (complete : s.link.complete = none) (fifo : s.link.fifo = x :: rest)
    (assembled : ({ s.link with fifo := rest } : Link).assemble x = m) (n : Nat) :
    s.drainFor (n + 1) = State.drainFor n { s with link := m } := by
  rw [State.drainFor_char free complete fifo, assembled]

/-- The assembler takes a text of a record from the FIFO while processing does not wait (R176, R182). -/
theorem State.drainFor_text (n : Nat) (rest : List RxChar) : ∀ (cs text : List Ch) (s : State), s.waits = false →
    s.link.complete = none → s.link.asm = .assembling text false → s.link.fifo = arrived cs ++ rest →
    (∀ c ∈ cs, recordChar c = true) → text.length + cs.length ≤ 96 →
    s.drainFor (cs.length + n) =
      State.drainFor n { s with link := { s.link with fifo := rest, asm := .assembling (text ++ cs) false } }
  | [], text, s, _, _, asm, fifo, _, _ => by
    have same : s = { s with link := { s.link with fifo := rest, asm := .assembling (text ++ []) false } } := by
      rw [List.append_nil, ← asm, show rest = s.link.fifo from fifo.symm]
    rw [← same]
    exact congrArg (State.drainFor · s) (Nat.zero_add n)
  | c :: cs, text, s, free, complete, asm, fifo, chars, room => by
    rw [List.length_cons] at room
    have one := State.drainFor_assembles free complete fifo
      (Link.assemble_text (l := { s.link with fifo := arrived cs ++ rest }) asm (chars c List.mem_cons_self) (by omega)) (cs.length + n)
    have rest := State.drainFor_text n rest cs (text ++ [c])
      { s with link := { s.link with fifo := arrived cs ++ rest, asm := .assembling (text ++ [c]) false } }
      (State.waits_line free) complete rfl rfl
      (fun d mem => chars d (List.mem_cons_of_mem _ mem)) (by rw [List.length_append, List.length_singleton]; omega)
    rw [List.append_assoc] at rest
    rw [List.length_cons, Nat.add_right_comm]
    exact one.trans rest

/-- A whole record in the FIFO is taken as its request. -/
theorem State.drain_record {s : State} (free : s.waits = false) (complete : s.link.complete = none)
    (hunting : s.link.asm = .hunting) {r : Request} (fits : r.fits = true)
    (fifo : s.link.fifo = arrived (recordText r ++ [0x0D#8])) :
    s.drain = State.serve { s with link := { s.link with fifo := [] } } r := by
  obtain ⟨fields, length⟩ := (Request.fits_iff r).mp fits
  have judged := judgeText_recordText fields
  have chars := recordChar_recordText fields
  rw [recordText_eq] at length judged fifo
  set body := recordMain r ++ 0x2A#8 :: hex2 (sumOf (recordMain r))
  have cr : arrived (0x40#8 :: body ++ [0x0D#8]) = ⟨0x40#8, false, false⟩ :: (arrived body ++ [⟨0x0D#8, false, false⟩]) := by
    simp [arrived]
  have fuel : 2 * s.link.fifo.length + 2 = body.length + (body.length + 3 + 1 + 1) + 1 := by
    rw [fifo]
    simp only [arrived, List.length_map, List.length_append, List.length_cons, List.length_nil]
    omega
  have served : State.process { s with link := { s.link with fifo := [], asm := .hunting, complete := none } }
      (0x40#8 :: body) = State.serve { s with link := { s.link with fifo := [] } } r := by
    rw [← hunting, ← complete]
    unfold State.process
    rw [judged]
  have line := State.process_sameLine { s with link := { s.link with fifo := [], asm := .hunting, complete := none } }
    (0x40#8 :: body)
  have begun := State.drainFor_assembles free complete (fifo.trans cr)
    (Link.assemble_hunting (l := { s.link with fifo := arrived body ++ [⟨0x0D#8, false, false⟩] }) hunting _)
    (body.length + (body.length + 3 + 1 + 1))
  have text := State.drainFor_text (body.length + 3 + 1 + 1) [⟨0x0D#8, false, false⟩] body [0x40#8]
    { s with link := { s.link with fifo := arrived body ++ [⟨0x0D#8, false, false⟩], asm := .assembling [0x40#8] false } }
    (State.waits_line free) complete rfl rfl chars (by rw [List.length_cons] at length; simp; omega)
  have ended := State.drainFor_assembles
    (s := { s with link :=
      { s.link with fifo := [⟨0x0D#8, false, false⟩], asm := .assembling (0x40#8 :: body) false } })
    (State.waits_line free) complete rfl (Link.assemble_cr rfl) (body.length + 3 + 1)
  have taken := State.drainFor_record
    (s := { s with link := { s.link with fifo := [], asm := .hunting, complete := some (0x40#8 :: body) } })
    (State.waits_line free) rfl (body.length + 3)
  rw [State.drain, fuel]
  exact begun.trans (text.trans (ended.trans (taken.trans ((State.drainFor_empty line.fifo line.complete _).trans served))))

end Sys2Proof.Machine
end

section
/-!
The end of the image read (O59): when a stored image is valid (R199), what it loads, what begins, and what is taken of the
line (R110, R129, R162, R182, R199, R200).
-/

namespace Sys2Proof.Machine

/-! ### A valid image (R127, R162, R199) -/

theorem stationsValid_iff (w : Settings) :
    stationsValid w.stn = true ↔ ∀ (i : Fin 6) (e : StationCfg), w.stn[i] = some e → 1 ≤ e.addr ∧ e.addr ≤ 15 ∧
      ∀ j : Fin 6, j ≠ i → ∀ f, w.stn[j] = some f → f.addr ≠ e.addr := by
  have free (i : Fin 6) (e : StationCfg) : (!addrTaken w.stn i e.addr) = true ↔
      ∀ j : Fin 6, j ≠ i → ∀ f, w.stn[j] = some f → f.addr ≠ e.addr := by
    rw [Bool.not_eq_true', ← Bool.not_eq_true, w.taken_iff]
    unfold Settings.Taken
    push Not
    simp only [ne_eq, Nat.cast_inj]
  unfold stationsValid
  rw [List.all_eq_true]
  refine ⟨fun valid i e entry => ?_, fun valid i _ => ?_⟩
  · have one := valid i (List.mem_finRange i)
    rw [entry] at one
    simp only [Bool.and_eq_true, decide_eq_true_eq, free] at one
    obtain ⟨⟨low, high⟩, distinct⟩ := one
    exact ⟨low, high, distinct⟩
  · cases entry : w.stn[i] with
    | none => rfl
    | some e =>
      obtain ⟨low, high, distinct⟩ := valid i e entry
      simp only [Bool.and_eq_true, decide_eq_true_eq, free]
      exact ⟨⟨low, high⟩, distinct⟩

theorem Cal.valid_iff (k : Cal) (n : Fin 9) :
    k.valid n = true ↔ 0 ≤ k.cLo ∧ k.cLo < k.cHi ∧ k.cHi ≤ 4096 ∧ (chanRange n).1 ≤ k.vLo ∧ k.vLo ≤ (chanRange n).2 ∧
      (chanRange n).1 ≤ k.vHi ∧ k.vHi ≤ (chanRange n).2 := by
  simp only [Cal.valid, Bool.and_eq_true, inRange_iff, decide_eq_true_eq]
  omega

theorem Settings.valid_iff (w : Settings) :
    w.valid = true ↔ (∀ p : PlainName, p.range.1 ≤ w.plain.get p ∧ w.plain.get p ≤ p.range.2) ∧
      stationsValid w.stn = true ∧ ∀ n : Fin 9, (w.cal[n]).valid n = true := by
  simp only [Settings.valid, Bool.and_eq_true, List.all_eq_true, inRange_iff, PlainName.mem_all, List.mem_finRange,
    true_implies, and_assoc]

theorem Image.good_iff (m : Image) :
    m.good = true ↔ m.valid = true ∧ m.settings.valid = true ∧ ∀ k : Fin 8, (m.counters[k]).valid = true := by
  rw [Image.good, Bool.and_eq_true, Bool.and_eq_true, vector_all_iff, and_assoc]

/-! ### The image loaded and the work begun (R199) -/

section
variable (s : State)

/-- The image is loaded, or the defaults, and scanning and polling have begun. -/
def State.imageTaken : State := s.loadImage.decideDerating.beginWork

/-- An active ESTOP has halted too: the end of the image read before the close of its event (R200). -/
def State.readDone : State := if s.imageTaken.inputs.estopRaw then s.imageTaken.estopOn else s.imageTaken

theorem State.finishRead_eq : s.finishRead = s.readDone.conclude.drain := rfl

/-- The image, or the defaults, before derating is decided again (R199). -/
structure State.Loads (s m : State) : Prop where
  now : m.now = s.now
  link : m.link = s.link
  store : m.store = s.store
  halt : m.halt = s.halt
  inputs : m.inputs = s.inputs
  kind : m.startup.kind = s.startup.kind
  defaults : m.startup.defaults = !s.store.image.good
  settings : m.settings = if s.store.image.good then s.store.image.settings else .default
  recs : m.cnt.recs = if s.store.image.good then s.store.image.counters else Counters.defaultRecs
  noted : s.store.image.good = false → s.queued m (.defaults s.startup.kind)

theorem State.loadImage_loads : s.Loads s.loadImage := by
  unfold State.loadImage
  cases good : s.store.image.good with
  | true => exact ⟨rfl, rfl, rfl, rfl, rfl, rfl, by rw [good]; rfl, by rw [good]; rfl, by rw [good]; rfl, by rw [good]; nofun⟩
  | false =>
    exact ⟨rfl, rfl, rfl, rfl, rfl, rfl, by rw [good]; rfl, by rw [good]; rfl, by rw [good]; rfl, fun _ => ⟨[], [], rfl⟩⟩

variable {s} in
/-- Derating decided again leaves what has been loaded. -/
theorem State.Loads.derated {m : State} (h : s.Loads m) : s.Loads m.decideDerating := by
  have f := m.decideDerating_follows
  have c := m.decideDerating_cnt
  exact
    { now := m.decideDerating_now.trans h.now
      link := f.link.trans h.link
      store := f.store.trans h.store
      halt := f.halt.trans h.halt
      inputs := f.inputs.trans h.inputs
      kind := (congrArg Startup.kind f.startup).trans h.kind
      defaults := (congrArg Startup.defaults f.startup).trans h.defaults
      settings := f.settings.trans h.settings
      recs := (congrArg Counters.recs c).trans h.recs
      noted := fun bad => (h.noted bad).follows f }

theorem State.imageTaken_loads : s.Loads s.imageTaken := by
  have h := s.loadImage_loads.derated
  exact ⟨h.now, h.link, h.store, h.halt, h.inputs, h.kind, h.defaults, h.settings, h.recs, h.noted⟩

/-- Scanning and polling have begun, and the stations are those of the settings (R110, R129). -/
structure State.Begun (m : State) : Prop where
  reading : m.startup.reading = false
  scanning : m.conv.scanning = true
  polling : m.bus.polling = true
  nextAt : m.bus.nextAt = m.now
  stations : ∀ i : Fin 6, (m.bus.stations[i]).entry = m.settings.stn[i]

theorem State.imageTaken_begun : s.imageTaken.Begun := by
  refine ⟨rfl, rfl, rfl, rfl, fun i => ?_⟩
  simp [State.imageTaken, State.beginWork, Station.new]

/-! ### An active ESTOP (R200) -/

variable {s}

/-- An active sample of ESTOP changes the inputs and the halt latch, and ends records. -/
theorem State.estopOn_follows : State.Follows { s with inputs := s.estopOn.inputs, halt := s.estopOn.halt } s.estopOn := by
  unfold State.estopOn
  dsimp only
  split
  · exact .quiet
  · have f := State.raiseHalt_follows
      { s with inputs := { s.inputs with estopRaw := true, estopQuiet := none, estopCounted := true } } .estop
    rw [f.inputs]
    exact f

theorem State.estopOn_now : s.estopOn.now = s.now := by
  unfold State.estopOn
  dsimp only
  split
  · rfl
  · exact State.raiseHalt_now _ _

theorem State.estopOn_halts (acts : s.startup.reading = false) (idle : s.inputs.estopCounted = false) :
    s.estopOn.halt.set = true ∧ s.estopOn.halt.estop = true ∧ s.estopOn.inputs.estopCounted = true := by
  set m : State := { s with inputs := { s.inputs with estopRaw := true, estopQuiet := none, estopCounted := true } } with hm
  have on : s.estopOn = m.raiseHalt .estop := by simp [State.estopOn, acts, idle, hm]
  rw [on]
  exact ⟨m.raiseHalt_set _, m.raiseHalt_has (c := .estop) rfl, by rw [(m.raiseHalt_follows .estop).inputs]⟩

theorem State.readDone_quiet (quiet : s.inputs.estopRaw = false) : s.readDone = s.imageTaken := by
  unfold State.readDone
  rw [s.imageTaken_loads.inputs, quiet]
  rfl

theorem State.readDone_estop (active : s.inputs.estopRaw = true) : s.readDone = s.imageTaken.estopOn := by
  unfold State.readDone
  rw [s.imageTaken_loads.inputs, active]
  rfl

/-- Whatever ESTOP is, it leaves what has been loaded and begun but for the inputs and the halt latch. -/
theorem State.readDone_follows :
    State.Follows { s.imageTaken with inputs := s.readDone.inputs, halt := s.readDone.halt } s.readDone ∧
      s.readDone.now = s.now := by
  cases estop : s.inputs.estopRaw with
  | true =>
    rw [State.readDone_estop estop]
    exact ⟨State.estopOn_follows, State.estopOn_now.trans s.imageTaken_loads.now⟩
  | false =>
    rw [State.readDone_quiet estop]
    exact ⟨.refl _, s.imageTaken_loads.now⟩

theorem State.readDone_loads (s : State) :
    s.readDone.startup.kind = s.startup.kind ∧ s.readDone.startup.defaults = (!s.store.image.good) ∧
      s.readDone.store = s.store ∧ s.readDone.link = s.link ∧
      s.readDone.settings = (if s.store.image.good then s.store.image.settings else .default) ∧
      (s.store.image.good = false → s.queued s.readDone (.defaults s.startup.kind)) := by
  have f := (s.readDone_follows).1
  have h := s.imageTaken_loads
  refine ⟨(congrArg Startup.kind f.startup).trans h.kind, (congrArg Startup.defaults f.startup).trans h.defaults,
    f.store.trans h.store, f.link.trans h.link, f.settings.trans h.settings, fun bad => State.queued.follows ?_ f⟩
  exact h.noted bad

theorem State.readDone_begun (s : State) : s.readDone.Begun := by
  obtain ⟨f, now⟩ := s.readDone_follows
  have b := s.imageTaken_begun
  refine ⟨(congrArg Startup.reading f.startup).trans b.reading, (congrArg Converter.scanning f.conv).trans b.scanning,
    (congrArg Bus.polling f.bus).trans b.polling, ?_, fun i => ?_⟩
  · rw [f.bus, now]
    exact b.nextAt.trans s.imageTaken_loads.now
  · rw [f.bus, f.settings]
    exact b.stations i

end

/-! ### What waited on the line (R182, R199) -/

/-- With the image read, processing waits for the transmit queue, for the rest of a reply or for a `CALP` (R182). -/
theorem State.waits_iff {s : State} (reading : s.startup.reading = false) :
    s.waits = true ↔ 16 < s.link.tx.length ∨ s.link.feed ≠ [] ∨ s.link.calp.isSome = true := by
  simp only [State.waits, reading, Link.room, Config.txCap, Config.txRoom, Bool.false_or, Bool.or_eq_true,
    Bool.not_eq_true', List.isEmpty_eq_false_iff]
  constructor
  · rintro ((calp | feed) | room)
    · exact .inr (.inr calp)
    · exact .inr (.inl feed)
    · have room := of_decide_eq_true room
      exact .inl (by omega)
  · rintro (room | feed | calp)
    · exact .inr (decide_eq_true (by omega))
    · exact .inl (.inr feed)
    · exact .inl (.inl calp)

theorem Link.receive_empty {l : Link} (empty : l.fifo = []) (c : Ch) :
    l.receive c false = { l with fifo := [⟨c, false, false⟩] } := by
  simp [Link.receive, empty, Config.fifoCap]

/-- A lone character in the FIFO is taken as it would be on its arrival (R175, log entry 45). -/
theorem State.drain_char {s : State} {c : Ch} (fifo : s.link.fifo = [⟨c, false, false⟩]) (other : c ≠ 0x21#8) :
    exec (.characterReceived c false) { s with link := { s.link with fifo := [] } } = .next s.drain := by
  have received : ({ s.link with fifo := [] } : Link).receive c false = s.link := by
    rw [Link.receive_empty rfl, ← fifo]
  have heard : ¬(c = 0x21#8 ∧ false = false) := fun h => other h.1
  exact congrArg Host.Outcome.next ((if_neg heard).trans (by rw [received]))

/-- A whole request in the FIFO is taken as its row (R178, log entry 14). -/
theorem State.drain_request {s : State} (free : s.waits = false) (complete : s.link.complete = none)
    (hunting : s.link.asm = .hunting) {i : Instr} {r : Request} (request : i.request = some r) (fits : r.fits = true)
    (fifo : s.link.fifo = arrived (recordText r ++ [0x0D#8])) :
    exec i { s with link := { s.link with fifo := [] } } = .next s.drain := by
  have ready : State.ready { s with link := { s.link with fifo := [] } } r :=
    ⟨State.waits_line free, hunting, ((Request.fits_iff r).mp fits).2⟩
  rw [exec_of_request request, State.deliver_ready ready, State.drain_record free complete hunting fits fifo]

/-- The drain ends with nothing on the line or with the link waiting again (R182). -/
theorem State.drain_done {s : State} (reading : s.startup.reading = false) :
    (s.drain.link.fifo = [] ∧ s.drain.link.complete = none) ∨ s.drain.link.calp.isSome = true ∨ s.drain.link.feed ≠ [] ∨
      16 < s.drain.link.tx.length := by
  rcases s.drain_ends with waits | empty
  · have startup := s.drain_takes.frames.startup
    rcases (State.waits_iff (by rw [startup, reading])).mp waits with room | feed | calp
    · exact .inr (.inr (.inr room))
    · exact .inr (.inr (.inl feed))
    · exact .inr (.inl calp)
  · exact .inl empty

/-! ### The statement -/

/-- Settles O59: what is loaded and begun, the halt of an active ESTOP, the drain by what stands on the line, and the valid
image rule by rule. -/
theorem imageReadEnds : Obligations.ImageReadEnds := by
  unfold Obligations.ImageReadEnds
  refine ⟨fun s reading => ?_, fun m => ?_, fun s done => congrArg Host.Outcome.next (if_neg (by rw [done]; nofun))⟩
  · set b := s.passTo 25
    have c : s.Counts b := s.passTo_counts 25
    have f : s.Follows b := s.passTo_follows 25
    have stored : b.store = s.store := f.store
    obtain ⟨kind, defaults, store, link, settings, noted⟩ := b.readDone_loads
    have begun := b.readDone_begun
    have line : b.readDone.conclude.link = s.link := State.conclude_link (link.trans f.link)
    have free : b.readDone.conclude.startup.reading = false :=
      (congrArg Startup.reading (State.conclude_follows _).startup).trans begun.reading
    have ended : exec .imageReadEnd s = .next b.readDone.conclude.drain := congrArg Host.Outcome.next (if_pos reading)
    refine ⟨b.readDone, ended, (b.readDone_follows.2).trans (s.passTo_now 25), begun.reading,
      kind.trans (congrArg Startup.kind f.startup), begun.scanning, begun.polling, begun.nextAt, store.trans stored,
      link.trans f.link, line, fun good => ?_, fun bad => ?_, begun.stations, fun active idle => ?_, fun quiet => ?_,
      fun _ => ?_⟩
    · rw [stored, good] at defaults settings
      refine ⟨settings, defaults, fun quiet => ?_⟩
      rw [State.readDone_quiet (by rw [c.inputs, quiet]), b.imageTaken_loads.recs, stored, good]
      rfl
    · rw [stored, bad] at defaults settings
      refine ⟨settings, defaults, ?_, fun quiet => ?_⟩
      · rw [stored, f.startup] at noted
        exact (noted bad).since f
      · rw [State.readDone_quiet (by rw [c.inputs, quiet]), b.imageTaken_loads.recs, stored, bad]
        rfl
    · rw [State.readDone_estop (by rw [c.inputs, active])]
      exact State.estopOn_halts b.imageTaken_begun.reading (by rw [b.imageTaken_loads.inputs, c.inputs, idle])
    · rw [State.readDone_quiet (by rw [c.inputs, quiet]), b.imageTaken_loads.halt, c.halt]
    · rw [ended, ← line]
      intro l waits freed
      have iff : b.readDone.conclude.waits = true ↔ waits := State.waits_iff free
      have going (h : ¬waits) : b.readDone.conclude.waits = false := Bool.not_eq_true _ ▸ mt iff.mp h
      refine ⟨?_, fun go complete ch fifo other => (State.drain_char fifo other).symm,
        fun go complete hunting i r request fits fifo => (State.drain_request (going go) complete hunting request fits fifo).symm,
        _, rfl, State.drain_done free⟩
      rintro (h | ⟨fifo, complete⟩)
      · rw [State.drain_waits (iff.mpr h)]
      · rw [State.drain_empty fifo complete]
  · rw [Image.good_iff, Settings.valid_iff, stationsValid_iff]
    simp only [Cal.valid_iff, Counter.valid_iff, Config.counterMax, and_assoc]

end Sys2Proof.Machine
end

section
/-!
SUPPORT. The close of an event takes no time (R35, R51, R154): one lemma for each operation of a look, in terms of
`State.Steady`.
-/

namespace Sys2Proof.Machine

theorem State.setWaits_steady (s : State) (rs : List Record) (w : WaitReason) : s.Steady (s.setWaits rs w) :=
  State.Steady.foldl (fun t (r : Record) => t.setWait r.handle w) (fun _ _ => ⟨rfl, rfl⟩) rs s

theorem State.enterPhase_steady (s : State) (side : Side) (p : Phase) : s.Steady (s.enterPhase side p) := by
  cases side <;> exact ⟨rfl, rfl⟩

theorem State.afterGrant_steady (s : State) (h : Handle) (pump : Bool) : s.Steady (s.afterGrant h pump) := by
  unfold State.afterGrant
  split
  · split
    · exact ⟨rfl, rfl⟩
    · exact s.enterRunning_steady _
  · exact ⟨rfl, rfl⟩

theorem State.grantPack_steady (s : State) (r : Record) : s.Steady (s.grantPack r) := by
  unfold State.grantPack
  dsimp only
  split
  · refine State.Steady.trans ?_ (State.endTree_steady _ _ _ _)
    exact ⟨rfl, rfl⟩
  · refine State.Steady.trans ?_ (State.afterGrant_steady _ _ _)
    exact ⟨rfl, rfl⟩

theorem State.lookPack_steady (s : State) : s.Steady s.lookPack := by
  unfold State.lookPack
  split
  · exact .refl s
  · next r rest _ =>
    refine (s.setWaits_steady rest .pack).trans ?_
    dsimp only
    repeat' split
    case isFalse.isFalse.isFalse => exact State.grantPack_steady _ _
    all_goals exact ⟨rfl, rfl⟩

theorem State.grantDoor_steady (s : State) (side : Side) (r : Record) : s.Steady (s.grantDoor side r) := by
  unfold State.grantDoor
  dsimp only
  split
  · refine State.Steady.trans ?_ (State.enterPhase_steady _ _ _)
    exact ⟨rfl, rfl⟩
  · refine State.Steady.trans ?_ (State.endTree_steady _ _ _ _)
    exact ⟨rfl, rfl⟩

theorem State.lookDoor_steady (s : State) (side : Side) : s.Steady (s.lookDoor side) := by
  unfold State.lookDoor
  split
  · exact .refl s
  · next r rest _ =>
    refine (s.setWaits_steady rest .channel).trans ?_
    dsimp only
    repeat' split
    case isFalse.isFalse => exact State.grantDoor_steady _ _ _
    all_goals exact ⟨rfl, rfl⟩

theorem State.looks_steady : ∀ (fuel : Nat) (s : State), s.Steady (s.looks fuel)
  | 0, s => .refl s
  | fuel + 1, s => by
    have once : s.Steady s.lookOnce := (s.lookPack_steady.trans (State.lookDoor_steady _ _)).trans (State.lookDoor_steady _ _)
    unfold State.looks
    dsimp only
    split
    · exact once.trans (State.looks_steady fuel _)
    · exact once

theorem State.conclude_now (s : State) : s.conclude.now = s.now := by
  have drive (t : State) : t.driveAway.now = t.now := by
    unfold State.driveAway
    dsimp only
    split <;> rfl
  calc s.conclude.now = s.report.look.driveAway.resolveAll.now := State.queueServices_now _
    _ = s.report.look.now := drive _
    _ = s.report.now := (State.looks_steady _ _).now
    _ = s.now := s.report_steady.now

end Sys2Proof.Machine
end

section
/-!
SUPPORT. The stations of the bus and the rest of the state: an ending reads nothing of them, and the keys that are handed on
change no more of them than a RESET time and a count of conflicts (R13, R27, R140 to R145).
-/

namespace Sys2Proof.Machine

/-! ### Endings read no station (R7, R13) -/

/-- The state with other stations. -/
def State.onStations (s : State) (v : Vector Station 6) : State := { s with bus := { s.bus with stations := v } }

section
variable (s : State) (v : Vector Station 6)

@[simp] theorem State.onStations_axis : (s.onStations v).axis = s.axis := rfl
@[simp] theorem State.onStations_arb : (s.onStations v).arb = s.arb := rfl

/-- A choice that reads no station. -/
theorem State.ite_onStations (c : Prop) [Decidable c] (a b : State) :
    (if c then a else b).onStations v = if c then a.onStations v else b.onStations v :=
  apply_ite (fun t : State => t.onStations v) c a b

theorem State.leaveRun_onStations : (s.onStations v).leaveRun = s.leaveRun.onStations v := by
  unfold State.leaveRun State.storeLoad
  rw [State.onStations_axis]
  repeat' split
  all_goals rfl

theorem State.stopOutputs_onStations (r : Record) : (s.onStations v).stopOutputs r = (s.stopOutputs r).onStations v := by
  unfold State.stopOutputs
  cases r.side with
  | some side =>
    dsimp only
    rw [State.ite_onStations]
    cases side <;> rfl
  | none =>
    refine Eq.trans ?_ (State.ite_onStations v _ _ _).symm
    rw [← s.leaveRun_onStations v]
    rfl

theorem State.release_onStations (r : Record) (moved : Bool) :
    (s.onStations v).release r moved = (s.release r moved).onStations v := by
  unfold State.release
  cases r.side with
  | some side =>
    dsimp only
    rw [State.ite_onStations]
    cases side <;> cases moved <;> rfl
  | none =>
    dsimp only
    rw [State.ite_onStations]
    cases moved <;> rfl

theorem State.slowRun_onStations : (s.onStations v).slowRun = s.slowRun.onStations v := by
  unfold State.slowRun
  rw [State.onStations_axis, State.onStations_arb]
  split
  · rw [State.ite_onStations]
    rfl
  · rfl

theorem State.decideDerating_onStations : (s.onStations v).decideDerating = s.decideDerating.onStations v := by
  unfold State.decideDerating
  dsimp only
  rw [State.ite_onStations, ← State.slowRun_onStations]
  rfl

theorem State.count_onStations (sources : List Source) (o : Option Origin) (side : Option Side) (load : Nat) :
    (s.onStations v).count sources o side load = (s.count sources o side load).onStations v := by
  unfold State.count State.applyCounters
  rw [State.ite_onStations, ← State.decideDerating_onStations]
  rfl

theorem State.endOne_onStations (h : Handle) (o : RecOutcome) (why : Option EndReason) :
    (s.onStations v).endOne h o why = (s.endOne h o why).onStations v := by
  cases found : s.find h with
  | none => rw [State.endOne_absent found, State.endOne_absent (s := s.onStations v) found]
  | some r =>
    have quit : (s.onStations v).quit r o why = (s.quit r o why).onStations v := by
      unfold State.quit
      rw [← State.release_onStations]
      unfold State.listed
      rw [State.stopOutputs_onStations]
      rfl
    rw [State.endOne_eq found, State.endOne_eq (s := s.onStations v) found, quit, ← State.count_onStations]
    rfl

end

theorem State.foldl_onStations {α : Type} (v : Vector Station 6) (f : State → α → State)
    (hf : ∀ (s : State) (x : α), f (s.onStations v) x = (f s x).onStations v) :
    ∀ (xs : List α) (s : State), xs.foldl f (s.onStations v) = (xs.foldl f s).onStations v
  | [], _ => rfl
  | x :: xs, s => by rw [List.foldl_cons, hf, State.foldl_onStations v f hf xs, List.foldl_cons]

/-- The ending of a record that is not `DONE`, whose successors end with it (R7). -/
theorem State.endChain_onStations (v : Vector Station 6) :
    ∀ (fuel : Nat) (s : State) (h : Handle) (o : RecOutcome) (why : Option EndReason), o ≠ .done →
      (s.onStations v).endChain fuel h o why = (s.endChain fuel h o why).onStations v
  | 0, _, _, _, _, _ => rfl
  | fuel + 1, s, h, o, why, ends => by
    have later := State.foldl_onStations v (fun t k => State.endChain fuel t k .cancelled (some .pred))
      (fun t k => State.endChain_onStations v fuel t k _ _ (by nofun)) (s.successors h) (s.endOne h o why)
    rw [← State.endOne_onStations] at later
    unfold State.endChain
    cases o with
    | done => exact absurd rfl ends
    | stopped | failed | cancelled => exact later

end Sys2Proof.Machine
end

section
/-!
SUPPORT. The keys handed on: what releases and presses change of the stations and of the rest (R27, R140 to R145), and how
releases go together with stations that change apart from them (R127).
-/

namespace Sys2Proof.Machine

/-! ### Releases (R27, R30, R140, R144) -/

section
variable {s t u : State}

/-- What releases handed on leave: notices are only queued, no time passes, and of the bus a RESET time at most goes. -/
structure State.HandsBack (s t : State) : Prop where
  notes : ∃ ns, t.notes = s.notes.pushAll ns
  now : t.now = s.now
  bus : t.bus = { s.bus with stations := t.bus.stations }
  station : ∀ j : Fin 6, t.bus.stations[j] = { s.bus.stations[j] with resetAt := (t.bus.stations[j]).resetAt }

theorem State.HandsBack.refl (s : State) : s.HandsBack s := ⟨⟨[], rfl⟩, rfl, rfl, fun _ => rfl⟩

theorem State.HandsBack.trans (a : s.HandsBack t) (b : t.HandsBack u) : s.HandsBack u where
  notes := by
    obtain ⟨x, hx⟩ := a.notes
    obtain ⟨y, hy⟩ := b.notes
    exact ⟨x ++ y, by rw [hy, hx, NoticeQueue.pushAll_append]⟩
  now := b.now.trans a.now
  bus := by rw [b.bus, a.bus]
  station j := by rw [b.station, a.station]

theorem State.HandsBack.foldl {α : Type} (f : State → α → State) (hf : ∀ (s : State) (x : α), s.HandsBack (f s x))
    (xs : List α) (s : State) : s.HandsBack (xs.foldl f s) :=
  List.foldlRecOn xs f (motive := s.HandsBack) (.refl s) fun t ht x _ => ht.trans (hf t x)

theorem State.HandsBack.of_follows (f : s.Follows t) (now : t.now = s.now) : s.HandsBack t :=
  ⟨f.notes, now, by rw [f.bus], fun j => by rw [f.bus]⟩

/-- A notice queued before or among the releases is among those queued after them. -/
theorem State.HandsBack.queued {n : Notice} (h : t.HandsBack u) (q : s.queued t n) : s.queued u n := by
  obtain ⟨x, y, hxy⟩ := q
  obtain ⟨z, hz⟩ := h.notes
  exact ⟨x, y ++ z, by rw [hz, hxy, NoticeQueue.pushAll_append]⟩

end

/-- The record that the release of a direction key or of ENABLE ends (R27). -/
def State.keyRecord (s : State) (i k : Fin 6) : Option Record :=
  s.plan.records.find? fun y => y.origin == .station i && y.kind.isLift && (k == 1 || y.key == some k)

section
variable (s : State) (i : Fin 6)

theorem State.setStation_resetAt_handsBack (a : Option Nat) :
    s.HandsBack (s.setStation i { s.bus.stations[i] with resetAt := a }) := by
  obtain ⟨-, mine, others⟩ := s.setStation_spec i { s.bus.stations[i] with resetAt := a }
  refine ⟨⟨[], rfl⟩, rfl, rfl, fun j => ?_⟩
  by_cases same : j = i
  · subst same
    rw [mine]
  · rw [others j same]

/-- What the release of a key can do. -/
theorem State.handRelease_cases (r : Role) (k : Fin 6) :
    s.handRelease i r k = s ∨ s.handRelease i r k = { s with halt := s.halt.mark (.station i) false } ∨
      (∃ h, s.handRelease i r k = s.endTree h .stopped none) ∨
        s.handRelease i r k = s.setStation i { s.bus.stations[i] with resetAt := none } := by
  have hand {a : Auth} (hr : r = .pendant a ∨ r = .platform a) :
      s.handRelease i r k = s ∨ s.handRelease i r k = { s with halt := s.halt.mark (.station i) false } ∨
        ∃ h, s.handRelease i r k = s.endTree h .stopped none := by
    by_cases stop : k = 0
    · subst stop
      rcases hr with rfl | rfl <;> exact .inr (.inl rfl)
    · obtain ⟨idle, ends⟩ := State.handRelease_hand (s := s) (i := i) hr stop
      cases found : s.keyRecord i k with
      | none => exact .inl (idle found)
      | some y => exact .inr (.inr ⟨y.handle, ends y found⟩)
  have widen {a b c d : Prop} (h : a ∨ b ∨ c) : a ∨ b ∨ c ∨ d := h.imp_right (Or.imp_right .inl)
  cases r with
  | pendant a => exact widen (hand (.inl rfl))
  | platform a => exact widen (hand (.inr rfl))
  | keypad side => exact .inl rfl
  | cab =>
    by_cases stop : k = 0
    · exact .inr (.inl (if_pos stop))
    · exact .inr (.inr (.inr (if_neg stop)))

theorem State.handRelease_handsBack (r : Role) (k : Fin 6) : s.HandsBack (s.handRelease i r k) := by
  rcases s.handRelease_cases i r k with eq | eq | ⟨h, eq⟩ | eq <;> rw [eq]
  · exact .refl s
  · exact ⟨⟨[], rfl⟩, rfl, rfl, fun _ => rfl⟩
  · exact .of_follows (s.endTree_follows _ _ _) (s.endTree_now _ _ _)
  · exact s.setStation_resetAt_handsBack i none

theorem State.handReleases_handsBack (r : Role) (ks : List (Fin 6)) : s.HandsBack (s.handReleases i r ks) :=
  .foldl _ (fun t k => t.handRelease_handsBack i r k) ks s

variable {s i} in
/-- The other stations stay. -/
theorem State.handRelease_other {j : Fin 6} (other : j ≠ i) (r : Role) (k : Fin 6) :
    (s.handRelease i r k).bus.stations[j] = s.bus.stations[j] := by
  rcases s.handRelease_cases i r k with eq | eq | ⟨h, eq⟩ | eq <;> rw [eq]
  · rw [(s.endTree_follows _ _ _).bus]
  · exact (s.setStation_spec i _).2.2 j other

variable {s i} in
theorem State.handReleases_other {j : Fin 6} (other : j ≠ i) (r : Role) (ks : List (Fin 6)) :
    (s.handReleases i r ks).bus.stations[j] = s.bus.stations[j] :=
  List.foldlRecOn ks _ (motive := fun t : State => t.bus.stations[j] = s.bus.stations[j]) rfl fun _ ht k _ =>
    (State.handRelease_other other r k).trans ht

/-- A release reads no more of the stations than the RESET time it ends. -/
theorem State.handRelease_onStations (v : Vector Station 6) (r : Role) (k : Fin 6) :
    ∃ w, (s.onStations v).handRelease i r k = (s.handRelease i r k).onStations w := by
  have hand {a : Auth} (hr : r = .pendant a ∨ r = .platform a) :
      (s.onStations v).handRelease i r k = (s.handRelease i r k).onStations v := by
    by_cases stop : k = 0
    · subst stop
      rcases hr with rfl | rfl <;> rfl
    · obtain ⟨idle, ends⟩ := State.handRelease_hand (s := s) (i := i) hr stop
      obtain ⟨idle', ends'⟩ := State.handRelease_hand (s := s.onStations v) (i := i) hr stop
      cases found : s.keyRecord i k with
      | none => rw [idle found, idle' found]
      | some y =>
        rw [ends y found, ends' y found]
        exact State.endChain_onStations v _ s _ _ _ (by nofun)
  cases r with
  | pendant a => exact ⟨v, hand (.inl rfl)⟩
  | platform a => exact ⟨v, hand (.inr rfl)⟩
  | keypad side => exact ⟨v, rfl⟩
  | cab =>
    unfold State.handRelease
    by_cases stop : k = 0
    · exact ⟨v, by simp only [stop]; rfl⟩
    · exact ⟨_, by simp only [stop]; rfl⟩

theorem State.handReleases_onStations (r : Role) : ∀ (ks : List (Fin 6)) (s : State) (v : Vector Station 6),
    ∃ w, (s.onStations v).handReleases i r ks = (s.handReleases i r ks).onStations w
  | [], _, v => ⟨v, rfl⟩
  | k :: ks, s, v => by
    obtain ⟨w, hw⟩ := s.handRelease_onStations i v r k
    obtain ⟨x, hx⟩ := State.handReleases_onStations r ks (s.handRelease i r k) w
    rw [← hw] at hx
    exact ⟨x, hx⟩

end

/-! ### The releases of a whole station (R127, R135) -/

/-- The releases of the keys that a station of this bus shows counted pressed. -/
def Bus.letGo (b : Bus) (t : State) (i : Fin 6) : State :=
  match (b.stations[i]).entry with
  | some e => t.handReleases i e.role (b.stations[i]).pressedKeys
  | none => t

section
variable (b : Bus) (t : State) (i : Fin 6)

theorem Bus.letGo_handsBack : t.HandsBack (b.letGo t i) := by
  unfold Bus.letGo
  split
  · exact t.handReleases_handsBack _ _ _
  · exact .refl t

theorem Bus.letGo_polls : t.Polls (b.letGo t i) := by
  unfold Bus.letGo
  split
  · exact t.handReleases_polls _ _ _
  · exact .refl t

variable {i} in
theorem Bus.letGo_other {j : Fin 6} (other : j ≠ i) : (b.letGo t i).bus.stations[j] = t.bus.stations[j] := by
  unfold Bus.letGo
  split
  · exact State.handReleases_other other _ _
  · rfl

theorem Bus.letGo_onStations (v : Vector Station 6) : ∃ w, b.letGo (t.onStations v) i = (b.letGo t i).onStations w := by
  unfold Bus.letGo
  split
  · exact State.handReleases_onStations i _ _ t v
  · exact ⟨v, rfl⟩

variable {b} in
theorem Bus.letGo_congr {c : Bus} (same : b.stations[i] = c.stations[i]) : b.letGo t i = c.letGo t i := by
  unfold Bus.letGo
  rw [same]

end

/-! ### Presses (R140 to R145) -/

/-- Of station `i` a count of conflicts and a RESET time at most differ. -/
def State.Asked (i : Fin 6) (s t : State) : Prop :=
  ∃ n a, t.bus.stations[i] = { s.bus.stations[i] with conflicts := n, resetAt := a }

section
variable {s t u : State} {i : Fin 6}

theorem State.Asked.of_bus (same : t.bus = s.bus) : s.Asked i t := ⟨_, _, by rw [same]⟩

theorem State.Asked.trans (a : s.Asked i t) (b : t.Asked i u) : s.Asked i u := by
  obtain ⟨n, x, hx⟩ := a
  obtain ⟨m, y, hy⟩ := b
  exact ⟨m, y, by rw [hy, hx]⟩

theorem State.conflict_asked (s : State) (i : Fin 6) : s.Asked i (s.conflict i) := ⟨_, _, (s.conflict_spec i).2.1⟩

theorem State.stationMove_asked (k : Fin 6) (kind : Kind) (target : Option Int) :
    s.Asked i (s.stationMove i k kind target) := by
  unfold State.stationMove
  dsimp only
  repeat' split
  · exact .of_bus rfl
  · exact s.conflict_asked i
  · exact .of_bus s.overrideLink_follows.bus
  · exact s.conflict_asked i

theorem State.askDirections_asked (a : Auth) (ks : List (Fin 6)) : s.Asked i (s.askDirections i a ks) := by
  unfold State.askDirections State.askMove
  repeat' split
  all_goals
    first
    | exact .of_bus rfl
    | exact s.conflict_asked i
    | exact State.stationMove_asked _ _ _

theorem State.keypadMove_asked (kind : Kind) (side : Side) : s.Asked i (s.keypadMove i kind side) := by
  have ended : s.Asked i (s.endSide side .supersede) := .of_bus (s.endSide_follows _ _).bus
  unfold State.keypadMove
  dsimp only
  repeat' split
  · exact .of_bus rfl
  · exact .of_bus rfl
  · exact ended
  · exact ended.trans (State.conflict_asked _ i)

theorem State.askDoor_asked (side : Side) (ks : List (Fin 6)) : s.Asked i (s.askDoor i side ks) := by
  unfold State.askDoor
  repeat' split
  all_goals
    first
    | exact .of_bus rfl
    | exact s.conflict_asked i
    | exact State.keypadMove_asked _ _

theorem State.handPresses_asked (s : State) (i : Fin 6) (r : Role) (ks : List (Fin 6)) : s.Asked i (s.handPresses i r ks) := by
  have stop : s.Asked i (s.stopPressed i ks) := by
    unfold State.stopPressed
    split
    · exact .of_bus (s.raiseHalt_follows _).bus
    · exact .of_bus rfl
  have hand {a : Auth} (hr : r = .pendant a ∨ r = .platform a) : s.Asked i (s.handPresses i r ks) := by
    rw [State.handPresses_hand hr]
    exact stop.trans (State.askDirections_asked a ks)
  cases r with
  | pendant a => exact hand (.inl rfl)
  | platform a => exact hand (.inr rfl)
  | keypad side =>
    refine State.Asked.trans ?_ (State.askDoor_asked side ks)
    split
    · exact .of_bus (s.endSide_follows _ _).bus
    · exact .of_bus rfl
  | cab =>
    refine stop.trans ?_
    show State.Asked i _ (if (1 : Fin 6) ∈ ks then _ else _)
    split
    · exact ⟨_, _, (State.setStation_spec _ i _).2.1⟩
    · exact .of_bus rfl

/-- With no key counted pressed nothing is asked for. -/
theorem State.handPresses_nil (s : State) (i : Fin 6) (r : Role) : s.handPresses i r [] = s := by
  cases r with
  | pendant a => exact State.askDirections_none (a := a) (ks := []) rfl
  | platform a => exact State.askDirections_none (a := a) (ks := []) rfl
  | keypad side => rfl
  | cab => rfl

end

end Sys2Proof.Machine
end

section
/-!
The frames of the station bus (O52): the check character, the poll, and the judgement of a reply (R130, R131, R133).
-/

namespace Sys2Proof.Machine

theorem foldl_add_toNat (cs : List Ch) (c : Ch) :
    (cs.foldl (· + ·) c).toNat = (c.toNat + (cs.map (·.toNat)).sum) % 256 := by
  induction cs generalizing c with
  | nil => simpa using (Nat.mod_eq_of_lt c.isLt).symm
  | cons d cs ih =>
    rw [List.foldl_cons, ih, BitVec.toNat_add, List.map_cons, List.sum_cons]
    omega

theorem frameCheck_toNat (cs : List Ch) : (frameCheck cs).toNat = 255 - (cs.map (·.toNat)).sum % 256 := by
  have sum := foldl_add_toNat cs 0
  unfold frameCheck
  rw [BitVec.toNat_sub, sum]
  simp only [BitVec.ofNat_eq_ofNat, BitVec.toNat_ofNat]
  omega

/-- The check character of characters with a given sum (R131). -/
theorem frameCheck_of_sum {cs : List Ch} {n : Nat} (sum : (cs.map (·.toNat)).sum = n) {c : Ch}
    (check : c.toNat = 255 - n % 256) : frameCheck cs = c :=
  BitVec.eq_of_toNat_eq (by rw [frameCheck_toNat, sum, check])

/-- Settles O52: the sum of the frame mod 256, and the reply by its address and then its check. -/
theorem frameChecks : Obligations.FrameChecks := by
  unfold Obligations.FrameChecks
  refine ⟨frameCheck_toNat, fun cs sum => frameCheck_of_sum sum rfl, fun cs sum => frameCheck_of_sum sum rfl,
    fun s i e => ⟨_, _, rfl, rfl⟩, fun addr c1 c2 c3 c4 f => ⟨fun other => if_pos other, fun mine =>
      ⟨fun bad => ?_, fun clear check => ?_⟩⟩⟩
  · refine (if_neg (not_not_intro mine)).trans (if_pos ?_)
    rcases bad with framing | wrong
    · rw [framing, Bool.true_or]
    · rw [bne_iff_ne.mpr wrong, Bool.or_true]
  · refine (if_neg (not_not_intro mine)).trans (if_neg ?_)
    rw [clear, check]
    simp

end Sys2Proof.Machine
end

section
/-!
The judgement of a poll (O54): what a miss and a good reply make of a station and its keys (R132 to R134, R137 to R139, R145),
and how the changes are handed on (R140).
-/

namespace Sys2Proof.Machine

/-! ### The keys of a station (R137 to R139) -/

theorem showsKey_iff (r : Role) (keys : Ch) (k : Fin 6) :
    showsKey r keys k = true ↔ r.hasKey k = true ∧ keys.getLsbD k.val = true := by
  simp [showsKey]

theorem KeySt.take_pressed_iff (x : KeySt) (shown : Bool) :
    (x.take shown).pressed = true ↔ shown = true ∧ x.barred = false ∧ (x.pressed = true ∨ 1 ≤ x.run) := by
  cases shown <;> cases h : x.barred <;> simp [KeySt.take, h]

theorem KeySt.take_barred_iff (x : KeySt) (shown : Bool) :
    (x.take shown).barred = true ↔ shown = true ∧ x.barred = true := by
  cases shown <;> cases h : x.barred <;> simp [KeySt.take, h]

theorem KeySt.stick_barred_iff (x : KeySt) (k : Fin 6) (shown : Bool) :
    (x.stick k shown).barred = true ↔ shown = true ∧ (x.barred = true ∨ k ≠ 0) := by
  simp [KeySt.stick]

theorem KeySt.reply_pressed_iff (x : KeySt) (k : Fin 6) (shown stuck found : Bool) :
    (x.reply k shown stuck found).pressed = true ↔
      stuck = false ∧ shown = true ∧ (found = true → k = 0) ∧ x.barred = false ∧ (x.pressed = true ∨ 1 ≤ x.run) := by
  unfold KeySt.reply
  cases stuck with
  | true => simp [KeySt.stick]
  | false =>
    simp only [Bool.false_eq_true, if_false, KeySt.take_pressed_iff]
    cases shown <;> cases found <;> simp [and_comm, and_assoc, and_left_comm]

theorem KeySt.reply_barred_iff (x : KeySt) (k : Fin 6) (shown stuck found : Bool) :
    (x.reply k shown stuck found).barred = true ↔
      shown = true ∧ (x.barred = true ∨ (stuck = true ∨ found = true) ∧ k ≠ 0) := by
  unfold KeySt.reply
  cases stuck with
  | true =>
    simp only [if_true, KeySt.stick_barred_iff]
    cases shown <;> cases found <;> simp
  | false =>
    simp only [Bool.false_eq_true, if_false, KeySt.take_barred_iff]
    cases shown <;> cases found <;> simp

/-! ### A station after a miss or a good reply (R133, R134, R138, R145) -/

theorem Station.miss_state (x : Station) (m : MissKind) :
    (x.miss m).state = if x.state = .present ∧ 3 ≤ x.missRun then .lost else x.state := by
  have four : satSucc 4 x.missRun = 4 ↔ 3 ≤ x.missRun := by
    unfold satSucc
    omega
  simp only [Station.miss, four]

theorem Station.miss_key (x : Station) (m : MissKind) (k : Fin 6) : (x.miss m).keys[k] = (x.keys[k]).drop k := by
  simp [Station.miss]

section
variable {x : Station} (r : Role) (keys : Ch) (stuck : Bool)

/-- A good reply of a `PRESENT` station (R137, R139). -/
theorem Station.good_of_present (present : x.state = .present) :
    x.good r keys stuck false =
      { x with
        goodRun := satSucc 3 x.goodRun, missRun := 0, stuck := stuck
        keys := mapAt x.keys fun k y => y.reply k (showsKey r keys k) stuck false } := by
  simp [Station.good, present]

/-- The good reply that finds a station (R134, R137). -/
theorem Station.good_of_found (away : x.state ≠ .present) (third : 2 ≤ x.goodRun) :
    x.good r keys stuck false =
      { x with
        state := .present, goodRun := satSucc 3 x.goodRun, missRun := 0, stuck := stuck
        keys := mapAt x.keys fun k y => y.reply k (showsKey r keys k) stuck true } := by
  have three : satSucc 3 x.goodRun = 3 := Nat.min_eq_left (by omega)
  have apart : (x.state != .present) = true := bne_iff_ne.mpr away
  simp [Station.good, apart, three]

/-- A good reply whose keys are not looked at: of a station that it does not find, or in bus `FAULT` (R135, R137). -/
theorem Station.good_unheeded {fault : Bool} (h : fault = true ∨ x.state ≠ .present ∧ x.goodRun < 2) :
    x.good r keys stuck fault =
      { x with
        goodRun := if fault then 0 else satSucc 3 x.goodRun, missRun := 0, stuck := stuck
        keys := mapAt x.keys fun k y => { y with shown := showsKey r keys k } } := by
  rcases h with fault | ⟨away, early⟩
  · simp [Station.good, fault]
  · have run : satSucc 3 x.goodRun ≠ 3 := by
      unfold satSucc
      omega
    cases fault <;> simp [Station.good, away, run]

/-- A good reply takes no station out of `PRESENT` (R134). -/
theorem Station.good_state (fault : Bool) (present : x.state = .present) : (x.good r keys stuck fault).state = .present := by
  cases fault with
  | false => exact Station.good_present present r keys stuck
  | true => rw [Station.good_unheeded r keys stuck (.inl rfl), present]

end

/-! ### The changes handed on (R140) -/

theorem changedKeys_false (old new : Station) :
    changedKeys old new false = (List.finRange 6).filter fun k => (old.keys[k]).pressed && !(new.keys[k]).pressed := by
  refine List.filter_congr fun k _ => ?_
  cases (old.keys[k]).pressed <;> cases (new.keys[k]).pressed <;> rfl

theorem changedKeys_true (old new : Station) :
    changedKeys old new true = (List.finRange 6).filter fun k => (new.keys[k]).pressed && !(old.keys[k]).pressed := by
  refine List.filter_congr fun k _ => ?_
  cases (old.keys[k]).pressed <;> cases (new.keys[k]).pressed <;> rfl

/-- A miss counts no key pressed, and every one released that was (R138). -/
theorem changedKeys_miss (old : Station) (m : MissKind) :
    changedKeys old (old.miss m) false = old.pressedKeys ∧ changedKeys old (old.miss m) true = [] := by
  have released (k : Fin 6) : ((old.miss m).keys[k]).pressed = false := by rw [Station.miss_key]; rfl
  rw [changedKeys_false, changedKeys_true]
  refine ⟨List.filter_congr fun k _ => ?_, List.filter_eq_nil_iff.mpr fun k _ => ?_⟩
  · rw [released, Bool.not_false, Bool.and_true]
  · rw [released, Bool.false_and]
    nofun

/-- Station `i` replaced, with the notice of its state, before its keys are handed on (R134). -/
def State.restated (s : State) (i : Fin 6) (e : StationCfg) (new : Station) : State :=
  (s.setStation i new).noteStation i e (s.bus.stations[i]).state new.state

section
variable (s : State) (i : Fin 6) (e : StationCfg) (new : Station)

theorem State.handOn_eq :
    s.handOn i e new =
      ((s.restated i e new).handReleases i e.role (changedKeys (s.bus.stations[i]) new false)).report.handPresses i e.role
        (changedKeys (s.bus.stations[i]) new true) := rfl

theorem State.restated_same :
    s.restated i e new = { s.setStation i new with notes := (s.restated i e new).notes } := by
  unfold State.restated State.noteStation
  repeat' split
  all_goals rfl

theorem State.restated_bus : (s.restated i e new).bus = (s.setStation i new).bus := by rw [State.restated_same]

theorem State.restated_notes :
    (s.restated i e new).notes =
      if (s.bus.stations[i]).state = .present ∧ new.state = .lost then s.notes.push (.station i e.addr false)
      else if (s.bus.stations[i]).state ≠ .present ∧ new.state = .present then s.notes.push (.station i e.addr true)
      else s.notes := by
  unfold State.restated State.noteStation
  repeat' split
  all_goals rfl

end

/-! ### A miss (R132 to R134, R138, R145) -/

/-- A poll that its abort ends counts as aborted in its cycle (R132). -/
def State.tried (s : State) (m : MissKind) : State :=
  { s with bus := { s.bus with cycleAborts := s.bus.cycleAborts + if m = .conflict then 1 else 0 } }

theorem State.tried_other (s : State) {m : MissKind} (other : m ≠ .conflict) : s.tried m = s := by
  unfold State.tried
  rw [if_neg other, Nat.add_zero]

theorem judgeReply_ne_conflict {addr : Nat} {a b c d : Ch} {f : Bool} {m : MissKind} (h : judgeReply addr a b c d f = some m) :
    m ≠ .conflict := by
  unfold judgeReply at h
  repeat' split at h
  all_goals cases h <;> nofun

/-- What ends a poll as a miss of a kind (R132, R133). -/
def Misses (e : StationCfg) (c : Instr) (m : MissKind) : Prop :=
  (c = .pollAbort ∧ m = .conflict) ∨ (c = .replyWindowClose false ∧ m = .silent) ∨
    (c = .replyWindowClose true ∧ m = .incomplete) ∨
    ∃ a b d f fr, c = .replyReceived a b d f fr ∧ judgeReply e.addr a b d f fr = some m

section
variable {s : State} {i : Fin 6} {e : StationCfg} (current : s.bus.current = some i)
  (entry : (s.bus.stations[i]).entry = some e)
include current entry

theorem exec_misses {c : Instr} {m : MissKind} (h : Misses e c m) :
    exec c s = .next (((s.tried m).judgeMiss i e m).advance (i.val + 1)) := by
  rcases h with ⟨rfl, rfl⟩ | ⟨rfl, rfl⟩ | ⟨rfl, rfl⟩ | ⟨a, b, d, f, fr, rfl, judged⟩
  · exact congrArg Host.Outcome.next (State.endPoll_eq current entry _)
  · exact congrArg Host.Outcome.next (State.endPoll_eq current entry _)
  · exact congrArg Host.Outcome.next (State.endPoll_eq current entry _)
  · rw [State.tried_other s (judgeReply_ne_conflict judged)]
    refine congrArg Host.Outcome.next ((State.endPoll_eq current entry _).trans ?_)
    rw [judged]

theorem exec_replyReceived_good {a b c d : Ch} (judged : judgeReply e.addr a b c d false = none) :
    exec (.replyReceived a b c d false) s = .next ((s.judgeGood i e b c).advance (i.val + 1)) := by
  refine congrArg Host.Outcome.next ((State.endPoll_eq current entry _).trans ?_)
  rw [judged]

end

/-- A poll judged a miss: the station after it with its notice, the releases, the report, and the count. -/
theorem State.judgeMiss_eq (s : State) (i : Fin 6) (e : StationCfg) (m : MissKind) :
    s.judgeMiss i e m =
      (let y :=
        ((s.restated i e ((s.bus.stations[i]).miss m)).handReleases i e.role (s.bus.stations[i]).pressedKeys).report
      y.count [.stnMiss] (some (.station i)) e.role.missSide y.axis.lastLoad) := by
  obtain ⟨released, pressed⟩ := changedKeys_miss (s.bus.stations[i]) m
  unfold State.judgeMiss
  rw [State.handOn_eq, released, pressed, State.handPresses_nil]

theorem State.restated_miss_notes (s : State) (i : Fin 6) (e : StationCfg) (m : MissKind) :
    (s.restated i e ((s.bus.stations[i]).miss m)).notes =
      if (s.bus.stations[i]).state = .present ∧ 3 ≤ (s.bus.stations[i]).missRun then s.notes.push (.station i e.addr false)
      else s.notes := by
  rw [State.restated_notes, Station.miss_state]
  generalize s.bus.stations[i] = old
  by_cases present : old.state = .present
  · by_cases fourth : 3 ≤ old.missRun <;> simp [present, fourth]
  · simp [present]

theorem State.restated_good_notes (s : State) (i : Fin 6) (e : StationCfg) (keys : Ch) (stuck fault : Bool) :
    (s.restated i e ((s.bus.stations[i]).good e.role keys stuck fault)).notes =
      if (s.bus.stations[i]).state ≠ .present ∧ ((s.bus.stations[i]).good e.role keys stuck fault).state = .present then
        s.notes.push (.station i e.addr true)
      else s.notes := by
  rw [State.restated_notes]
  generalize s.bus.stations[i] = old
  by_cases present : old.state = .present
  · simp [present, Station.good_state e.role keys stuck fault present]
  · simp [present]

/-- A station after a miss, part by part. -/
theorem State.judgeMiss_bus (s : State) (i : Fin 6) (e : StationCfg) (m : MissKind) :
    let x := s.judgeMiss i e m
    let new := x.bus.stations[i]
    x.bus = { s.bus with stations := x.bus.stations } ∧
      new = { (s.bus.stations[i]).miss m with resetAt := new.resetAt } ∧
      (∀ j : Fin 6, j ≠ i → x.bus.stations[j] = s.bus.stations[j]) ∧
      ((s.bus.stations[i]).state = .present → 3 ≤ (s.bus.stations[i]).missRun → s.queued x (.station i e.addr false)) := by
  set t := s.restated i e ((s.bus.stations[i]).miss m) with ht
  set u := t.handReleases i e.role (s.bus.stations[i]).pressedKeys with hu
  have f : u.Follows (s.judgeMiss i e m) := by
    rw [State.judgeMiss_eq]
    exact u.report_follows.trans (State.count_follows _ _ _ _ _)
  have released : t.HandsBack u := t.handReleases_handsBack _ _ _
  obtain ⟨-, mine, others⟩ := s.setStation_spec i ((s.bus.stations[i]).miss m)
  have bus : t.bus = (s.setStation i ((s.bus.stations[i]).miss m)).bus := s.restated_bus _ _ _
  intro x new
  have same : x.bus = u.bus := f.bus
  refine ⟨?_, ?_, fun j other => ?_, fun present fourth => ?_⟩
  · rw [same, released.bus, bus]
    rfl
  · have own := released.station i
    rw [bus, mine, ← same] at own
    exact own
  · rw [same, hu, State.handReleases_other other, bus, others j other]
  · have noted : s.queued t (.station i e.addr false) := by
      refine ⟨[], [], ?_⟩
      rw [ht, State.restated_miss_notes, if_pos ⟨present, fourth⟩]
      rfl
    exact (released.queued noted).follows f

/-- A good reply, part by part: the station with its notice, the releases, the report, and the presses. -/
theorem State.judgeGood_eq (s : State) (i : Fin 6) (e : StationCfg) (keys status : Ch) :
    let old := s.bus.stations[i]
    let new := old.good e.role keys (status.getLsbD 0) s.bus.fault
    s.judgeGood i e keys status =
      State.handPresses
        (((List.finRange 6).filter fun k => (old.keys[k]).pressed && !(new.keys[k]).pressed).foldl
          (fun t k => t.handRelease i e.role k) (s.restated i e new)).report
        i e.role ((List.finRange 6).filter fun k => (new.keys[k]).pressed && !(old.keys[k]).pressed) := by
  intro old new
  rw [← changedKeys_false, ← changedKeys_true]
  rfl

theorem State.judgeGood_station (s : State) (i : Fin 6) (e : StationCfg) (keys status : Ch) :
    ∃ n a, (s.judgeGood i e keys status).bus.stations[i] =
      { (s.bus.stations[i]).good e.role keys (status.getLsbD 0) s.bus.fault with conflicts := n, resetAt := a } := by
  set new := (s.bus.stations[i]).good e.role keys (status.getLsbD 0) s.bus.fault with hnew
  set t := s.restated i e new
  have mine : t.bus.stations[i] = new := by
    rw [s.restated_bus]
    exact (s.setStation_spec i new).2.1
  set u := t.handReleases i e.role (changedKeys (s.bus.stations[i]) new false)
  have released : t.HandsBack u := t.handReleases_handsBack _ _ _
  obtain ⟨n, a, asked⟩ := u.report.handPresses_asked i e.role (changedKeys (s.bus.stations[i]) new true)
  rw [u.report_follows.bus, released.station, mine] at asked
  exact ⟨n, a, asked⟩

/-! ### The statement -/

/-- Settles O54: the miss by the parts of its judgement, a good reply by whether its keys are looked at, and the changes in
the order in which they are handed on. -/
theorem pollsAreJudged : Obligations.PollsAreJudged := by
  unfold Obligations.PollsAreJudged
  refine ⟨fun s i e c m current entry missed => ?_, fun x r keys present => ?_, fun x r keys present => ?_,
    fun x r keys stuck away => ?_, fun s i e a b c d current entry judged => ?_⟩
  · intro old
    obtain ⟨bus, mine, others, noted⟩ := (s.tried m).judgeMiss_bus i e m
    refine ⟨_, exec_misses current entry missed, ?_⟩
    intro new
    have mine : new = { old.miss m with resetAt := new.resetAt } := mine
    refine ⟨by rw [mine]; rfl, by rw [mine]; rfl, by rw [mine]; rfl, by rw [mine]; rfl, by rw [mine]; rfl,
      by rw [mine]; exact old.miss_state m, fun k => ?_, by rw [bus]; rfl, others, noted, ?_⟩
    · rw [mine]
      exact ⟨by rw [Station.miss_key]; rfl, by rw [Station.miss_key]; rfl⟩
    · refine ⟨(s.tried m).restated i e (old.miss m), ?_, ?_, (s.tried m).restated_miss_notes i e m, ?_⟩
      · rw [State.restated_same]
        rfl
      · rw [State.restated_bus, ((s.tried m).setStation_spec i _).2.1, mine]
        rfl
      · exact (s.tried m).judgeMiss_eq i e m
  · rw [Station.good_of_present r keys false present]
    refine ⟨present, rfl, rfl, rfl, fun k => ?_⟩
    simp only [Fin.getElem_fin, mapAt_getElem, KeySt.reply_pressed_iff, KeySt.reply_barred_iff, showsKey_iff]
    simp
  · rw [Station.good_of_present r keys true present]
    refine ⟨present, rfl, rfl, rfl, fun k => ?_⟩
    simp only [Fin.getElem_fin, mapAt_getElem, KeySt.reply_barred_iff, showsKey_iff]
    exact ⟨rfl, rfl, by simp⟩
  · refine ⟨?_, ?_, fun early => ?_, fun third => ?_, fun fault k => ⟨fun normal third => ?_, fun unheeded => ?_⟩⟩
    · rw [Station.good_unheeded r keys stuck (.inl rfl)]
    · rw [Station.good_unheeded r keys stuck (.inl rfl)]
      rfl
    · rw [Station.good_unheeded r keys stuck (.inr ⟨away, early⟩)]
      exact ⟨rfl, Nat.min_eq_right (by omega)⟩
    · rw [Station.good_of_found r keys stuck away third]
    · rw [normal, Station.good_of_found r keys stuck away third]
      simp only [Fin.getElem_fin, mapAt_getElem, KeySt.reply_pressed_iff, KeySt.reply_barred_iff, showsKey_iff]
      exact ⟨by simp [or_comm], by simp⟩
    · rw [Station.good_unheeded r keys stuck (unheeded.imp_right fun early => ⟨away, early⟩)]
      simp only [Fin.getElem_fin, mapAt_getElem, showsKey_iff]
      simp
  · obtain ⟨n, t, station⟩ := s.judgeGood_station i e b c
    refine ⟨_, exec_replyReceived_good current entry judged, by rw [station], by rw [station], by rw [station]; rfl, ?_⟩
    intro old new found
    obtain ⟨-, mine, others⟩ := s.setStation_spec i new
    have bus : (s.restated i e new).bus = (s.setStation i new).bus := s.restated_bus i e new
    refine ⟨s.restated i e new, ?_, by rw [bus, mine], fun j other => by rw [bus, others j other],
      s.restated_good_notes i e b _ _, s.judgeGood_eq i e b c⟩
    rw [State.restated_same]
    rfl

end Sys2Proof.Machine
end

section
/-!
The poll cycle (O53): changed entries come into force at its start (R127), its first station is polled (R129, R130), and the
cycle is judged at its end (R135, R136).
-/

namespace Sys2Proof.Machine

/-! ### Changed entries (R127) -/

section
variable (s : State) (i : Fin 6)

theorem State.applyEntry_same (same : (s.bus.stations[i]).changed = false) : s.applyEntry i = s := by
  unfold State.applyEntry
  exact if_neg (by rw [same]; nofun)

theorem State.applyEntry_changed (changed : (s.bus.stations[i]).changed = true) :
    s.applyEntry i = (s.bus.letGo s i).setStation i (Station.new s.settings.stn[i]) := by
  rw [← (s.bus.letGo_polls s i).settings]
  exact if_pos changed

variable {i} in
theorem State.applyEntry_other {j : Fin 6} (other : j ≠ i) : (s.applyEntry i).bus.stations[j] = s.bus.stations[j] := by
  cases changed : (s.bus.stations[i]).changed with
  | false => rw [State.applyEntry_same s i changed]
  | true =>
    rw [State.applyEntry_changed s i changed]
    exact ((State.setStation_spec _ i _).2.2 j other).trans (s.bus.letGo_other s other)

theorem State.applyEntry_mine :
    (s.applyEntry i).bus.stations[i] =
      if (s.bus.stations[i]).changed then Station.new s.settings.stn[i] else s.bus.stations[i] := by
  cases changed : (s.bus.stations[i]).changed with
  | false => rw [State.applyEntry_same s i changed, if_neg nofun]
  | true => rw [State.applyEntry_changed s i changed, if_pos rfl, (State.setStation_spec _ i _).2.1]

end

/-- Each station of the list takes up its changed entry, and the others stay. -/
theorem State.applyEntry_foldl_station (j : Fin 6) : ∀ (is : List (Fin 6)) (s : State),
    (is.foldl State.applyEntry s).bus.stations[j] =
      if j ∈ is ∧ (s.bus.stations[j]).changed = true then Station.new s.settings.stn[j] else s.bus.stations[j]
  | [], s => by simp
  | i :: is, s => by
    rw [List.foldl_cons, State.applyEntry_foldl_station j is, (s.applyEntry_polls i).settings]
    by_cases same : j = i
    · subst same
      rw [State.applyEntry_mine]
      generalize s.bus.stations[j] = x
      cases changed : x.changed <;> simp [changed, Station.new]
    · rw [State.applyEntry_other s same]
      simp [same]

theorem State.applyEntries_station (s : State) (j : Fin 6) :
    s.applyEntries.bus.stations[j] =
      if (s.bus.stations[j]).changed then Station.new s.settings.stn[j] else s.bus.stations[j] := by
  unfold State.applyEntries
  rw [State.applyEntry_foldl_station]
  simp

/-- Entries that come into force hand the keys of their stations on, one station after the other, and change stations: a
release reads nothing of another station's entry. -/
theorem State.applyEntry_foldl_letGo (b : Bus) : ∀ (is : List (Fin 6)) (t : State) (v : Vector Station 6), is.Nodup →
    (∀ i ∈ is, v[i] = b.stations[i]) →
    ∃ w, is.foldl State.applyEntry (t.onStations v) =
      ((is.filter fun i => (b.stations[i]).changed).foldl b.letGo t).onStations w
  | [], t, v, _, _ => ⟨v, rfl⟩
  | i :: is, t, v, nodup, same => by
    obtain ⟨fresh, nodup⟩ := List.nodup_cons.mp nodup
    have mine : v[i] = b.stations[i] := same i (List.mem_cons_self ..)
    have others (j : Fin 6) (mem : j ∈ is) : ((t.onStations v).applyEntry i).bus.stations[j] = b.stations[j] := by
      have ne : j ≠ i := fun e => fresh (e ▸ mem)
      rw [State.applyEntry_other _ ne]
      exact same j (List.mem_cons_of_mem _ mem)
    rw [List.foldl_cons]
    cases changed : (b.stations[i]).changed with
    | false =>
      rw [List.filter_cons_of_neg (by rw [changed]; nofun)]
      have idle : (t.onStations v).applyEntry i = t.onStations v := State.applyEntry_same _ i (by rw [← changed, ← mine]; rfl)
      rw [idle] at others ⊢
      exact State.applyEntry_foldl_letGo b is t v nodup others
    | true =>
      rw [List.filter_cons_of_pos (by exact changed), List.foldl_cons]
      obtain ⟨w, hw⟩ := b.letGo_onStations t i v
      have letGo : (t.onStations v).bus.letGo (t.onStations v) i = (b.letGo t i).onStations w := by
        rw [← hw]
        exact Bus.letGo_congr _ _ mine
      have taken : ∃ x, (t.onStations v).applyEntry i = (b.letGo t i).onStations x := by
        rw [State.applyEntry_changed _ i (by rw [← changed, ← mine]; rfl), letGo]
        exact ⟨_, rfl⟩
      obtain ⟨x, hx⟩ := taken
      rw [hx] at others ⊢
      exact State.applyEntry_foldl_letGo b is _ x nodup others

/-- The releases of the stations whose entries have changed, in the order of their indices (R127). -/
def State.letGoChanged (s : State) : State :=
  ((List.finRange 6).filter fun i => (s.bus.stations[i]).changed).foldl s.bus.letGo s

theorem State.applyEntries_letGo (s : State) : ∃ w, s.applyEntries = s.letGoChanged.onStations w :=
  State.applyEntry_foldl_letGo s.bus (List.finRange 6) s s.bus.stations (List.nodup_finRange 6) fun _ _ => rfl

theorem State.letGoChanged_handsBack (s : State) : s.HandsBack s.letGoChanged := .foldl _ s.bus.letGo_handsBack _ s

/-- Entries that come into force take no time, and of the bus they change the stations alone. -/
theorem State.applyEntries_rest (s : State) :
    s.applyEntries.now = s.now ∧ s.applyEntries.bus = { s.bus with stations := s.applyEntries.bus.stations } := by
  obtain ⟨w, eq⟩ := s.applyEntries_letGo
  have h := s.letGoChanged_handsBack
  rw [eq]
  refine ⟨h.now, ?_⟩
  show { s.letGoChanged.bus with stations := w } = { s.bus with stations := w }
  rw [h.bus]

/-! ### The first poll (R129, R130) -/

/-- The stations before one of them, in the order of their indices. -/
theorem finRange_before (i : Fin 6) :
    List.finRange 6 = (List.finRange 6).take i.val ++ i :: (List.finRange 6).drop (i.val + 1) ∧
      ∀ j ∈ (List.finRange 6).take i.val, j < i := by
  revert i
  decide

theorem Bus.next_first {b : Bus} {i : Fin 6} {e : StationCfg} (entry : (b.stations[i]).entry = some e)
    (before : ∀ j : Fin 6, j < i → (b.stations[j]).entry = none) : b.next 0 = some (i, e) := by
  have all : (List.finRange 6).filter (fun j => decide (0 ≤ j.val)) = List.finRange 6 := rfl
  obtain ⟨split, low⟩ := finRange_before i
  unfold Bus.next
  rw [all, List.findSome?_eq_some_iff]
  refine ⟨_, i, _, split, by rw [entry]; rfl, fun j mem => ?_⟩
  rw [before j (low j mem)]
  rfl

theorem Bus.next_none {b : Bus} (none_ : ∀ j : Fin 6, (b.stations[j]).entry = none) (n : Nat) : b.next n = none := by
  unfold Bus.next
  rw [List.findSome?_eq_none_iff]
  intro j _
  rw [none_ j]
  rfl

/-- The four lamps stand at the four lowest bits of the show character (R130). -/
theorem showBits_getLsbD (ready moving fault buzz : Bool) :
    let c := BitVec.ofNat 8
      ((if ready then 1 else 0) + (if moving then 2 else 0) + (if fault then 4 else 0) + if buzz then 8 else 0)
    c.getLsbD 0 = ready ∧ c.getLsbD 1 = moving ∧ c.getLsbD 2 = fault ∧ c.getLsbD 3 = buzz ∧ ∀ n, 4 ≤ n → c.getLsbD n = false := by
  intro c
  have bits : c.getLsbD 0 = ready ∧ c.getLsbD 1 = moving ∧ c.getLsbD 2 = fault ∧ c.getLsbD 3 = buzz ∧ c.toNat < 16 := by
    revert ready moving fault buzz
    decide
  obtain ⟨b0, b1, b2, b3, low⟩ := bits
  refine ⟨b0, b1, b2, b3, fun n high => ?_⟩
  rw [BitVec.getLsbD]
  exact Nat.testBit_lt_two_pow (Nat.lt_of_lt_of_le low (Nat.pow_le_pow_right (n := 2) (by decide) high))

theorem State.showChar_eq (s : State) (i : Fin 6) (r : Role) :
    s.showChar i r =
      BitVec.ofNat 8
        ((if s.cond .master && !s.halt.set then 1 else 0) + (if s.showsMoving i r then 2 else 0) +
          (if s.halt.set || s.beac.lamps.toList.any LampCh.faulty then 4 else 0) +
          if decide (s.beac.lamps[4].cls = .alarm) then 8 else 0) := by
  unfold State.showChar
  simp only [decide_eq_true_eq]

theorem State.showsMoving_hand (s : State) (i : Fin 6) {r : Role} {a : Auth} (hand : r = .pendant a ∨ r = .platform a) :
    s.showsMoving i r = true ↔ ∃ y ∈ s.plan.records, y.state = .running ∧ y.kind.isLift = true ∧
      (y.origin = .station i ∨ (y.origin = .link ∧ a.has y.kind = true)) := by
  have shows : s.showsMoving i r = s.showsMoving i (.pendant a) := by
    rcases hand with rfl | rfl <;> rfl
  rw [shows]
  unfold State.showsMoving
  rw [List.any_eq_true]
  refine exists_congr fun y => and_congr_right fun _ => ?_
  cases origin : y.origin <;> simp [and_left_comm, and_assoc]

/-- MOVING of a station by its role (R130). -/
theorem State.showsMoving_iff (s : State) (i : Fin 6) (r : Role) :
    s.showsMoving i r = true ↔ ∃ y ∈ s.plan.records, y.state = .running ∧
      ((∃ a, (r = .pendant a ∨ r = .platform a) ∧ y.kind.isLift = true ∧
          (y.origin = .station i ∨ (y.origin = .link ∧ a.has y.kind = true))) ∨
        ∃ side, r = .keypad side ∧ y.side = some side) := by
  cases r with
  | pendant a =>
    rw [s.showsMoving_hand i (.inl rfl)]
    simp
  | platform a =>
    rw [s.showsMoving_hand i (.inr rfl)]
    simp
  | keypad side => simp [State.showsMoving, and_comm]
  | cab => simp [State.showsMoving]

theorem lamps_anyFaulty_iff (v : Vector LampCh 5) :
    v.toList.any LampCh.faulty = true ↔ ∃ l : Lamp, (v[lampIdx l]).openF = true ∨ (v[lampIdx l]).shortF = true ∨
      (v[lampIdx l]).stuckF = true := by
  have place (n : Fin 5) : lampIdx (lampAt n) = n := by
    revert n
    decide
  rw [vector_any_iff]
  simp only [LampCh.faulty, Bool.or_eq_true, or_assoc]
  refine ⟨fun ⟨n, h⟩ => ?_, fun ⟨l, h⟩ => ⟨lampIdx l, h⟩⟩
  obtain ⟨l, rfl⟩ : ∃ l, lampIdx l = n := ⟨lampAt n, place n⟩
  exact ⟨l, h⟩

/-- The show character lamp by lamp (R130). -/
theorem State.showChar_spec (s : State) (i : Fin 6) (r : Role) :
    ((s.showChar i r).getLsbD 0 = true ↔ s.inputs.master.counted = some true ∧ s.halt.set = false) ∧
      ((s.showChar i r).getLsbD 3 = true ↔ (s.beac.lamps[4]).cls = .alarm) ∧
      ((s.showChar i r).getLsbD 2 = true ↔ s.halt.set = true ∨ s.beac.lamps.toList.any LampCh.faulty = true) ∧
      ((s.showChar i r).getLsbD 1 = true ↔ s.showsMoving i r = true) ∧
      ∀ n, 4 ≤ n → (s.showChar i r).getLsbD n = false := by
  obtain ⟨ready, moving, fault, buzz, rest⟩ := showBits_getLsbD (s.cond .master && !s.halt.set) (s.showsMoving i r)
    (s.halt.set || s.beac.lamps.toList.any LampCh.faulty) (decide (s.beac.lamps[4].cls = .alarm))
  rw [← s.showChar_eq] at ready moving fault buzz rest
  rw [ready, moving, fault, buzz]
  exact ⟨by simp [State.cond, Debounced.shows], by simp, by simp, Iff.rfl, rest⟩

/-! ### The cycle begins (R127, R129) -/

/-- The time of a cycle has come and its successor is due; its entries are not yet taken up (R129). -/
def State.cycleDue (s : State) : State :=
  { s.passTo s.bus.nextAt with
    bus := { s.bus with nextAt := nextDue s.bus.nextAt Config.pollMs (max s.now s.bus.nextAt), cycleAborts := 0 } }

theorem exec_pollCycleStart_due {s : State} (polling : s.bus.polling = true) (idle : s.bus.current = none) :
    exec .pollCycleStart s = .next (s.cycleDue.applyEntries.advance 0) := by
  have bus : (s.passTo s.bus.nextAt).bus = s.bus := (s.passTo_follows _).bus
  have starts : (s.passTo s.bus.nextAt).startCycle = s.cycleDue.applyEntries.advance 0 := by
    unfold State.startCycle State.cycleDue
    dsimp only
    rw [bus, s.passTo_now]
  rw [← starts]
  exact congrArg Host.Outcome.next (if_pos (by rw [polling, idle]; rfl))

theorem State.cycleDue_now (s : State) : s.cycleDue.now = max s.now s.bus.nextAt := s.passTo_now _

theorem State.cycleDue_settings (s : State) : s.cycleDue.settings = s.settings := (s.passTo_follows _).settings

/-- The state in which the entries of a cycle have come into force (R127). -/
def State.cycleReady (s : State) : State := s.cycleDue.applyEntries

theorem State.cycleReady_now (s : State) : s.cycleReady.now = max s.now s.bus.nextAt :=
  s.cycleDue.applyEntries_rest.1.trans s.cycleDue_now

theorem State.cycleReady_bus (s : State) :
    s.cycleReady.bus =
      { s.bus with
        nextAt := nextDue s.bus.nextAt Config.pollMs (max s.now s.bus.nextAt), cycleAborts := 0
        stations := s.cycleReady.bus.stations } := by
  unfold State.cycleReady
  conv_lhs => rw [s.cycleDue.applyEntries_rest.2]
  rfl

theorem State.cycleReady_nextAt (s : State) :
    s.cycleReady.bus.nextAt = nextDue s.bus.nextAt Config.pollMs (max s.now s.bus.nextAt) := by rw [State.cycleReady_bus]

theorem State.cycleReady_cycleAborts (s : State) : s.cycleReady.bus.cycleAborts = 0 := by rw [State.cycleReady_bus]

theorem State.cycleReady_station (s : State) (j : Fin 6) :
    s.cycleReady.bus.stations[j] =
      if (s.bus.stations[j]).changed then Station.new s.settings.stn[j] else s.bus.stations[j] := by
  rw [State.cycleReady, State.applyEntries_station, s.cycleDue_settings]
  rfl

theorem State.cycleReady_entry (s : State) (j : Fin 6) :
    (s.cycleReady.bus.stations[j]).entry =
      if (s.bus.stations[j]).changed then s.settings.stn[j] else (s.bus.stations[j]).entry := by
  rw [State.cycleReady_station]
  split <;> rfl

/-- The releases of the changed stations, and the stations (R127). -/
theorem State.cycleReady_letGo (s : State) :
    s.cycleReady = s.cycleDue.letGoChanged.onStations s.cycleReady.bus.stations := by
  obtain ⟨w, eq⟩ := s.cycleDue.applyEntries_letGo
  unfold State.cycleReady
  rw [eq]
  rfl

/-- The first poll of a cycle: the event before it has closed, and the poll has begun (R129, R130). -/
theorem State.advance_first {x : State} {i : Fin 6} {e : StationCfg} (first : x.bus.next 0 = some (i, e)) :
    x.advance 0 = x.conclude.poll i e := by
  unfold State.advance
  rw [first]

theorem State.advance_done {x : State} {n : Nat} (done : x.bus.next n = none) : x.advance n = x.judgeCycle.conclude := by
  unfold State.advance
  rw [done]

/-- The polled station shows the show character (R130). -/
theorem State.poll_lamps (s : State) (i : Fin 6) (e : StationCfg) :
    ((s.poll i e).bus.stations[i]).lamps = s.showChar i e.role :=
  congrArg Station.lamps (s.setStation_spec i { s.bus.stations[i] with lamps := s.showChar i e.role }).2.1

/-! ### The bus fault (R135) -/

theorem Station.fail_lost {x : Station} (entry : x.entry.isSome = true) :
    x.fail.state = .lost ∧ x.fail.goodRun = 0 ∧ ∀ k : Fin 6, ((x.fail).keys[k]).pressed = false ∧
      (x.state = .present →
        ((x.fail).keys[k]).barred = ((x.keys[k]).barred || (k != 0 && ((x.keys[k]).shown || (x.keys[k]).pressed)))) ∧
      (x.state ≠ .present → ((x.fail).keys[k]).barred = (x.keys[k]).barred) := by
  have failed : x.fail =
      { x with state := .lost, goodRun := 0, keys := mapAt x.keys fun k y => y.fail k (x.state == .present) } := if_pos entry
  rw [failed]
  refine ⟨rfl, rfl, fun k => ?_⟩
  by_cases present : x.state = .present
  · simp [present, KeySt.fail, KeySt.drop]
  · simp [present, KeySt.fail]

/-- The bus in `FAULT`, its stations but for RESET times that releases have ended (R135). -/
theorem State.busFault_spec (s : State) :
    s.busFault.bus =
        { s.bus with
          fault := true, faultCount := satSucc 255 s.bus.faultCount, cleanRun := 0, stations := s.busFault.bus.stations } ∧
      (∀ i : Fin 6, ∃ a, s.busFault.bus.stations[i] = { (s.bus.stations[i]).fail with resetAt := a }) ∧
      s.queued s.busFault (.busFault s.bus.runAborts) := by
  set lost : State := { s with bus := { s.bus with stations := mapAt s.bus.stations fun _ x => x.fail } } with hl
  set freed := (List.finRange 6).foldl s.bus.letGo lost with hf
  have released : lost.HandsBack freed := .foldl _ s.bus.letGo_handsBack _ lost
  have eq : s.busFault =
      { freed.notify (.busFault s.bus.runAborts) with
        bus := { freed.bus with fault := true, faultCount := satSucc 255 s.bus.faultCount, cleanRun := 0 } } := rfl
  rw [eq]
  refine ⟨?_, fun i => ⟨(freed.bus.stations[i]).resetAt, ?_⟩, ?_⟩
  · show { freed.bus with fault := true, faultCount := satSucc 255 s.bus.faultCount, cleanRun := 0 } = _
    rw [released.bus]
  · have station := released.station i
    simp only [hl, Fin.getElem_fin, mapAt_getElem] at station
    exact station
  · obtain ⟨ns, notes⟩ := released.notes
    exact ⟨ns, [], congrArg (fun q : NoticeQueue => q.push (.busFault s.bus.runAborts)) notes⟩

/-! ### The cycle judged (R135, R136) -/

section
variable {s : State}

theorem State.judgeCycle_clean (normal : s.bus.fault = false) (clean : s.bus.cycleAborts = 0) :
    s.judgeCycle = { s with bus := { s.bus with current := none, frame := [], conflictRun := 0, runAborts := 0 } } := by
  unfold State.judgeCycle
  simp [normal, clean]

theorem State.judgeCycle_conflict (normal : s.bus.fault = false) (conflict : 0 < s.bus.cycleAborts)
    (early : s.bus.conflictRun < 2) :
    s.judgeCycle =
      { s with
        bus :=
          { s.bus with
            current := none, frame := [], conflictRun := s.bus.conflictRun + 1
            runAborts := s.bus.runAborts + s.bus.cycleAborts } } := by
  have run : satSucc 3 s.bus.conflictRun = s.bus.conflictRun + 1 := Nat.min_eq_right (by omega)
  have third : ¬s.bus.conflictRun = 2 := by omega
  unfold State.judgeCycle
  simp [normal, conflict, run, third]

theorem State.judgeCycle_third (normal : s.bus.fault = false) (conflict : 0 < s.bus.cycleAborts)
    (third : 2 ≤ s.bus.conflictRun) :
    s.judgeCycle =
      State.busFault
        { s with
          bus :=
            { s.bus with
              current := none, frame := [], conflictRun := 3, runAborts := s.bus.runAborts + s.bus.cycleAborts } } := by
  have run : satSucc 3 s.bus.conflictRun = 3 := Nat.min_eq_left (by omega)
  unfold State.judgeCycle
  simp [normal, conflict, run]

theorem State.judgeCycle_fault (fault : s.bus.fault = true) (conflict : 0 < s.bus.cycleAborts) :
    s.judgeCycle = { s with bus := { s.bus with current := none, frame := [], cleanRun := 0 } } := by
  unfold State.judgeCycle
  simp [fault, conflict]

theorem State.judgeCycle_recovering (fault : s.bus.fault = true) (clean : s.bus.cycleAborts = 0) (early : s.bus.cleanRun < 9) :
    s.judgeCycle =
      { s with bus := { s.bus with current := none, frame := [], cleanRun := s.bus.cleanRun + 1 } } := by
  have run : satSucc 10 s.bus.cleanRun = s.bus.cleanRun + 1 := Nat.min_eq_right (by omega)
  have tenth : ¬s.bus.cleanRun = 9 := by omega
  unfold State.judgeCycle
  simp [fault, clean, run, tenth]

theorem State.judgeCycle_recovers (fault : s.bus.fault = true) (clean : s.bus.cycleAborts = 0) (tenth : 9 ≤ s.bus.cleanRun) :
    s.judgeCycle =
      State.busOk { s with bus := { s.bus with current := none, frame := [], cleanRun := 10 } } := by
  have run : satSucc 10 s.bus.cleanRun = 10 := Nat.min_eq_left (by omega)
  unfold State.judgeCycle
  simp [fault, clean, run]

/-- After its judgement no poll is outstanding (R129). -/
theorem State.judgeCycle_idle (s : State) : s.judgeCycle.bus.current = none ∧ s.judgeCycle.bus.frame = [] := by
  cases fault : s.bus.fault with
  | false =>
    rcases Nat.eq_zero_or_pos s.bus.cycleAborts with clean | conflict
    · rw [State.judgeCycle_clean fault clean]
      exact ⟨rfl, rfl⟩
    · rcases Nat.lt_or_ge s.bus.conflictRun 2 with early | third
      · rw [State.judgeCycle_conflict fault conflict early]
        exact ⟨rfl, rfl⟩
      · rw [State.judgeCycle_third fault conflict third, (State.busFault_spec _).1]
        exact ⟨rfl, rfl⟩
  | true =>
    rcases Nat.eq_zero_or_pos s.bus.cycleAborts with clean | conflict
    · rcases Nat.lt_or_ge s.bus.cleanRun 9 with early | tenth
      · rw [State.judgeCycle_recovering fault clean early]
        exact ⟨rfl, rfl⟩
      · rw [State.judgeCycle_recovers fault clean tenth]
        exact ⟨rfl, rfl⟩
    · rw [State.judgeCycle_fault fault conflict]
      exact ⟨rfl, rfl⟩

end

/-! ### The statement -/

/-- Settles O53: the first poll by the entries in force, the entries by the releases of their stations, and the judgement of
the cycle by the state of the bus and the runs. -/
theorem pollCyclesRun : Obligations.PollCyclesRun := by
  unfold Obligations.PollCyclesRun
  refine ⟨⟨fun s i e polling idle => ?_, fun s polling idle => ?_, fun s off => ?_⟩, fun s =>
    ⟨fun normal clean => by rw [State.judgeCycle_clean normal clean],
      fun normal conflict early => by rw [State.judgeCycle_conflict normal conflict early],
      fun normal conflict third => ?_, fun fault conflict => ?_, fun fault clean early => ?_, fun fault clean tenth => ?_⟩⟩
  · intro entry mine before
    have entries := s.cycleReady_entry
    have ready := s.cycleReady_now
    have nextAt := s.cycleReady_nextAt
    have aborts := s.cycleReady_cycleAborts
    have starts := exec_pollCycleStart_due polling idle
    rw [← State.cycleReady] at starts
    generalize s.cycleReady = x at *
    have first : x.bus.next 0 = some (i, e) :=
      Bus.next_first ((entries i).trans mine) fun j low => (entries j).trans (before j low)
    rw [State.advance_first first] at starts
    obtain ⟨later, soon, grid⟩ := nextDue_grid (period := Config.pollMs) (by decide) (Nat.le_max_right s.now s.bus.nextAt)
    rw [← nextAt, ← x.conclude_follows.bus] at later soon grid
    rw [← ready, ← x.conclude_now] at later soon
    rw [← x.conclude_follows.bus] at aborts
    rw [← x.conclude_now] at ready
    generalize x.conclude = y at *
    have past : s.bus.nextAt < y.bus.nextAt := Nat.lt_of_le_of_lt (ready ▸ Nat.le_max_right ..) later
    obtain ⟨showReady, showBuzz, showFault, showMoving, unused⟩ := y.showChar_spec i e.role
    rw [lamps_anyFaulty_iff] at showFault
    rw [State.showsMoving_iff] at showMoving
    exact ⟨y.poll i e, starts, rfl, ready, aborts, past, later, soon, grid, y.showChar i e.role, rfl,
      by rw [y.poll_lamps i e], showReady, showBuzz, showFault, showMoving, unused⟩
  · refine ⟨s.cycleReady, exec_pollCycleStart_due polling idle, s.cycleReady_now, s.cycleReady_cycleAborts, s.cycleReady_station,
      ?_, fun empty => ?_⟩
    · intro start release handed
      have begun : start = s.cycleDue := by
        simp only [start, s.cycleReady_nextAt]
        rfl
      have letGo : release = s.cycleDue.bus.letGo := rfl
      have same : handed = s.cycleDue.letGoChanged := by
        show List.foldl release start _ = _
        rw [letGo, begun]
        rfl
      rw [same]
      exact s.cycleReady_letGo
    · have done : s.cycleReady.advance 0 = s.cycleReady.judgeCycle.conclude := State.advance_done (Bus.next_none empty 0)
      rw [done, (State.conclude_follows _).bus]
      exact ⟨rfl, State.judgeCycle_idle _⟩
  · refine congrArg Host.Outcome.next (if_neg ?_)
    rcases off with off | busy
    · simp [off]
    · simp [Option.isSome_iff_ne_none.mp busy]
  · obtain ⟨bus, stations, noted⟩ := State.busFault_spec
      { s with
        bus :=
          { s.bus with
            current := none, frame := [], conflictRun := 3, runAborts := s.bus.runAborts + s.bus.cycleAborts } }
    rw [State.judgeCycle_third normal conflict third]
    refine ⟨by rw [bus], by rw [bus], by rw [bus]; rfl, noted, fun i entry => ?_⟩
    obtain ⟨a, station⟩ := stations i
    obtain ⟨lost, run, keys⟩ := Station.fail_lost entry
    rw [station]
    exact ⟨lost, run, keys⟩
  · rw [State.judgeCycle_fault fault conflict]
    exact ⟨fault, rfl⟩
  · rw [State.judgeCycle_recovering fault clean early]
    exact ⟨fault, rfl⟩
  · rw [State.judgeCycle_recovers fault clean tenth]
    exact ⟨rfl, rfl, rfl⟩

end Sys2Proof.Machine
end

section
/-!
Lamp faults (O57), in the terms of R155 to R157: what a changed channel, a check and a read-back leave in the beacon controller.
-/

namespace Sys2Proof.Machine

/-! ### A beacon channel changed -/

theorem lampAt_lampIdx (l : Lamp) : lampAt (lampIdx l) = l := by cases l <;> rfl

theorem lampIdx_injective {k l : Lamp} (h : lampIdx k = lampIdx l) : k = l := by
  rw [← lampAt_lampIdx k, h, lampAt_lampIdx]

theorem State.updLamp_lamp (s : State) (l : Lamp) (f : LampCh → LampCh) (k : Lamp) :
    (s.updLamp l f).beac.lamps[lampIdx k] = if k = l then f s.beac.lamps[lampIdx k] else s.beac.lamps[lampIdx k] := by
  have place : lampIdx k = lampIdx l ↔ k = l := ⟨lampIdx_injective, congrArg lampIdx⟩
  simp only [State.updLamp, Fin.getElem_fin, modAt_getElem, Fin.eta, place]

/-- A fault latched already stays as it is, with no further notice (R157). -/
theorem State.latchFault_known {s : State} {l : Lamp} {f : LampFault} (known : (s.beac.lamps[lampIdx l]).has f = true) :
    s.latchFault l f = s := if_pos known

/-- A fault not latched before is latched, with its notice (R157). -/
theorem State.latchFault_new {s : State} {l : Lamp} {f : LampFault} (new : (s.beac.lamps[lampIdx l]).has f = false) :
    s.latchFault l f = (s.updLamp l fun c => c.latch f s.now).notify (.lamp l f) := if_neg (Bool.eq_false_iff.mp new)

@[simp] theorem State.latchFault_now (s : State) (l : Lamp) (f : LampFault) : (s.latchFault l f).now = s.now := by
  cases h : (s.beac.lamps[lampIdx l]).has f with
  | true => rw [State.latchFault_known h]
  | false => rw [State.latchFault_new h, State.notify_now, State.updLamp_now]

/-- A latched fault reaches its own channel alone. -/
theorem State.latchFault_lamp (s : State) (l : Lamp) (f : LampFault) (k : Lamp) :
    (s.latchFault l f).beac.lamps[lampIdx k] =
      if k = l ∧ (s.beac.lamps[lampIdx l]).has f = false then (s.beac.lamps[lampIdx k]).latch f s.now
      else s.beac.lamps[lampIdx k] := by
  cases h : (s.beac.lamps[lampIdx l]).has f with
  | true => simp [State.latchFault_known h]
  | false =>
    rw [State.latchFault_new h, State.notify_beac, State.updLamp_lamp]
    simp

theorem State.latchFault_queued {s : State} {l : Lamp} {f : LampFault} (new : (s.beac.lamps[lampIdx l]).has f = false) :
    s.queued (s.latchFault l f) (.lamp l f) := by
  rw [State.latchFault_new new]
  exact ⟨[], [], rfl⟩

/-! ### A commanded level (R148, R155 to R157) -/

section
variable (c : LampCh) (now : Nat)

theorem LampCh.drive_on (off : c.level = false) :
    c.drive true now = { c with level := true, checkAt := some (now + 50), compareFrom := now + 50 } := by
  simp [LampCh.drive, off, Config.lampCheckMs]

theorem LampCh.drive_off (on : c.level = true) :
    c.drive false now = { c with level := false, checkAt := none, compareFrom := max c.compareFrom now } := by
  simp [LampCh.drive, on]

/-- Whatever the level commanded, the channel's set of faults, its forcing, its demand and its read-back stay. -/
theorem LampCh.drive_same (on : Bool) :
    c.drive on now =
      { c with level := on, checkAt := (c.drive on now).checkAt, compareFrom := (c.drive on now).compareFrom } := by
  by_cases same : c.level = on
  · subst same
    rw [(c.drive_level _ now).2 rfl]
  · cases on <;> simp [LampCh.drive, same]

/-- A short forces the channel off, and starts no check (R157). -/
theorem LampCh.latch_short :
    (c.latch .short now).shortF = true ∧ (c.latch .short now).forced = true ∧ (c.latch .short now).level = false ∧
      (c.latch .short now).openF = c.openF ∧ (c.latch .short now).stuckF = c.stuckF ∧
      (c.checkAt = none → (c.latch .short now).checkAt = none) := by
  unfold LampCh.latch
  dsimp only
  refine ⟨?_, ?_, (LampCh.drive_level _ _ _).1, ?_, ?_, fun idle => ?_⟩
  case refine_5 => cases c.level <;> simp [LampCh.drive, idle]
  all_goals rw [LampCh.drive_same]

end

/-! ### A check (R155) -/

/-- The channel that a check of this diagnostic leaves. -/
def LampCh.checked (c : LampCh) (d : Diag) (now : Nat) : LampCh :=
  match diagFault d with
  | none => { c with checkAt := none }
  | some f => if c.has f then { c with checkAt := none } else { c with checkAt := none }.latch f now

theorem State.check_lamp (s : State) (l : Lamp) (d : Diag) (k : Lamp) :
    (s.check l d).beac.lamps[lampIdx k] =
      if k = l then (s.beac.lamps[lampIdx k]).checked d s.now else s.beac.lamps[lampIdx k] := by
  have has (c : LampCh) (f : LampFault) : { c with checkAt := none }.has f = c.has f := by cases f <;> rfl
  unfold State.check LampCh.checked
  cases diagFault d with
  | none => exact s.updLamp_lamp l _ k
  | some f =>
    dsimp only
    rw [State.latchFault_lamp, State.updLamp_lamp, State.updLamp_lamp, if_pos rfl, has]
    by_cases same : k = l
    · subst same
      cases h : (s.beac.lamps[lampIdx k]).has f <;> simp
    · simp [same]

theorem State.check_now (s : State) (l : Lamp) (d : Diag) : (s.check l d).now = s.now := by
  unfold State.check
  cases diagFault d <;> simp

/-- What a check leaves of a channel: the fault shown joins its set, and a new short forces it off (R155, R157). -/
theorem LampCh.checked_spec (c : LampCh) (d : Diag) (now : Nat) :
    (c.checked d now).checkAt = none ∧ (c.checked d now).openF = (c.openF || decide (d = .openLoad)) ∧
      (c.checked d now).shortF = (c.shortF || decide (d = .short)) ∧ (c.checked d now).stuckF = c.stuckF ∧
      (d = .short → c.shortF = false → (c.checked d now).forced = true ∧ (c.checked d now).level = false) := by
  cases d with
  | normal => simp [LampCh.checked, diagFault]
  | openLoad => cases h : c.openF <;> simp [LampCh.checked, diagFault, LampCh.has, LampCh.latch, h]
  | short =>
    obtain ⟨shortF, forced, level, openF, stuckF, idle⟩ := { c with checkAt := none }.latch_short now
    cases h : c.shortF with
    | true => simp [LampCh.checked, diagFault, LampCh.has, h]
    | false =>
      have new : c.checked .short now = { c with checkAt := none }.latch .short now :=
        if_neg (show ¬c.shortF = true by simp [h])
      rw [new]
      exact ⟨idle rfl, by simp [openF], by simp [shortF], stuckF, fun _ _ => ⟨forced, level⟩⟩

/-- A fault that a check shows for the first time has its notice (R157). -/
theorem State.check_queued {s : State} {l : Lamp} {d : Diag} {f : LampFault} (shows : diagFault d = some f)
    (new : (s.beac.lamps[lampIdx l]).has f = false) : s.queued (s.check l d) (.lamp l f) := by
  have has : ((s.updLamp l fun c => { c with checkAt := none }).beac.lamps[lampIdx l]).has f = false := by
    rw [State.updLamp_lamp, if_pos rfl, ← new]
    cases f <;> rfl
  unfold State.check
  rw [shows]
  exact (State.latchFault_queued has).since (s.updLamp_follows l _)

/-! ### The statement -/

/-- Settles O57: a check and a mismatch are a fault latched after time has passed, and a read-back changes its channel alone. -/
theorem lampFaultsLatch : Obligations.LampFaultsLatch := by
  intro s l old
  have lamps (t : Nat) : (s.passTo t).beac = s.beac := (s.passTo_counts t).beac
  refine ⟨fun t0 d due => ?_, fun d idle => ?_, fun differs => ?_, fun agrees => ?_, fun level => ?_, fun now =>
    ⟨old.drive_on now, old.drive_off now, (LampCh.drive_level _ _ _).2 rfl⟩⟩
  · have row : exec (.lampCheck l d) s = .next ((s.passTo t0).check l d).conclude := by
      show execLampCheck l d s = _
      rw [execLampCheck, show (s.beac.lamps[lampIdx l]).checkAt = some t0 from due]
    have lamp (k : Lamp) := (s.passTo t0).check_lamp l d k
    rw [lamps] at lamp
    obtain ⟨checkAt, openF, shortF, stuckF, forced⟩ := old.checked_spec d (s.passTo t0).now
    refine ⟨_, row, (State.check_now _ _ _).trans (s.passTo_now t0), ?_⟩
    dsimp only
    rw [lamp l, if_pos rfl]
    refine ⟨checkAt, openF, shortF, stuckF, forced, fun f shows => ?_, fun k other => by rw [lamp k, if_neg other]⟩
    refine State.queued.since (s.passTo_follows t0) ?_
    rcases shows with ⟨rfl, rfl, new⟩ | ⟨rfl, rfl, new⟩
    · exact State.check_queued rfl (by rw [lamps]; exact new)
    · exact State.check_queued rfl (by rw [lamps]; exact new)
  · show execLampCheck l d s = _
    rw [execLampCheck, show (s.beac.lamps[lampIdx l]).checkAt = none from idle]
  · have row : exec (.readbackMismatch l) s = .next ((s.passTo (old.compareFrom + 20)).latchFault l .stuck).conclude :=
      congrArg Host.Outcome.next (if_neg differs)
    have lamp (k : Lamp) := (s.passTo (old.compareFrom + 20)).latchFault_lamp l .stuck k
    rw [lamps] at lamp
    refine ⟨_, row, (State.latchFault_now _ _ _).trans (s.passTo_now _), ?_, fun new => ?_, fun known => ?_, fun k other => ?_⟩
    · rw [lamp l]
      cases known : old.stuckF with
      | true => rw [if_neg fun h => Bool.false_ne_true (h.2.symm.trans known), ← known]
      | false => rw [if_pos ⟨rfl, known⟩]; rfl
    · exact (State.latchFault_queued (by rw [lamps]; exact new)).since (s.passTo_follows _)
    · rw [State.latchFault_known (by rw [lamps]; exact known)]
      exact s.passTo_follows _
    · rw [lamp k, if_neg fun h => other h.1]
  · exact congrArg Host.Outcome.next (if_pos agrees)
  · refine ⟨_, rfl, rfl, ?_, fun k other => (s.updLamp_lamp l _ k).trans (if_neg other)⟩
    refine ((s.updLamp_lamp l _ l).trans (if_pos rfl)).trans ?_
    show old.sampleBack level s.now = _
    unfold LampCh.sampleBack
    by_cases same : old.readBack = level
    · rw [if_pos same, if_pos same, ← same]
    · rw [if_neg same, if_neg same]

end Sys2Proof.Machine
end

section
/-!
SUPPORT. The close of an event resolves the channels as the event left them: its report and its looks change the trails alone
of the beacon controller (R149 to R151, R154), in terms of `State.SameLights`.
-/

namespace Sys2Proof.Machine

/-- From `s` to `t` the beacon controller differs in its trails alone. -/
def State.SameLights (s t : State) : Prop :=
  t.beac = { s.beac with rearTrail := t.beac.rearTrail, nearTrail := t.beac.nearTrail, offTrail := t.beac.offTrail }

section
variable {s t u : State}

theorem State.SameLights.refl (s : State) : s.SameLights s := rfl

theorem State.SameLights.trans (a : s.SameLights t) (b : t.SameLights u) : s.SameLights u := by
  unfold State.SameLights at *
  rw [b, a]

theorem State.SameLights.foldl {α : Type} (f : State → α → State) (hf : ∀ (s : State) (x : α), s.SameLights (f s x))
    (xs : List α) (s : State) : s.SameLights (xs.foldl f s) :=
  List.foldlRecOn xs f (motive := s.SameLights) (.refl s) fun t ht x _ => ht.trans (hf t x)

theorem State.Counts.sameLights (c : s.Counts t) : s.SameLights t := by
  unfold State.SameLights
  rw [c.beac]

theorem State.SameLights.lamps (h : s.SameLights t) : t.beac.lamps = s.beac.lamps := by rw [h]
theorem State.SameLights.slot (h : s.SameLights t) : t.beac.slot = s.beac.slot := by rw [h]

end

/-! ### Runs and doors -/

theorem State.leaveRun_sameLights (s : State) : s.SameLights s.leaveRun := by
  rw [s.leaveRun_same]
  rfl

theorem State.enterRunning_sameLights (s : State) (h : Handle) : s.SameLights (s.enterRunning h) := by
  unfold State.enterRunning
  split
  · dsimp only
    split
    · refine State.SameLights.trans ?_ (State.count_counts _ _ _ _ _).sameLights
      exact rfl
    · exact rfl
  · exact .refl s

theorem State.hold_sameLights (s : State) (h : Handle) (c : Cond) : s.SameLights (s.hold h c) := by
  cases f : s.find h with
  | none =>
    simp only [State.hold, f]
    exact .refl s
  | some r =>
    have paused : s.SameLights (s.paused r) := by
      unfold State.paused
      split
      · exact s.leaveRun_sameLights
      · exact .refl s
    rw [State.hold_eq f]
    exact paused.trans (State.SameLights.trans rfl (State.count_counts _ _ _ _ _).sameLights)

theorem State.proceed_sameLights (s : State) (r : Record) : s.SameLights (s.proceed r) := by
  unfold State.proceed
  split
  · exact s.hold_sameLights _ _
  · split
    · exact rfl
    · exact s.enterRunning_sameLights _

theorem State.enterPhase_sameLights (s : State) (side : Side) (p : Phase) : s.SameLights (s.enterPhase side p) := by
  cases side <;> exact rfl

/-! ### Endings -/

theorem State.listed_beac (s : State) (r : Record) (o : RecOutcome) (why : Option EndReason) :
    (s.listed r o why).beac = s.beac := by
  unfold State.listed
  rw [s.stopOutputs_same]
  rfl

theorem State.release_sameLights (s : State) (r : Record) (moved : Bool) : s.SameLights (s.release r moved) := by
  unfold State.release
  split
  · next side _ =>
    split
    · cases moved <;> cases side <;> exact rfl
    · exact .refl s
  · split
    · cases moved <;> exact rfl
    · exact .refl s

theorem State.endOne_sameLights (s : State) (h : Handle) (o : RecOutcome) (why : Option EndReason) :
    s.SameLights (s.endOne h o why) := by
  cases f : s.find h with
  | none =>
    rw [State.endOne_absent f]
    exact .refl s
  | some r =>
    have listed : s.SameLights (s.listed r o why) := by
      unfold State.SameLights
      rw [State.listed_beac]
    rw [State.endOne_eq f]
    exact (listed.trans (State.release_sameLights _ _ _)).trans (State.count_counts _ _ _ _ _).sameLights

theorem State.endChain_sameLights : ∀ (fuel : Nat) (s : State) (h : Handle) (o : RecOutcome) (why : Option EndReason),
    s.SameLights (s.endChain fuel h o why)
  | 0, s, _, _, _ => .refl s
  | fuel + 1, s, h, o, why => by
    unfold State.endChain
    refine (s.endOne_sameLights h o why).trans ?_
    cases o with
    | done => exact State.SameLights.foldl State.freePred (fun _ _ => rfl) _ _
    | stopped | failed | cancelled =>
      exact State.SameLights.foldl _ (fun t k => State.endChain_sameLights fuel t k _ _) _ _

theorem State.endTree_sameLights (s : State) (h : Handle) (o : RecOutcome) (why : Option EndReason) :
    s.SameLights (s.endTree h o why) := State.endChain_sameLights _ s h o why

theorem State.endEach_sameLights (s : State) (hs : List Handle) (o : RecOutcome) (why : Option EndReason) :
    s.SameLights (s.endEach hs o why) := State.SameLights.foldl _ (fun t h => t.endOne_sameLights h o why) hs s

/-! ### Grants and looks -/

theorem State.setWaits_sameLights (s : State) (rs : List Record) (w : WaitReason) : s.SameLights (s.setWaits rs w) :=
  State.SameLights.foldl (fun t (r : Record) => t.setWait r.handle w) (fun _ _ => rfl) rs s

theorem State.afterGrant_sameLights (s : State) (h : Handle) (pump : Bool) : s.SameLights (s.afterGrant h pump) := by
  unfold State.afterGrant
  split
  · split
    · exact rfl
    · exact s.enterRunning_sameLights _
  · exact rfl

theorem State.grantPack_sameLights (s : State) (r : Record) : s.SameLights (s.grantPack r) := by
  unfold State.grantPack
  dsimp only
  split
  · exact State.SameLights.trans rfl (State.endTree_sameLights _ _ _ _)
  · exact State.SameLights.trans rfl (State.afterGrant_sameLights _ _ _)

theorem State.lookPack_sameLights (s : State) : s.SameLights s.lookPack := by
  unfold State.lookPack
  split
  · exact .refl s
  · next r rest _ =>
    refine (s.setWaits_sameLights rest .pack).trans ?_
    dsimp only
    repeat' split
    case isFalse.isFalse.isFalse => exact State.grantPack_sameLights _ _
    all_goals exact rfl

theorem State.grantDoor_sameLights (s : State) (side : Side) (r : Record) : s.SameLights (s.grantDoor side r) := by
  unfold State.grantDoor
  dsimp only
  split
  · exact State.SameLights.trans rfl (State.enterPhase_sameLights _ _ _)
  · exact State.SameLights.trans rfl (State.endTree_sameLights _ _ _ _)

theorem State.lookDoor_sameLights (s : State) (side : Side) : s.SameLights (s.lookDoor side) := by
  unfold State.lookDoor
  split
  · exact .refl s
  · next r rest _ =>
    refine (s.setWaits_sameLights rest .channel).trans ?_
    dsimp only
    repeat' split
    case isFalse.isFalse => exact State.grantDoor_sameLights _ _ _
    all_goals exact rfl

theorem State.looks_sameLights : ∀ (fuel : Nat) (s : State), s.SameLights (s.looks fuel)
  | 0, s => .refl s
  | fuel + 1, s => by
    have once : s.SameLights s.lookOnce :=
      (s.lookPack_sameLights.trans (State.lookDoor_sameLights _ _)).trans (State.lookDoor_sameLights _ _)
    unfold State.looks
    dsimp only
    split
    · exact once.trans (State.looks_sameLights fuel _)
    · exact once

/-! ### The report and the drive-away test -/

theorem State.judge_sameLights (s : State) (h : Handle) : s.SameLights (s.judge h) := by
  unfold State.judge
  cases s.find h with
  | none => exact .refl s
  | some r =>
    dsimp only
    cases r.state <;> dsimp only <;> repeat' split
    all_goals
      first
      | exact .refl s
      | exact s.endTree_sameLights _ _ _
      | exact s.hold_sameLights _ _
      | exact s.proceed_sameLights _
      | exact s.enterRunning_sameLights _

theorem State.report_sameLights (s : State) : s.SameLights s.report := State.SameLights.foldl _ State.judge_sameLights _ _

theorem State.driveAway_sameLights (s : State) : s.SameLights s.driveAway := by
  unfold State.driveAway
  dsimp only
  split <;> exact rfl

/-! ### A channel resolved (R148, R154, R157) -/

/-- A channel with its class and pattern, before its level is set (R154). -/
def State.classed (s : State) (l : Lamp) (c : LampCh) : LampCh :=
  { c with cls := s.demand l c.host, pattern := patternOf l c.host (s.demand l c.host) }

theorem State.resolve_eq (s : State) (l : Lamp) (c : LampCh) :
    s.resolve l c = (s.classed l c).drive ((s.classed l c).pattern.on s.beac.slot && !c.forced) s.now := rfl

/-- What resolving leaves of a channel: its class and pattern, and the level of the pattern in the present slot unless it is
forced off (R148, R154, R157). -/
theorem State.resolve_spec (s : State) (l : Lamp) (c : LampCh) :
    (s.resolve l c).host = c.host ∧ (s.resolve l c).cls = s.demand l c.host ∧
      (s.resolve l c).pattern = patternOf l c.host (s.demand l c.host) ∧ (s.resolve l c).forced = c.forced ∧
      (s.resolve l c).level = ((s.resolve l c).pattern.on s.beac.slot && !c.forced) := by
  rw [State.resolve_eq, LampCh.drive_same]
  exact ⟨rfl, rfl, rfl, rfl, rfl⟩

/-- A switch-on starts a check (R155). -/
theorem State.resolve_check {s : State} {l : Lamp} {c : LampCh} (off : c.level = false) (on : (s.resolve l c).level = true) :
    (s.resolve l c).checkAt = some (s.now + 50) := by
  rw [State.resolve_eq] at on ⊢
  rw [(LampCh.drive_level _ _ _).1] at on
  rw [on, (s.classed l c).drive_on s.now off]

theorem State.resolveAll_lamp (s : State) (l : Lamp) :
    s.resolveAll.beac.lamps[lampIdx l] = s.resolve l s.beac.lamps[lampIdx l] := by
  have place : lampAt ⟨(lampIdx l).val, (lampIdx l).isLt⟩ = l := lampAt_lampIdx l
  simp only [State.resolveAll, Fin.getElem_fin, mapAt_getElem, place]

/-- The close of an event resolves each channel as the event left it, in the present slot and at the present time. -/
theorem State.conclude_lamp (x : State) (l : Lamp) :
    ∃ y : State, y.now = x.now ∧ y.beac.slot = x.beac.slot ∧
      x.conclude.beac.lamps[lampIdx l] = y.resolve l x.beac.lamps[lampIdx l] := by
  have same : x.SameLights x.report.look.driveAway :=
    (x.report_sameLights.trans (State.looks_sameLights _ _)).trans (State.driveAway_sameLights _)
  have now : x.report.look.driveAway.now = x.now := by
    rw [← x.conclude_now, State.conclude, State.queueServices_now, State.resolveAll_now]
  refine ⟨x.report.look.driveAway, now, same.slot, ?_⟩
  unfold State.conclude
  rw [(State.queueServices_counts _).beac, State.resolveAll_lamp, same.lamps]

end Sys2Proof.Machine
end

section
/-!
The request `BEAC` (O30), in the terms of R155, R159 and R160: its forms, the channels it names, and what it leaves of them.
-/

namespace Sys2Proof.Machine

/-! ### The forms of `BEAC` (R159, R160) -/

theorem Pattern.words_nodup : (Pattern.all.map Pattern.word).Nodup := by decide

theorem Pattern.mem_all (p : Pattern) : p ∈ Pattern.all := by cases p <;> decide

theorem lampWords_nodup : (allLamps.map lampWord).Nodup := by decide

theorem mem_allLamps (l : Lamp) : l ∈ allLamps := by cases l <;> decide

theorem Pattern.word_ne_clear (p : Pattern) : p.word ≠ "CLEAR" := by cases p <;> decide

theorem readLamps_word {w : String} {ls : List Lamp}
    (h : (w = "ALL" ∧ ls = [.b0, .b1, .b2, .b3, .snd]) ∨ ∃ l, w = lampWord l ∧ ls = [l]) : readLamps (.word w) = some ls := by
  rcases h with ⟨rfl, rfl⟩ | ⟨l, rfl, rfl⟩
  · rfl
  · have single : lampWord l ≠ "ALL" := by cases l <;> decide
    have read : reading allLamps lampWord (lampWord l) = some l :=
      (reading_some_iff lampWords_nodup).mpr ⟨mem_allLamps l, rfl⟩
    simp [readLamps, single, read]

/-- A field that names channels is `ALL` or the word of one. -/
theorem readLamps_some {x : Field} {ls : List Lamp} (h : readLamps x = some ls) :
    ∃ w, x = .word w ∧ (w = "ALL" ∨ ∃ l, w = lampWord l) := by
  cases x with
  | num _ | wnum _ _ | bad _ => cases h
  | word w =>
    refine ⟨w, rfl, ?_⟩
    by_cases all : w = "ALL"
    · exact .inl all
    · obtain ⟨l, read, -⟩ := Option.map_eq_some_iff.mp ((if_neg all).symm.trans h)
      exact .inr ⟨l, ((reading_some_iff lampWords_nodup).mp read).2.symm⟩

section
variable {w : String} {ls : List Lamp} (names : readLamps (.word w) = some ls)
include names

theorem readBeac_pattern (p : Pattern) : readBeac [.word w, .word p.word] = some (ls, some p) := by
  have read : reading Pattern.all Pattern.word p.word = some p :=
    (reading_some_iff Pattern.words_nodup).mpr ⟨p.mem_all, rfl⟩
  simp [readBeac, names, p.word_ne_clear, read]

theorem readBeac_clear : readBeac [.word w, .word "CLEAR"] = some (ls, none) := by
  simp [readBeac, names]

end

/-- The forms that are read are those of R159 and R160. -/
theorem readBeac_some {fs : List Field} {y : List Lamp × Option Pattern} (h : readBeac fs = some y) :
    ∃ x w, fs = [x, .word w] ∧ (∃ v, x = .word v ∧ (v = "ALL" ∨ ∃ l, v = lampWord l)) ∧
      (w = "CLEAR" ∨ ∃ p : Pattern, w = p.word) := by
  unfold readBeac at h
  split at h
  · next x w =>
    split at h
    · next ls named =>
      refine ⟨x, w, rfl, readLamps_some named, ?_⟩
      by_cases clear : w = "CLEAR"
      · exact .inl clear
      · obtain ⟨p, read, -⟩ := Option.map_eq_some_iff.mp ((if_neg clear).symm.trans h)
        exact .inr ⟨p, ((reading_some_iff Pattern.words_nodup).mp read).2.symm⟩
    · cases h
  · cases h

theorem State.reqBeac_syntax {fs : List Field} (unread : readBeac fs = none) (s : State) (t : Tag) :
    s.reqBeac t fs = s.answer t .beac "SYNTAX" [] := by
  simp only [State.reqBeac, unread]

/-! ### The channels named changed -/

/-- One change made to the channels named. -/
def State.updLamps (s : State) (ls : List Lamp) (f : LampCh → LampCh) : State := ls.foldl (fun t l => t.updLamp l f) s

theorem State.setHost_eq (s : State) (ls : List Lamp) (p : Pattern) :
    s.setHost ls p = s.updLamps ls fun c => { c with host := p } := rfl

theorem State.clearFaults_eq (s : State) (ls : List Lamp) : s.clearFaults ls = s.updLamps ls fun c => c.clear s.now := rfl

theorem State.updLamps_rest (f : LampCh → LampCh) : ∀ (ls : List Lamp) (s : State),
    s.updLamps ls f = { s with beac := { s.beac with lamps := (s.updLamps ls f).beac.lamps } }
  | [], _ => rfl
  | l :: ls, s => State.updLamps_rest f ls (s.updLamp l f)

theorem State.updLamps_lamp (f : LampCh → LampCh) (k : Lamp) : ∀ (ls : List Lamp) (s : State), ls.Nodup →
    (s.updLamps ls f).beac.lamps[lampIdx k] = if k ∈ ls then f s.beac.lamps[lampIdx k] else s.beac.lamps[lampIdx k]
  | [], _, _ => rfl
  | l :: ls, s, nd => by
    obtain ⟨once, nd⟩ := List.nodup_cons.mp nd
    show ((s.updLamp l f).updLamps ls f).beac.lamps[lampIdx k] = _
    rw [State.updLamps_lamp f k ls _ nd, State.updLamp_lamp]
    by_cases same : k = l
    · subst same
      simp [once]
    · simp [same]

/-- What the close of an event leaves of a channel that is not forced off: the level of its pattern in the present slot, and
a check where that is a switch-on (R148, R155, R157). -/
theorem State.conclude_unforced {s x : State} {l : Lamp} (now : x.now = s.now) (slot : x.beac.slot = s.beac.slot)
    (unforced : (x.beac.lamps[lampIdx l]).forced = false) :
    (x.conclude.beac.lamps[lampIdx l]).level = (x.conclude.beac.lamps[lampIdx l]).pattern.on s.beac.slot ∧
      (x.conclude.beac.lamps[lampIdx l]).forced = false ∧
      ((x.beac.lamps[lampIdx l]).level = false → (x.conclude.beac.lamps[lampIdx l]).level = true →
        (x.conclude.beac.lamps[lampIdx l]).checkAt = some (s.now + 50)) := by
  obtain ⟨y, atNow, atSlot, resolved⟩ := x.conclude_lamp l
  obtain ⟨-, -, -, forced, level⟩ := y.resolve_spec l x.beac.lamps[lampIdx l]
  rw [resolved, ← slot, ← now, ← atSlot, ← atNow]
  refine ⟨?_, forced.trans unforced, State.resolve_check⟩
  rw [level, unforced, Bool.not_false, Bool.and_true]

/-! ### The statement -/

/-- Settles O30: the forms read are the forms of R159 and R160, and the close of the event resolves the channels changed. -/
theorem beacSetsAndClears : Obligations.BeacSetsAndClears := by
  refine ⟨fun s t => ⟨fun fs ready other => ?_, fun x fs ready other => ?_⟩, fun s t ls w named => ?_⟩
  · refine State.serve_replies ready (State.reqBeac_syntax ?_ s t)
    exact Option.eq_none_iff_forall_ne_some.mpr fun y read => other (readBeac_some read)
  · refine State.serve_replies ready (State.reqBeac_syntax ?_ s t)
    refine Option.eq_none_iff_forall_ne_some.mpr fun y read => other ?_
    obtain ⟨x', w, form, names, -⟩ := readBeac_some read
    obtain ⟨rfl, rest⟩ := List.cons.inj form
    exact ⟨names, (List.cons.inj rest).2⟩
  have names := readLamps_word named
  have nd : ls.Nodup := by
    rcases named with ⟨-, rfl⟩ | ⟨l, -, rfl⟩
    · decide
    · exact List.nodup_singleton l
  have rest (f : LampCh → LampCh) := s.updLamps_rest f ls
  have lamp (f : LampCh → LampCh) (k : Lamp) := s.updLamps_lamp f k ls nd
  have link (f : LampCh → LampCh) : (s.updLamps ls f).conclude.link = s.link := State.conclude_link (by rw [rest])
  refine ⟨fun p ready => ?_, fun ready => ?_⟩
  · have served : s.serve ⟨t, .beac, [.word w, .word p.word]⟩ =
        (s.setHost ls p).conclude.answer t .beac "OK" ((s.setHost ls p).conclude.patterns ls) := by
      show s.reqBeac t _ = _
      simp only [State.reqBeac, readBeac_pattern names p]
    rw [State.setHost_eq] at served
    obtain ⟨u, row, replies⟩ := State.serve_replies_after ready served (link _)
    exact ⟨u, _, row, replies, rest _, lamp _⟩
  · have served : s.serve ⟨t, .beac, [.word w, .word "CLEAR"]⟩ =
        (s.clearFaults ls).conclude.answer t .beac "OK" [.num (s.faultCount ls)] := by
      show s.reqBeac t _ = _
      simp only [State.reqBeac, readBeac_clear names]
    rw [State.clearFaults_eq] at served
    obtain ⟨u, row, replies⟩ := State.serve_replies_after ready served (link _)
    refine ⟨u, _, row, replies, rest _, lamp _, fun l mem => ?_⟩
    have cleared := (lamp (fun c => c.clear s.now) l).trans (if_pos mem)
    have level : ((s.updLamps ls fun c => c.clear s.now).beac.lamps[lampIdx l]).level = (s.beac.lamps[lampIdx l]).level := by
      rw [cleared]
      rfl
    rw [← level]
    exact State.conclude_unforced (by rw [rest]) (by rw [rest]) (by rw [cleared]; rfl)

end Sys2Proof.Machine
end

section
/-!
SUPPORT. What the ending of a movement does to its trail (R149 to R151): each resource, the pack or a door channel, with the
trail of the movement it drives. A resource is named as a record names its own: `none` is the pack, and a side its door channel.
-/

namespace Sys2Proof.Machine

/-! ### A resource and its trail -/

/-- Who holds a resource (R48). -/
def Arbiter.holding (a : Arbiter) : Option Side → Option Holding
  | none => a.pack
  | some side => a.channel side

/-- Whether a record holds a resource (R48). -/
def State.holdsOf (s : State) : Option Side → Handle → Bool
  | none => s.holdsPack
  | some side => s.holdsDoor side

/-- The trail of the movement that a resource drives (R150, R151). -/
def Beacons.trail (b : Beacons) : Option Side → Option Nat
  | none => b.rearTrail
  | some side => b.sideTrail side

section
variable {s t : State} {x : Option Side} {h : Handle}

theorem State.holdsOf_iff : s.holdsOf x h = true ↔ ∃ y, s.arb.holding x = some y ∧ y.handle = h := by
  cases x with
  | none =>
    simp only [State.holdsOf, State.holdsPack, Arbiter.holding]
    cases s.arb.pack <;> simp
  | some side =>
    simp only [State.holdsOf, State.holdsDoor, Arbiter.holding]
    cases s.arb.channel side <;> simp

theorem State.holdsOf_free (free : s.arb.holding x = none) : s.holdsOf x h = false := by
  rw [Bool.eq_false_iff]
  intro holds
  obtain ⟨y, held, -⟩ := State.holdsOf_iff.mp holds
  exact nomatch free.symm.trans held

theorem State.holdsOf_congr (same : t.arb.holding x = s.arb.holding x) (h : Handle) : t.holdsOf x h = s.holdsOf x h := by
  rw [Bool.eq_iff_iff, State.holdsOf_iff, State.holdsOf_iff, same]

end

/-! ### One ending -/

section
variable {s : State} {r : Record} {x : Option Side}

theorem State.stopOutputs_holding (s : State) (r : Record) (x : Option Side) :
    (s.stopOutputs r).arb.holding x = s.arb.holding x := by
  unfold State.stopOutputs
  split
  · next side _ =>
    split
    · cases side <;> rfl
    · rfl
  · split
    · cases x with
      | none => exact s.leaveRun_pack
      | some side => exact s.leaveRun_channel side
    · rfl

theorem State.release_unheld (free : s.holdsOf r.side r.handle = false) (moved : Bool) : s.release r moved = s :=
  State.release_waiter (fun pack => by rwa [pack] at free) (fun side door => by rwa [door] at free) moved

theorem State.release_held (held : s.holdsOf r.side r.handle = true) (moved : Bool) (x : Option Side) :
    (s.release r moved).arb.holding x = (if r.side = x then none else s.arb.holding x) ∧
      (s.release r moved).beac.trail x = if r.side = x ∧ moved = true then s.newTrail else s.beac.trail x := by
  unfold State.release
  cases side : r.side with
  | none =>
    rw [side] at held
    rw [show s.holdsPack r.handle = true from held]
    rcases x with _ | _ | _ <;> cases moved <;> exact ⟨rfl, rfl⟩
  | some mine =>
    rw [side] at held
    dsimp only
    rw [show s.holdsDoor mine r.handle = true from held]
    cases mine <;> rcases x with _ | _ | _ <;> cases moved <;> exact ⟨rfl, rfl⟩

/-- A record gives up the resource of its side if it holds it, and the trail of a movement that so ends starts. -/
theorem State.release_resource (s : State) (r : Record) (moved : Bool) (x : Option Side) :
    (s.release r moved).arb.holding x = (if r.side = x ∧ s.holdsOf x r.handle = true then none else s.arb.holding x) ∧
      (s.release r moved).beac.trail x =
        if r.side = x ∧ s.holdsOf x r.handle = true ∧ moved = true then s.newTrail else s.beac.trail x := by
  cases held : s.holdsOf r.side r.handle with
  | true =>
    obtain ⟨holding, trail⟩ := State.release_held held moved x
    rw [holding, trail]
    by_cases mine : r.side = x
    · rw [mine] at held
      simp [held]
    · simp [mine]
  | false =>
    have other : ¬(r.side = x ∧ s.holdsOf x r.handle = true) := fun ⟨mine, holds⟩ => by
      rw [mine, holds] at held
      cases held
    rw [State.release_unheld held, if_neg other, if_neg fun h => other ⟨h.1, h.2.1⟩]
    exact ⟨rfl, rfl⟩

theorem State.quit_resource (s : State) (r : Record) (o : RecOutcome) (why : Option EndReason) (x : Option Side) :
    (s.quit r o why).arb.holding x = (if r.side = x ∧ s.holdsOf x r.handle = true then none else s.arb.holding x) ∧
      (s.quit r o why).beac.trail x =
        if r.side = x ∧ s.holdsOf x r.handle = true ∧ s.movedBy r = true then s.newTrail else s.beac.trail x := by
  have holding : (s.listed r o why).arb.holding x = s.arb.holding x := s.stopOutputs_holding r x
  have trail : (s.listed r o why).newTrail = s.newTrail := by
    unfold State.listed
    rw [s.stopOutputs_same]
    rfl
  have released := (s.listed r o why).release_resource r (s.movedBy r) x
  rw [State.holdsOf_congr holding, holding, trail, State.listed_beac] at released
  exact released

/-- A free resource stays free through an ending, and its trail is left alone. -/
theorem State.endOne_free (free : s.arb.holding x = none) (k : Handle) (o : RecOutcome) (why : Option EndReason) :
    (s.endOne k o why).arb.holding x = none ∧ (s.endOne k o why).beac.trail x = s.beac.trail x := by
  cases f : s.find k with
  | none =>
    rw [State.endOne_absent f]
    exact ⟨free, rfl⟩
  | some r =>
    have counts := (s.quit r o why).count_counts (endSources r ⟨o, why, s.endPos r⟩ (s.ranBy r)) (some r.origin) r.side
      (s.quit r o why).axis.lastLoad
    obtain ⟨holding, trail⟩ := s.quit_resource r o why x
    rw [State.endOne_eq f, counts.arb, counts.beac, holding, trail, State.holdsOf_free free, free]
    simp

/-- The holder of a resource is in the table, and its ending ends a movement (R48, R149, R151). -/
theorem State.Sound.holder {s : State} (sound : s.Sound) {k : Handle} (holds : s.holdsOf x k = true) :
    ∃ r, s.find k = some r ∧ r.handle = k ∧ r.side = x ∧ s.movedBy r = true := by
  cases x with
  | none =>
    obtain ⟨y, run, r, held, rfl⟩ := sound.find_holder holds
    obtain ⟨handle, -⟩ := State.find_spec held.find
    refine ⟨r, held.find, handle, held.side, ?_⟩
    rw [State.movedBy, held.side, handle]
    exact Bool.and_eq_true_iff.mpr ⟨holds, held.granted⟩
  | some side =>
    rcases sound.door side with idle | ⟨y, p, r, held⟩
    · exact nomatch holds.symm.trans (State.holdsOf_free (x := some side) idle.channel)
    · obtain ⟨z, holding, rfl⟩ := State.holdsOf_iff.mp holds
      obtain rfl : y = z := Option.some.inj (held.channel.symm.trans holding)
      obtain ⟨handle, -⟩ := State.find_spec held.find
      refine ⟨r, held.find, handle, held.ofSide, ?_⟩
      rw [State.movedBy, held.ofSide, handle]
      exact Bool.and_eq_true_iff.mpr ⟨holds, by rw [State.sideMoving, held.phase]; rfl⟩

/-- The ending of a holder frees its resource and starts its trail; any other ending leaves both (R13, R150, R151). -/
theorem State.Sound.endOne_resource {s : State} (sound : s.Sound) (k : Handle) (o : RecOutcome) (why : Option EndReason)
    (x : Option Side) :
    (s.endOne k o why).arb.holding x = (if s.holdsOf x k = true then none else s.arb.holding x) ∧
      (s.endOne k o why).beac.trail x = if s.holdsOf x k = true then s.newTrail else s.beac.trail x := by
  cases f : s.find k with
  | none =>
    have none_ : ¬s.holdsOf x k = true := fun holds => by
      obtain ⟨r, found, -⟩ := sound.holder holds
      exact nomatch f.symm.trans found
    rw [State.endOne_absent f, if_neg none_, if_neg none_]
    exact ⟨rfl, rfl⟩
  | some r =>
    obtain ⟨rfl, -⟩ := State.find_spec f
    have counts := (s.quit r o why).count_counts (endSources r ⟨o, why, s.endPos r⟩ (s.ranBy r)) (some r.origin) r.side
      (s.quit r o why).axis.lastLoad
    obtain ⟨holding, trail⟩ := s.quit_resource r o why x
    rw [State.endOne_eq f, counts.arb, counts.beac, holding, trail]
    by_cases holds : s.holdsOf x r.handle = true
    · obtain ⟨y, found, -, side, moved⟩ := sound.holder holds
      obtain rfl : r = y := Option.some.inj (f.symm.trans found)
      simp [holds, side, moved]
    · simp [holds]

end

/-! ### Endings with their successors, and of every record -/

section
variable {s : State} {x : Option Side}

theorem State.endChain_free : ∀ (fuel : Nat) {s : State}, s.arb.holding x = none → ∀ (k : Handle) (o : RecOutcome)
    (why : Option EndReason),
    (s.endChain fuel k o why).arb.holding x = none ∧ (s.endChain fuel k o why).beac.trail x = s.beac.trail x
  | 0, _, free, _, _, _ => ⟨free, rfl⟩
  | fuel + 1, s, free, k, o, why => by
    have one := State.endOne_free free k o why
    have later (next : List Handle) :
        let t := next.foldl (fun t j => t.endChain fuel j .cancelled (some .pred)) (s.endOne k o why)
        t.arb.holding x = none ∧ t.beac.trail x = s.beac.trail x :=
      List.foldlRecOn next _ (motive := fun t : State => t.arb.holding x = none ∧ t.beac.trail x = s.beac.trail x) one
        fun t ⟨freed, same⟩ j _ => by
          obtain ⟨freed', same'⟩ := State.endChain_free fuel freed j .cancelled (some .pred)
          exact ⟨freed', same'.trans same⟩
    unfold State.endChain
    cases o with
    | done =>
      exact List.foldlRecOn (s.successors k) State.freePred
        (motive := fun t : State => t.arb.holding x = none ∧ t.beac.trail x = s.beac.trail x) one fun _ same _ _ => same
    | stopped | failed | cancelled => exact later _

/-- The ending of a holder with its successors starts the trail of its movement (R150, R151). -/
theorem State.Sound.endTree_trail (sound : s.Sound) {k : Handle} (holds : s.holdsOf x k = true) (o : RecOutcome)
    (why : Option EndReason) : (s.endTree k o why).beac.trail x = s.newTrail := by
  have one := sound.endOne_resource k o why x
  rw [if_pos holds, if_pos holds] at one
  have whole : (s.endTree k o why).arb.holding x = none ∧ (s.endTree k o why).beac.trail x = s.newTrail := by
    refine State.endTree_induction (P := fun t => t.arb.holding x = none ∧ t.beac.trail x = s.newTrail) one
      (fun _ _ same => same) fun _ t j ⟨freed, started⟩ => ?_
    obtain ⟨freed', same⟩ := State.endChain_free 12 freed j .cancelled (some .pred)
    exact ⟨freed', same.trans started⟩
  exact whole.2

/-- Records that end one by one start the trail of each movement that a holder among them drives. -/
theorem State.Sound.endEach_trail (o : RecOutcome) (why : Option EndReason) : ∀ (ks : List Handle) {s : State}, s.Sound →
    (s.endEach ks o why).beac.trail x = if ks.any (s.holdsOf x) = true then s.newTrail else s.beac.trail x
  | [], _, _ => rfl
  | k :: ks, s, sound => by
    obtain ⟨holding, trail⟩ := sound.endOne_resource k o why x
    have start : (s.endOne k o why).newTrail = s.newTrail := by
      rw [State.newTrail, State.newTrail, s.endOne_now, (s.endOne_follows k o why).settings]
    show ((s.endOne k o why).endEach ks o why).beac.trail x = _
    rw [State.Sound.endEach_trail o why ks (sound.endOne o why k), start, trail, List.any_cons]
    by_cases holds : s.holdsOf x k = true
    · simp [holds]
    · rw [if_neg holds] at holding
      have same : (s.endOne k o why).holdsOf x = s.holdsOf x := funext (State.holdsOf_congr holding)
      simp [holds, same]

theorem State.Sound.handles_hold (sound : s.Sound) :
    s.handles.any (s.holdsOf x) = (s.arb.holding x).isSome := by
  rw [Bool.eq_iff_iff, List.any_eq_true, Option.isSome_iff_exists]
  constructor
  · rintro ⟨k, -, holds⟩
    obtain ⟨y, holding, -⟩ := State.holdsOf_iff.mp holds
    exact ⟨y, holding⟩
  · rintro ⟨y, holding⟩
    have holds : s.holdsOf x y.handle = true := State.holdsOf_iff.mpr ⟨y, holding, rfl⟩
    obtain ⟨r, found, -⟩ := sound.holder holds
    exact ⟨y.handle, State.find_mem found, holds⟩

/-- A halt event starts the trail of each movement that it ends (R28, R150, R151). -/
theorem State.Sound.raiseHalt_trail (sound : s.Sound) (clear : s.halt.set = false) (c : Cause) (x : Option Side) :
    (s.raiseHalt c).beac.trail x = if (s.arb.holding x).isSome = true then s.newTrail else s.beac.trail x := by
  have halting : (s.halting c).Sound := sound.of_same
  rw [State.raiseHalt_eq clear, (State.count_counts _ _ _ _ _).beac, halting.endEach_trail, ← sound.handles_hold]
  rfl

theorem State.raiseHalt_sameLights (clear : s.halt.set = false) (c : Cause) : s.SameLights (s.raiseHalt c) := by
  have start : s.SameLights (s.halting c) := rfl
  rw [State.raiseHalt_eq clear]
  exact (start.trans (State.endEach_sameLights _ _ _ _)).trans (State.count_counts _ _ _ _ _).sameLights

end

end Sys2Proof.Machine
end

section
/-!
Patterns, demands and trails (O56), in the terms of R147 to R154 and R157.
-/

namespace Sys2Proof.Machine

/-! ### When ALARM and MOTION are active (R149 to R153) -/

section
variable {s t : State}

theorem State.alarm_iff (s : State) (l : Lamp) :
    s.alarm l = true ↔ s.eval.driveAway = true ∨ (s.halt.set = true ∧ l ∈ [Lamp.b0, .b1, .snd]) := by
  cases l <;> simp [State.alarm]

theorem State.motion_rear (s : State) {l : Lamp} (rear : l ∈ [Lamp.b0, .b1]) :
    s.motion l = true ↔ (∃ r, s.packRecord = some r ∧ r.state ∈ [RecState.lead, .running, .holding, .settling]) ∨
      s.beac.rearTrail.isSome = true := by
  have granted (q : RecState) : q.granted = true ↔ q ∈ [RecState.lead, .running, .holding, .settling] := by
    cases q <;> decide
  have moving : s.rearMoving = true ↔
      ∃ r, s.packRecord = some r ∧ r.state ∈ [RecState.lead, .running, .holding, .settling] := by
    unfold State.rearMoving
    cases s.packRecord <;> simp only [granted] <;> simp
  have pair : s.motion l = (s.rearMoving || s.beac.rearTrail.isSome) := by
    simp only [List.mem_cons, List.not_mem_nil, or_false] at rear
    rcases rear with rfl | rfl <;> rfl
  rw [pair, Bool.or_eq_true, moving]

theorem State.motion_snd (s : State) :
    s.motion .snd = true ↔ s.settings.plain.sndMove = 1 ∧ ∃ r, s.packRecord = some r ∧ r.state ∈ [RecState.running] := by
  unfold State.motion
  cases s.packRecord <;> simp

/-- A door that is driven is driven by its running record (R48, R93). -/
theorem State.Sound.slides (sound : s.Sound) (side : Side) :
    s.sideMoving side = true ↔
      ∃ r, s.doorRecord side = some r ∧ r.state = .running ∧ (s.door side).phase.isSome = true := by
  refine ⟨fun moving => ?_, fun ⟨_, _, _, phase⟩ => phase⟩
  rcases sound.door side with idle | ⟨x, p, r, held⟩
  · rw [State.sideMoving, idle.phase] at moving
    cases moving
  · have driver : s.doorRecord side = some r := by
      rw [State.doorRecord, held.channel]
      exact held.find
    exact ⟨r, driver, held.running, moving⟩

/-- Counting leaves the states of the pack's holder. -/
theorem State.Counts.packRecord_iff (c : s.Counts t) (states : List RecState) :
    (∃ r, t.packRecord = some r ∧ r.state ∈ states) ↔ ∃ r, s.packRecord = some r ∧ r.state ∈ states := by
  have found (h : Handle) : (t.find h).map Record.bare = (s.find h).map Record.bare := by
    rw [t.find_bare, s.find_bare, c.bare]
  have same : t.packRecord.map Record.bare = s.packRecord.map Record.bare := by
    unfold State.packRecord
    rw [c.arb]
    cases s.arb.pack with
    | none => rfl
    | some x => exact found x.handle
  have states (u : State) : (∃ r, u.packRecord = some r ∧ r.state ∈ states) ↔
      ∃ b, u.packRecord.map Record.bare = some b ∧ b.state ∈ states := by
    cases u.packRecord <;> simp [Record.bare]
  rw [states t, states s, same]

theorem State.Counts.alarm (c : s.Counts t) (l : Lamp) : t.alarm l = s.alarm l := by
  unfold State.alarm
  rw [c.eval, c.halt]

theorem State.Counts.motion (c : s.Counts t) (l : Lamp) : t.motion l = s.motion l := by
  have slides (side : Side) : t.sideMoving side = s.sideMoving side := by
    rw [State.sideMoving, State.sideMoving, c.door]
  cases l with
  | b0 | b1 => rw [Bool.eq_iff_iff, t.motion_rear (by simp), s.motion_rear (by simp), c.packRecord_iff, c.beac]
  | b2 | b3 =>
    unfold State.motion
    dsimp only
    rw [slides, c.beac]
  | snd => rw [Bool.eq_iff_iff, t.motion_snd, s.motion_snd, c.packRecord_iff, c.settings]

theorem State.Counts.demand (c : s.Counts t) (l : Lamp) (host : Pattern) : t.demand l host = s.demand l host := by
  rw [State.demand, State.demand, c.alarm, c.motion]

end

/-! ### The pattern clock (R147) -/

/-- The state in which a pattern slot begins, before the channels are resolved for it. -/
def State.slotDue (s : State) : State := (s.passTo s.beac.nextAt).nextSlot

theorem State.slotDue_now (s : State) : s.slotDue.now = max s.now s.beac.nextAt := s.passTo_now _

theorem State.slotDue_demand (s : State) (l : Lamp) (host : Pattern) : s.slotDue.demand l host = s.demand l host :=
  (s.passTo_counts s.beac.nextAt).demand l host

theorem State.slotDue_lamps (s : State) : s.slotDue.beac.lamps = s.beac.lamps := by
  show (s.passTo s.beac.nextAt).beac.lamps = _
  rw [(s.passTo_counts _).beac]

/-- The clock keeps its grid from the reset, and comes to the slot after the present one where its row is taken in time. -/
theorem State.slotDue_grid {s : State} (grid : s.beac.wf = true) :
    s.slotDue.now < s.slotDue.beac.nextAt ∧ s.slotDue.beac.nextAt ≤ s.slotDue.now + 100 ∧ s.slotDue.beac.nextAt % 100 = 0 ∧
      (s.now < s.beac.nextAt + 100 → s.slotDue.beac.slot = (s.beac.slot + 1) % 20) := by
  have beac : (s.passTo s.beac.nextAt).beac = s.beac := (s.passTo_counts _).beac
  have due : s.beac.nextAt ≤ s.slotDue.now := s.slotDue_now ▸ Nat.le_max_right ..
  have wf : s.slotDue.beac.wf = true := State.nextSlot_wf (beac.symm ▸ grid) (beac.symm ▸ due)
  obtain ⟨later, soon, -⟩ := nextDue_grid (period := Config.slotMs) (by decide) due
  have next : s.slotDue.beac.nextAt = nextDue s.beac.nextAt Config.slotMs s.slotDue.now := by
    unfold State.slotDue State.nextSlot
    rw [beac]
  rw [← next] at later soon
  obtain ⟨onGrid, pos, slot⟩ := (Beacons.wf_iff _).mp grid
  refine ⟨later, soon, ((Beacons.wf_iff _).mp wf).1, fun inTime => ?_⟩
  have now : s.slotDue.now / 100 = s.beac.nextAt / 100 := by
    rw [s.slotDue_now]
    omega
  show s.slotDue.now / 100 % 20 = _
  rw [now, slot]
  omega

/-! ### The trails (R150, R151) -/

/-- What a halt event or an ending leaves of the beacon controller, trail by trail. -/
theorem State.SameLights.trails {s t : State} (same : s.SameLights t) {next : Option Side → Option Nat}
    (trails : ∀ x, t.beac.trail x = next x) :
    t.beac = { s.beac with rearTrail := next none, nearTrail := next (some .near), offTrail := next (some .off) } := by
  rw [← trails none, ← trails (some .near), ← trails (some .off)]
  exact same

theorem exec_rearTrailExpiry_runs {s : State} {t0 : Nat} (runs : s.beac.rearTrail = some t0) :
    ∃ x : State, exec .rearTrailExpiry s = .next x.conclude ∧ x.beac = { s.beac with rearTrail := none } ∧
      x.now = max s.now t0 ∧ s.Follows x := by
  refine ⟨{ s.passTo t0 with beac := { s.beac with rearTrail := none } }, ?_, rfl, s.passTo_now t0,
    (s.passTo_follows t0).trans .quiet⟩
  show execRearTrailExpiry s = _
  simp only [execRearTrailExpiry, runs, (s.passTo_counts t0).beac]

theorem exec_sideTrailExpiry_runs {s : State} {side : Side} {t0 : Nat} (runs : s.beac.sideTrail side = some t0) :
    ∃ x : State, exec (.sideTrailExpiry side) s = .next x.conclude ∧ x.beac = s.beac.dropTrail side ∧
      x.now = max s.now t0 ∧ s.Follows x := by
  refine ⟨{ s.passTo t0 with beac := s.beac.dropTrail side }, ?_, rfl, s.passTo_now t0, (s.passTo_follows t0).trans .quiet⟩
  show execSideTrailExpiry side s = _
  simp only [execSideTrailExpiry, runs, (s.passTo_counts t0).beac]

/-! ### The statement -/

/-- Settles O56: each pattern by its slots, the clock by its grid, and each trail by the resource that its movement holds. -/
theorem patternAndTrails : Obligations.PatternAndTrails := by
  refine ⟨fun slot _ => ?_, fun s => ?_, fun s => ?_, fun s sound => ?_, fun s t0 => ?_⟩
  · refine ⟨rfl, rfl, ?_, ?_, ?_, ?_, ?_⟩
    all_goals simp only [Pattern.on, decide_eq_true_eq, List.mem_cons, List.not_mem_nil, or_false]
    all_goals omega
  · refine ⟨s.slotDue.resolveAll, rfl, s.patternSlot_moves.follows, s.slotDue_now, rfl, fun inv => ?_, fun l => ?_⟩
    · exact State.slotDue_grid (s.inv_iff.mp inv).1.beac
    · obtain ⟨host, cls, pattern, -, level⟩ := s.slotDue.resolve_spec l s.slotDue.beac.lamps[lampIdx l]
      dsimp only
      rw [State.resolveAll_lamp, cls, host, pattern, level, pattern, State.slotDue_demand, State.slotDue_lamps]
      refine ⟨rfl, rfl, ?_, rfl⟩
      cases s.demand l (s.beac.lamps[lampIdx l]).host <;> rfl
  · refine ⟨s.alarm_iff, fun l rear => s.motion_rear rear, fun sound => ?_, s.motion_snd⟩
    have slides := (s.sound_iff.mp sound).slides
    exact ⟨Bool.or_eq_true_iff.trans (or_congr_left (slides .near)), Bool.or_eq_true_iff.trans (or_congr_left (slides .off))⟩
  · have sound := s.sound_iff.mp sound
    refine ⟨fun r o why _ => ⟨?_, fun holds => ?_, fun holds => ?_, fun holds => ?_⟩, fun c clear _ => ?_⟩
    · exact (s.endOne_sameLights r.handle o why).trails fun x => (sound.endOne_resource r.handle o why x).2
    · exact sound.endTree_trail (x := none) holds o why
    · exact sound.endTree_trail (x := some .near) holds o why
    · exact sound.endTree_trail (x := some .off) holds o why
    · exact (State.raiseHalt_sameLights clear c).trails (sound.raiseHalt_trail clear c)
  · exact ⟨exec_rearTrailExpiry_runs, exec_sideTrailExpiry_runs (side := .near), exec_sideTrailExpiry_runs (side := .off)⟩

end Sys2Proof.Machine
end

section
/-!
The counter requests (O31): the index and the setup they name, one counter replaced, and what `CNTR` answers, in the terms of
R162 and R167 to R173.
-/

namespace Sys2Proof.Machine

/-! ### The counter and the setup that a request names (R171 to R173) -/

theorem counterOf_iff (n : Int) (i : Fin 8) : counterOf n = some i ↔ n = i.val := by
  unfold counterOf
  constructor
  · intro found
    have named := List.find?_some found
    exact (of_decide_eq_true named).symm
  · rintro rfl
    revert i
    decide

theorem counterOf_none {n : Int} (outside : ¬(0 ≤ n ∧ n ≤ 7)) : counterOf n = none :=
  Option.eq_none_iff_forall_ne_some.mpr fun i found => by
    have named := (counterOf_iff n i).mp found
    omega

theorem modeWord_eq (duration : Bool) : modeWord duration = if duration then "DURATION" else "EDGE" := by
  cases duration <;> rfl

theorem weightWord_eq (load : Bool) : weightWord load = if load then "LOAD" else "ONE" := by
  cases load <;> rfl

theorem Source.mem_all (x : Source) : x ∈ Source.all := by cases x <;> decide

theorem Source.words_nodup : (Source.all.map Source.word).Nodup := by decide

theorem OriginFilter.mem_all (x : OriginFilter) : x ∈ OriginFilter.all := by cases x <;> decide

theorem OriginFilter.words_nodup : (OriginFilter.all.map OriginFilter.word).Nodup := by decide

theorem SideFilter.mem_all (x : SideFilter) : x ∈ SideFilter.all := by cases x <;> decide

theorem SideFilter.words_nodup : (SideFilter.all.map SideFilter.word).Nodup := by decide

theorem modeWords_nodup : ([false, true].map modeWord).Nodup := by decide

theorem weightWords_nodup : ([false, true].map weightWord).Nodup := by decide

theorem mem_bools (b : Bool) : b ∈ [false, true] := by cases b <;> decide

/-- A thing of a list without repeated words is read from its own word. -/
theorem reading_word {α : Type} {all : List α} {word : α → String} (nodup : (all.map word).Nodup) {x : α} (mem : x ∈ all) :
    reading all word (word x) = some x := (reading_some_iff nodup).mpr ⟨mem, rfl⟩

/-- The fields that ask for a setup (R173). -/
def SetupForm.fields (f : SetupForm) : List Field :=
  [.num f.index, .word f.source.word, .word (modeWord f.duration), .word (weightWord f.load), .word f.origin.word,
    .word f.side.word, .wnum "THM" f.millions, .wnum "THL" f.units, .wnum "DERATE" f.derate]

theorem SetupForm.fields_mk (k : Int) (src : Source) (dur load : Bool) (org : OriginFilter) (side : SideFilter) (m n d : Int) :
    [.num k, .word src.word, .word (if dur then "DURATION" else "EDGE"), .word (if load then "LOAD" else "ONE"),
        .word org.word, .word side.word, .wnum "THM" m, .wnum "THL" n, .wnum "DERATE" d] =
      SetupForm.fields ⟨k, src, dur, load, org, side, m, n, d⟩ := by
  simp only [SetupForm.fields, modeWord_eq, weightWord_eq]

theorem readSetup_fields (f : SetupForm) : readSetup f.fields = some f := by
  simp only [readSetup, SetupForm.fields, reading_word Source.words_nodup f.source.mem_all,
    reading_word modeWords_nodup (mem_bools _), reading_word weightWords_nodup (mem_bools _),
    reading_word OriginFilter.words_nodup f.origin.mem_all, reading_word SideFilter.words_nodup f.side.mem_all, and_self,
    if_true]

theorem Source.isSpan_iff (x : Source) : x.isSpan = true ↔ x = .pumpRun ∨ x = .engOffPump := by
  cases x <;> decide

/-- Step 2 of R173, number by number. -/
theorem SetupForm.inRange_iff (f : SetupForm) :
    f.inRange = true ↔
      (0 ≤ f.index ∧ f.index ≤ 7) ∧ (0 ≤ f.millions ∧ f.millions ≤ 999999) ∧ (0 ≤ f.units ∧ f.units ≤ 999999) ∧
        (0 ≤ f.derate ∧ f.derate ≤ 1) ∧ (f.duration = true → f.source = .pumpRun ∨ f.source = .engOffPump) ∧
        (f.load = true → f.source = .liftCyc) := by
  have implies (b c : Bool) : (!b || c) = true ↔ (b = true → c = true) := by cases b <;> simp
  simp only [SetupForm.inRange, Bool.and_eq_true, Machine.inRange_iff, implies, Source.isSpan_iff, beq_iff_eq, and_assoc]

/-- The setup that R173 gives a counter, with the threshold clamped (R167). -/
theorem Counter.setUp_eq (c : Counter) (f : SetupForm) :
    c.setUp f =
      ⟨f.source, f.duration, f.load, f.origin, f.side, min 4294967295 f.asked, decide (f.derate = 1), c.value,
        decide (f.asked ≠ 0 ∧ min 4294967295 f.asked ≤ c.value),
        if c.source = f.source ∧ c.duration = f.duration then c.residue else 0⟩ := by
  have nonzero : min 4294967295 f.asked ≠ 0 ↔ f.asked ≠ 0 := by omega
  simp only [Counter.setUp, SetupForm.threshold, show Config.counterMax = 4294967295 from rfl, nonzero]

theorem SetupForm.clamped_iff (f : SetupForm) : f.threshold ≠ f.asked ↔ 4294967295 < f.asked := by
  unfold SetupForm.threshold
  rw [show Config.counterMax = 4294967295 from rfl]
  omega

/-- The setup that asks for these values of the counter `i`, with the derate flag as 0 or 1 (R173). -/
def setupOf (i : Fin 8) (src : Source) (dur load : Bool) (org : OriginFilter) (side : SideFilter) (m n : Int) (der : Bool) :
    SetupForm := ⟨i.val, src, dur, load, org, side, m, n, yes der⟩

section
variable (i : Fin 8) (src : Source) (dur load : Bool) (org : OriginFilter) (side : SideFilter) (m n : Int) (der : Bool)

theorem setupOf_inRange :
    (setupOf i src dur load org side m n der).inRange = true ↔
      0 ≤ m ∧ m ≤ 999999 ∧ 0 ≤ n ∧ n ≤ 999999 ∧ (dur = true → src = .pumpRun ∨ src = .engOffPump) ∧
        (load = true → src = .liftCyc) := by
  have index : (0 : Int) ≤ i.val ∧ (i.val : Int) ≤ 7 := by omega
  have derate : 0 ≤ yes der ∧ yes der ≤ 1 := by cases der <;> decide
  simp only [SetupForm.inRange_iff, setupOf, index, derate, and_self, true_and, and_assoc]

theorem setUp_setupOf (c : Counter) :
    c.setUp (setupOf i src dur load org side m n der) =
      ⟨src, dur, load, org, side, min 4294967295 (m.toNat * 1000000 + n.toNat), der, c.value,
        decide (m.toNat * 1000000 + n.toNat ≠ 0 ∧ min 4294967295 (m.toNat * 1000000 + n.toNat) ≤ c.value),
        if c.source = src ∧ c.duration = dur then c.residue else 0⟩ := by
  have flag : decide (yes der = 1) = der := by cases der <;> rfl
  have given := c.setUp_eq (setupOf i src dur load org side m n der)
  rw [show decide ((setupOf i src dur load org side m n der).derate = 1) = der from flag] at given
  exact given

end

/-! ### Derating decided again (R76, R169) -/

theorem State.decideDerating_notes (s : State) : s.decideDerating.notes = s.notes := by
  unfold State.decideDerating
  dsimp only
  split
  · exact State.slowRun_notes _
  · rfl

/-- With no run, or with derating not becoming active, nothing but the derating itself is decided. -/
theorem State.decideDerating_unslowed {s : State}
    (still : s.axis.run = none ∨ (s.cnt.recs.toList.any Counter.derates = true → s.cnt.derating = true)) :
    s.decideDerating = { s with cnt := s.decideDerating.cnt } := by
  rw [State.decideDerating_cnt]
  unfold State.decideDerating
  dsimp only
  split
  · next becomes =>
    obtain ⟨active, was⟩ := Bool.and_eq_true_iff.mp becomes
    rcases still with run | on
    · simp only [State.slowRun, run]
    · rw [on active] at was
      cases was
  · rfl

/-! ### A counter replaced (R169) -/

/-- From `s` to `x` one counter has been replaced, and derating decided afresh. -/
structure State.Recounted (s x : State) (i : Fin 8) (d : Counter) : Prop where
  frozen : x.cnt.frozen = s.cnt.frozen
  same : x.cnt.recs[i] = d
  other : ∀ j : Fin 8, j ≠ i → x.cnt.recs[j] = s.cnt.recs[j]
  derating : x.cnt.derating = true ↔ ∃ j : Fin 8, (x.cnt.recs[j]).reached = true ∧ (x.cnt.recs[j]).derate = true
  link : x.link = s.link

theorem State.decideDerating_recounted {s m : State} {i : Fin 8} {d : Counter} (cnt : m.cnt = (s.setCounter i d).cnt)
    (link : m.link = s.link) : s.Recounted m.decideDerating i d := by
  refine ⟨?_, ?_, fun j other => ?_, ?_, (State.decideDerating_follows m).link.trans link⟩
  all_goals rw [State.decideDerating_cnt]
  · rw [cnt]
    rfl
  · rw [cnt]
    simp [State.setCounter]
  · rw [cnt]
    simp [State.setCounter, other]
  · simp only [vector_any_iff, Counter.derates_iff]

theorem State.clearCounter_recounted (s : State) (i : Fin 8) :
    s.Recounted (s.clearCounter i) i { s.cnt.recs[i] with value := 0, residue := 0, reached := false } :=
  State.decideDerating_recounted rfl rfl

/-- A counter that is cleared makes no derating active, so the run and its record stay as they are (R169, R172). -/
theorem State.clearCounter_rest {s : State} (ranged : s.cnt.Ranged) (i : Fin 8) :
    s.clearCounter i = { s with cnt := (s.clearCounter i).cnt } := by
  refine State.decideDerating_unslowed (.inr fun active => ?_)
  obtain ⟨j, derates⟩ := (vector_any_iff _ _).mp active
  show s.cnt.derating = true
  rw [ranged.derating, vector_any_iff]
  by_cases same : j = i
  · subst same
    simp [State.setCounter, Counter.derates] at derates
  · exact ⟨j, by simpa [State.setCounter, same] using derates⟩

/-- A setup before derating is decided: the counter replaced, and the notice of a crossing (R168, R173). -/
def State.withSetup (s : State) (i : Fin 8) (d : Counter) : State :=
  { s.setCounter i d with
    notes :=
      if d.reached = true ∧ (s.cnt.recs[i]).reached = false then s.notes.push (.service i d.source d.value) else s.notes }

theorem State.setUpCounter_eq (s : State) (i : Fin 8) (f : SetupForm) :
    s.setUpCounter i f = (s.withSetup i ((s.cnt.recs[i]).setUp f)).decideDerating := by
  have crosses (b c : Bool) : (b && !c) = true ↔ b = true ∧ c = false := by
    rw [Bool.and_eq_true_iff, Bool.not_eq_true']
  simp only [State.setUpCounter, State.withSetup, crosses]
  split <;> rfl

theorem State.setUpCounter_recounted (s : State) (i : Fin 8) (f : SetupForm) :
    s.Recounted (s.setUpCounter i f) i ((s.cnt.recs[i]).setUp f) := by
  rw [State.setUpCounter_eq]
  exact State.decideDerating_recounted rfl rfl

theorem State.setUpCounter_notes (s : State) (i : Fin 8) (f : SetupForm) :
    (s.setUpCounter i f).notes =
      if ((s.cnt.recs[i]).setUp f).reached = true ∧ (s.cnt.recs[i]).reached = false then
        s.notes.push (.service i f.source (s.cnt.recs[i]).value)
      else s.notes := by
  rw [State.setUpCounter_eq]
  exact State.decideDerating_notes _

/-- With no run on the axes a setup changes the counters and the notices alone. -/
theorem State.setUpCounter_rest {s : State} (run : s.axis.run = none) (i : Fin 8) (f : SetupForm) :
    s.setUpCounter i f = { s with cnt := (s.setUpCounter i f).cnt, notes := (s.setUpCounter i f).notes } := by
  rw [State.setUpCounter_notes, State.setUpCounter_eq]
  exact State.decideDerating_unslowed (s := s.withSetup i _) (.inl run)

/-! ### What the requests answer (R170 to R173) -/

section
variable (s : State) (t : Tag)

theorem State.serve_cntrRead (n : Int) :
    s.serve ⟨t, .cntr, [.word "READ", .num n]⟩ = s.reqCounter t false n := rfl

theorem State.serve_cntrClear (n : Int) :
    s.serve ⟨t, .cntr, [.word "CLEAR", .num n]⟩ = s.reqCounter t true n := rfl

theorem State.serve_cntrSetup (f : SetupForm) :
    s.serve ⟨t, .cntr, .word "SETUP" :: f.fields⟩ = s.reqSetup t f.fields := rfl

theorem State.reqCounter_range {n : Int} (outside : ¬(0 ≤ n ∧ n ≤ 7)) (clear : Bool) :
    s.reqCounter t clear n = s.answer t .cntr "RANGE" [] := by
  simp only [State.reqCounter, counterOf_none outside]

theorem State.reqCounter_read_eq (i : Fin 8) : s.reqCounter t false i.val = s.answer t .cntr "OK" (s.counterFields i) := by
  simp only [State.reqCounter, (counterOf_iff _ i).mpr rfl, Bool.false_eq_true, if_false]

theorem State.reqCounter_clear_eq (i : Fin 8) :
    s.reqCounter t true i.val = (s.clearCounter i).answer t .cntr "OK" [.num i.val] := by
  simp only [State.reqCounter, (counterOf_iff _ i).mpr rfl, if_true]

/-- Step 2 of R173 refuses an index outside 0..7 as it does any other number. -/
theorem State.reqSetup_range {f : SetupForm} (outside : ¬f.inRange = true) :
    s.reqSetup t f.fields = s.answer t .cntr "RANGE" [] := by
  unfold State.reqSetup
  rw [readSetup_fields]
  dsimp only
  split
  · rfl
  · rw [if_neg outside]

/-- A setup in its ranges is refused with a record in the table, and made without one (R173). -/
theorem State.reqSetup_inRange {f : SetupForm} {i : Fin 8} (named : f.index = i.val) (inside : f.inRange = true) :
    s.reqSetup t f.fields =
      if s.plan.records = [] then
        (s.setUpCounter i f).answer t .cntr "OK"
          ([.num i.val, .wnum "REACHED" (yes ((s.cnt.recs[i]).setUp f).reached)] ++
            if 4294967295 < f.asked then [.word "CLAMPED"] else [])
      else s.answer t .cntr "BUSY" [] := by
  simp only [State.reqSetup, readSetup_fields, (counterOf_iff _ i).mpr named, inside, if_true, List.isEmpty_iff, wordIf,
    SetupForm.clamped_iff, decide_eq_true_eq]

end

/-! ### The statement -/

/-- Settles O31: each request by what its index and its numbers lead to, and a counter replaced as `State.Recounted` says. -/
theorem counterRequestsAnswer : Obligations.CounterRequestsAnswer := by
  refine ⟨fun s t => ⟨fun i => ⟨fun ready => ?_, fun inv ready => ?_⟩, fun n outside => ⟨fun ready => ?_, fun ready => ?_⟩⟩,
    fun s t i src dur load org side m n der => ?_, fun s t k src dur load org side m n d => ?_,
    fun s t => ⟨fun ready => ?_, fun ready => ?_⟩⟩
  · have served := (s.serve_cntrRead t i.val).trans (s.reqCounter_read_eq t i)
    obtain ⟨u, row, replies⟩ := State.serve_replies ready served
    simp only [State.counterFields, modeWord_eq, weightWord_eq] at replies
    exact ⟨u, row, replies⟩
  · have counted := s.clearCounter_recounted i
    have served := (s.serve_cntrClear t i.val).trans (s.reqCounter_clear_eq t i)
    obtain ⟨u, row, replies⟩ := State.serve_replies_after ready served counted.link
    refine ⟨u, s.clearCounter i, row, replies, State.clearCounter_rest ((State.inv_iff s).mp inv).1.cnt i, counted.frozen,
      counted.same, counted.other, counted.derating.trans (exists_congr fun j => ?_)⟩
    by_cases same : j = i
    · subst same
      simp [counted.same]
    · simp only [counted.other j same, ne_eq, same, not_false_eq_true, true_and]
  · exact State.serve_replies ready ((s.serve_cntrRead t n).trans (s.reqCounter_range t outside false))
  · exact State.serve_replies ready ((s.serve_cntrClear t n).trans (s.reqCounter_range t outside true))
  · intro fs asked old good ready
    generalize written : setupOf i src dur load org side m n der = f
    have fields : fs = f.fields := written ▸ SetupForm.fields_mk ..
    obtain ⟨named, source, whole⟩ : f.index = i.val ∧ f.source = src ∧ f.asked = asked := written ▸ ⟨rfl, rfl, rfl⟩
    have inside : f.inRange = true ↔ good := by
      rw [← written]
      exact setupOf_inRange ..
    rw [fields] at ready ⊢
    have served := s.serve_cntrSetup t f
    refine ⟨fun bad => ?_, fun fine records => ?_, fun fine empty => ?_⟩
    · exact State.serve_replies ready (served.trans (s.reqSetup_range t (mt inside.mp bad)))
    · have made := s.reqSetup_inRange t named (inside.mpr fine)
      rw [if_neg records] at made
      exact State.serve_replies ready (served.trans made)
    · have made := s.reqSetup_inRange t named (inside.mpr fine)
      rw [if_pos empty, whole] at made
      have noted := s.setUpCounter_notes i f
      rw [source] at noted
      have counted := s.setUpCounter_recounted i f
      obtain ⟨u, row, replies⟩ := State.serve_replies_after ready (served.trans made) counted.link
      refine ⟨u, s.setUpCounter i f, old.setUp f, row, replies, ?_, fun run => State.setUpCounter_rest run i f,
        counted.same, counted.other, counted.derating, noted⟩
      rw [← written]
      exact setUp_setupOf ..
  · intro fs ready outside
    have fields : fs = SetupForm.fields ⟨k, src, dur, load, org, side, m, n, d⟩ := SetupForm.fields_mk ..
    rw [fields] at ready ⊢
    refine State.serve_replies ready ((s.serve_cntrSetup t _).trans (s.reqSetup_range t fun inside => ?_))
    obtain ⟨index, -, -, derate, -⟩ := (SetupForm.inRange_iff _).mp inside
    exact outside.elim (absurd index) (absurd derate)
  · exact State.serve_replies_after ready (x := s.setFrozen true) rfl rfl
  · exact State.serve_replies_after ready (x := s.setFrozen false) rfl rfl

end Sys2Proof.Machine
end

section
/-!
SUPPORT. The line of the host link, each operation said once: a character that joins the FIFO or is lost (R174, R175), what the
assembler makes of one that is not CR (R176, R177), a character that is alone on the line (R182), a record that supplants another
(R176), and what is placed in the transmit queue (R183).
-/

namespace Sys2Proof.Machine

/-! ### The receive FIFO (R174, R175, R184) -/

/-- The counts once a character has been received with or without a framing error (R174). -/
def LinkCounts.heard (n : LinkCounts) (framing : Bool) : LinkCounts :=
  { n with framing := if framing then min 65535 (n.framing + 1) else n.framing }

section
variable {l : Link} (c : Ch) (f : Bool)

theorem Link.receive_joins (room : l.fifo.length < 128) :
    l.receive c f = { l with fifo := l.fifo ++ [⟨c, f, false⟩], counts := l.counts.heard f } := if_pos room

theorem Link.receive_lost_again (full : 128 ≤ l.fifo.length) (marked : lastLost l.fifo = true) :
    l.receive c f = { l with counts := l.counts.heard f } :=
  (if_neg (Nat.not_lt.mpr full)).trans (if_pos marked)

theorem Link.receive_lost (full : 128 ≤ l.fifo.length) (unmarked : lastLost l.fifo = false) :
    l.receive c f =
      { l with
        fifo := markLast l.fifo
        counts := { l.counts.heard f with overrun := min 65535 (l.counts.overrun + 1) } } :=
  (if_neg (Nat.not_lt.mpr full)).trans (if_neg (Bool.eq_false_iff.mp unmarked))

theorem Link.receive_alone (empty : l.fifo = []) :
    l.receive c f = { l with fifo := [⟨c, f, false⟩], counts := l.counts.heard f } := by
  rw [Link.receive_joins c f (by rw [empty]; decide), empty]
  rfl

end

theorem markLast_concat (x : RxChar) : ∀ xs : List RxChar, markLast (xs ++ [x]) = xs ++ [{ x with loss := true }]
  | [] => rfl
  | [_] => rfl
  | a :: b :: xs => congrArg (a :: ·) (markLast_concat x (b :: xs))

theorem lastLost_concat (xs : List RxChar) (x : RxChar) : lastLost (xs ++ [x]) = x.loss := by simp [lastLost]

/-- A received character changes the FIFO and the counts alone. -/
theorem Link.receive_same (l : Link) (c : Ch) (f : Bool) :
    l.receive c f = { l with fifo := (l.receive c f).fifo, counts := (l.receive c f).counts } := by
  unfold Link.receive
  dsimp only
  repeat' split
  all_goals rfl

/-- Characters for which there is room join the FIFO one after the other. -/
theorem Link.receive_arrived : ∀ (cs : List Ch) (l : Link), l.fifo.length + cs.length ≤ 128 →
    cs.foldl (fun l c => l.receive c false) l = { l with fifo := l.fifo ++ arrived cs }
  | [], l, _ => by simp [arrived]
  | c :: cs, l, room => by
    rw [List.length_cons] at room
    have joins : l.receive c false = { l with fifo := l.fifo ++ [⟨c, false, false⟩] } := Link.receive_joins c false (by omega)
    have rest := Link.receive_arrived cs (l.receive c false) (by rw [joins, List.length_append, List.length_singleton]; omega)
    rw [List.foldl_cons, rest, joins, List.append_assoc]
    rfl

/-! ### The assembler (R176, R177) -/

/-- Neither CR nor an `@` that begins a record: LF is dropped, damage is marked, and any other character is stored. -/
theorem Link.store_char (l : Link) (text : List Ch) (damaged : Bool) {x : RxChar} (cr : x.c ≠ 0x0D#8)
    (begins : ¬(x.c = 0x40#8 ∧ x.framing = false)) :
    l.store text damaged x =
      { l with
        asm :=
          if x.c = 0x0A#8 then .assembling text (damaged || x.framing)
          else if damaged = true ∨ x.framing = true ∨ x.c.toNat < 32 ∨ x.c.toNat = 127 ∨ 96 ≤ text.length then
            .assembling text true
          else .assembling (text ++ [x.c]) false } := by
  have damage : (damaged || x.framing || isControl x.c || decide (Config.recordCap ≤ text.length)) = true ↔
      damaged = true ∨ x.framing = true ∨ x.c.toNat < 32 ∨ x.c.toNat = 127 ∨ 96 ≤ text.length := by
    simp only [Bool.or_eq_true, isControl, decide_eq_true_iff, or_assoc]
    rfl
  unfold Link.store
  dsimp only
  rw [if_neg cr, if_neg begins]
  simp only [damage]
  repeat' split
  all_goals rfl

theorem Link.store_ends (l : Link) (text : List Ch) : l.store text true ⟨0x0D#8, false, false⟩ = l.damage .hunting := rfl

theorem Link.supplant_hunting {l : Link} (hunting : l.asm = .hunting) : l.supplant = l := by
  simp only [Link.supplant, hunting]

theorem Link.supplant_assembling {l : Link} {text : List Ch} {damaged : Bool} (asm : l.asm = .assembling text damaged) :
    l.supplant = l.damage .hunting := by
  simp only [Link.supplant, asm]

theorem Link.supplant_asm (l : Link) : l.supplant.asm = .hunting := by
  cases asm : l.asm with
  | hunting => rw [Link.supplant_hunting asm, asm]
  | assembling text damaged => rw [Link.supplant_assembling asm]; rfl

/-- To supplant a record changes the assembler and the counts alone. -/
theorem Link.supplant_same (l : Link) : l.supplant = { l with asm := l.supplant.asm, counts := l.supplant.counts } := by
  cases asm : l.asm with
  | hunting => rw [Link.supplant_hunting asm]
  | assembling text damaged => rw [Link.supplant_assembling asm]; rfl

theorem Link.supplant_fifo (l : Link) : l.supplant.fifo = l.fifo := by rw [Link.supplant_same]

theorem Link.supplant_complete (l : Link) : l.supplant.complete = l.complete := by rw [Link.supplant_same]

/-- The FIFO has no part in it. -/
theorem Link.supplant_with_fifo (l : Link) (q : List RxChar) :
    ({ l with fifo := q } : Link).supplant = { l.supplant with fifo := q } := by
  obtain ⟨strap, fifo, asm, complete, tx, feed, calp, sup, counts⟩ := l
  cases asm <;> rfl

/-- An `@` begins a record, and supplants the one in assembly. -/
theorem Link.assemble_begins (l : Link) :
    l.assemble ⟨0x40#8, false, false⟩ = { l.supplant with asm := .assembling [0x40#8] false } := by
  cases asm : l.asm with
  | hunting => rw [Link.assemble_hunting asm, Link.supplant_hunting asm]; rfl
  | assembling text damaged => rw [Link.assemble_assembling asm, Link.supplant_assembling asm]; rfl

/-! ### A character that is alone on the line (R182) -/

/-- Whether processing waits is not decided by what a received character changes. -/
theorem State.receive_waits (s : State) (c : Ch) (f : Bool) :
    State.waits { s with link := s.link.receive c f } = s.waits := by
  rw [Link.receive_same]
  exact State.waits_congr rfl rfl rfl rfl

theorem exec_characterReceived_heard {c : Ch} {f : Bool} (other : ¬(c = 0x21#8 ∧ f = false)) (s : State) :
    exec (.characterReceived c f) s = .next (State.drain { s with link := s.link.receive c f }) :=
  congrArg Host.Outcome.next (if_neg other)

section
variable {s : State} {c : Ch} {f : Bool} {m : Link} (free : s.waits = false) (fifo : s.link.fifo = [])
  (complete : s.link.complete = none) (other : ¬(c = 0x21#8 ∧ f = false))
  (assembled : ({ s.link with counts := s.link.counts.heard f } : Link).assemble ⟨c, f, false⟩ = m)
include free fifo complete other assembled

/-- A character that finds the line empty is taken by the assembler at once. -/
theorem exec_characterReceived_alone :
    exec (.characterReceived c f) s = .next (State.drainFor 3 { s with link := m }) := by
  have line : ({ s.link with fifo := [], counts := s.link.counts.heard f } : Link).assemble ⟨c, f, false⟩ = m := by
    rw [← assembled, ← fifo]
  rw [exec_characterReceived_heard other, Link.receive_alone c f fifo]
  exact congrArg Host.Outcome.next (State.drainFor_assembles
    (s := { s with link := { s.link with fifo := [⟨c, f, false⟩], counts := s.link.counts.heard f } })
    (State.waits_line free) complete rfl line 3)

/-- With no record complete that is all. -/
theorem exec_characterReceived_assembled (unfinished : m.complete = none) :
    exec (.characterReceived c f) s = .next { s with link := m } := by
  have empty : m.fifo = [] := by
    obtain ⟨asm, record, counts, same⟩ :=
      ({ s.link with counts := s.link.counts.heard f } : Link).assemble_same ⟨c, f, false⟩
    rw [← assembled, same]
    exact fifo
  rw [exec_characterReceived_alone free fifo complete other assembled]
  exact congrArg Host.Outcome.next (State.drainFor_empty empty unfinished 3)

end

/-! ### The transmit queue (R183) -/

/-- What is placed stands behind what the queue holds, and what the queue has no room for waits. -/
theorem Link.place_splits {l : Link} (bound : l.tx.length ≤ 256) (text : List Ch) :
    (l.place text).tx ++ (l.place text).feed = l.tx ++ text ∧
      ((l.place text).feed = [] ∨ (l.place text).tx.length = 256) := by
  simp only [Link.place, Link.room, Config.txCap, List.append_assoc, List.take_append_drop, true_and, List.drop_eq_nil_iff,
    List.length_append, List.length_take]
  omega

/-- A reply in the words of R183, whoever it is named after. -/
theorem State.place_answers {s : State} (bound : s.link.tx.length ≤ 256) (t : Tag) (name : List Ch) (w : String)
    (fs : List Field) : s.answers { s with link := s.link.place (replyText t name w fs) } t name w fs :=
  ⟨rfl, Link.place_splits bound _⟩

end Sys2Proof.Machine
end

section
/-!
The host link's line: a record read back (O9), the FIFO while processing waits (O10), the assembler (O11), the CR that ends a
record (O12) and the transmitter (O15), in the terms of R174 to R179 and R182 to R184.
-/

namespace Sys2Proof.Machine

/-- Settles O9: the fields fit, so the judgement gives each of them back. -/
theorem requestRecordsReadBack : Obligations.RequestRecordsReadBack := fun r fits =>
  judgeText_recordText ((Request.fits_iff r).mp fits).1

/-! ### While processing waits (R175, R182) -/

/-- A received character does nothing but join the FIFO or be lost. -/
theorem exec_characterReceived_waits {s : State} {c : Ch} {f : Bool} (waits : s.waits = true)
    (other : ¬(c = 0x21#8 ∧ f = false)) :
    exec (.characterReceived c f) s = .next { s with link := s.link.receive c f } := by
  rw [exec_characterReceived_heard other, State.drain_waits ((s.receive_waits c f).trans waits)]

/-- A whole request joins the FIFO with its CR, where there is room for them. -/
theorem State.deliver_waits {s : State} {r : Request} (waits : s.waits = true)
    (room : s.link.fifo.length + (recordText r).length + 1 ≤ 128) :
    s.deliver r = { s with link := { s.link with fifo := s.link.fifo ++ arrived (recordText r ++ [0x0D#8]) } } := by
  have joined := Link.receive_arrived (recordText r ++ [0x0D#8]) s.link
    (by rw [List.length_append, List.length_singleton]; omega)
  exact (if_pos waits).trans (by rw [State.receiveAll, joined])

/-- Settles O10, by whether the FIFO has room and, where it is full, whether its newest character is marked already. -/
theorem waitingLinkFillsFifo : Obligations.WaitingLinkFillsFifo := by
  unfold Obligations.WaitingLinkFillsFifo
  refine ⟨fun s c f waits other => ⟨_, exec_characterReceived_waits waits other, ?_⟩, fun s i r request waits room =>
    (exec_of_request request s).trans (by rw [State.deliver_waits waits room]; rfl)⟩
  by_cases room : s.link.fifo.length < 128
  · rw [Link.receive_joins c f room]
    have kept : s.link.fifo.length < 128 ∨ ∃ x, s.link.fifo.getLast? = some x ∧ x.loss = true := .inl room
    exact ⟨rfl, by rw [if_pos kept]; rfl, fun _ => rfl, fun full => absurd room (Nat.not_lt.mpr full)⟩
  · have full : 128 ≤ s.link.fifo.length := Nat.not_lt.mp room
    obtain ⟨xs, x, fifo⟩ : ∃ xs x, s.link.fifo = xs ++ [x] :=
      (List.eq_nil_or_concat' s.link.fifo).resolve_left fun empty => by simp [empty] at full
    have newest : s.link.fifo.getLast? = some x := by rw [fifo, List.getLast?_concat]
    have lost : lastLost s.link.fifo = x.loss := by rw [fifo, lastLost_concat]
    cases mark : x.loss with
    | true =>
      rw [Link.receive_lost_again c f full (lost.trans mark)]
      have marked : x = { x with loss := true } := by rw [← mark]
      have kept : s.link.fifo.length < 128 ∨ ∃ x, s.link.fifo.getLast? = some x ∧ x.loss = true :=
        .inr ⟨x, newest, mark⟩
      exact ⟨rfl, by rw [if_pos kept]; rfl, fun h => absurd h room,
        fun _ => ⟨rfl, rfl, x, x, newest, newest, marked⟩⟩
    | false =>
      rw [Link.receive_lost c f full (lost.trans mark)]
      have unmarked : ¬(s.link.fifo.length < 128 ∨ ∃ y, s.link.fifo.getLast? = some y ∧ y.loss = true) := by
        rintro (h | ⟨y, hy, h⟩)
        · exact room h
        · obtain rfl : x = y := Option.some.inj (newest.symm.trans hy)
          exact absurd h (by rw [mark]; nofun)
      refine ⟨rfl, by rw [if_neg unmarked]; rfl, fun h => absurd h room, fun _ => ?_⟩
      simp [fifo, markLast_concat]

/-! ### The assembler (R176, R177) -/

/-- Settles O11: hunting and assembling, each with an `@` that begins a record and with any other character. -/
theorem characterAssembled : Obligations.CharacterAssembled := by
  unfold Obligations.CharacterAssembled
  intro s c f free fifo complete cr other
  by_cases begins : c = 0x40#8 ∧ f = false
  · obtain ⟨rfl, rfl⟩ := begins
    refine ⟨_, exec_characterReceived_assembled free fifo complete other s.link.assemble_begins
      (s.link.supplant_complete.trans complete), ?_⟩
    · cases asm : s.link.asm with
      | hunting =>
        have idle : ¬(Assembler.hunting ≠ .hunting ∧ (0x40#8 : Ch) = 0x40#8 ∧ false = false) := fun h => h.1 rfl
        rw [Link.supplant_hunting asm]
        exact ⟨rfl, by rw [if_neg idle]; rfl, fun _ => rfl, fun h => absurd ⟨rfl, rfl⟩ h, nofun⟩
      | assembling text damaged =>
        have damages : Assembler.assembling text damaged ≠ .hunting ∧ (0x40#8 : Ch) = 0x40#8 ∧ false = false :=
          ⟨nofun, rfl, rfl⟩
        rw [Link.supplant_assembling asm]
        exact ⟨rfl, by rw [if_pos damages]; rfl, fun _ => rfl, fun h => absurd ⟨rfl, rfl⟩ h,
          fun _ _ _ h => absurd ⟨rfl, rfl⟩ h⟩
  · have undamaged (a : Assembler) : ¬(a ≠ .hunting ∧ c = 0x40#8 ∧ f = false) := fun h => begins h.2
    cases asm : s.link.asm with
    | hunting =>
      have assembled := (Link.assemble_hunting (l := { s.link with counts := s.link.counts.heard f }) asm ⟨c, f, false⟩).trans
        (if_neg begins)
      refine ⟨_, exec_characterReceived_assembled free fifo complete other assembled complete, rfl, ?_,
        fun h => absurd h begins, fun _ _ => asm, nofun⟩
      rw [if_neg (undamaged _)]
      rfl
    | assembling text damaged =>
      have assembled := (Link.assemble_assembling (l := { s.link with counts := s.link.counts.heard f }) asm ⟨c, f, false⟩).trans
        (Link.store_char _ text damaged cr begins)
      refine ⟨_, exec_characterReceived_assembled free fifo complete other assembled complete, rfl, ?_,
        fun h => absurd h begins, nofun, fun _ _ same _ => ?_⟩
      · rw [if_neg (undamaged _)]
        rfl
      · cases same
        rfl

/-! ### The CR that ends a record (R176, R178) -/

/-- Settles O12: an undamaged record is judged to be its request and leaves nothing more to take; a damaged one is counted. -/
theorem recordEndServesRequest : Obligations.RecordEndServesRequest := by
  unfold Obligations.RecordEndServesRequest
  refine ⟨fun s i r request fits free fifo complete asm => ?_, fun s text free fifo complete asm => ?_⟩
  · obtain ⟨fields, length⟩ := (Request.fits_iff r).mp fits
    set ended : State := { s with link := { s.link with asm := .hunting } }
    have ready : ended.ready r := ⟨State.waits_line free, rfl, length⟩
    have served : State.process { ended with link := { ended.link with complete := none } } (recordText r) = ended.serve r := by
      have same : { ended with link := { ended.link with complete := none } } = ended := by rw [← complete]
      rw [same, State.process, judgeText_recordText fields]
    have line := ended.serve_sameLine r
    have taken := State.drainFor_record (s := { s with link := { s.link with asm := .hunting, complete := some (recordText r) } })
      (State.waits_line free) rfl 2
    have assembled := Link.assemble_cr (l := { s.link with counts := s.link.counts.heard false }) asm
    rw [exec_of_request request, State.deliver_ready ready,
      exec_characterReceived_alone free fifo complete (by decide) assembled]
    refine congrArg Host.Outcome.next (taken.trans ?_)
    rw [← State.drainFor_empty (line.fifo.trans fifo) (line.complete.trans complete) 2, ← served]
  · have assembled := (Link.assemble_assembling (l := { s.link with counts := s.link.counts.heard false }) asm
      ⟨0x0D#8, false, false⟩).trans (Link.store_ends _ text)
    exact exec_characterReceived_assembled free fifo complete (by decide) assembled complete

/-! ### What waits is taken (R176, R182) -/

theorem State.supplant_waits {s : State} (free : s.waits = false) :
    State.waits { s with link := s.link.supplant } = false := by
  rw [Link.supplant_same]
  exact State.waits_line free

/-- An `@` in the FIFO discards the record in assembly, which may as well be discarded before the FIFO is taken. -/
theorem State.drain_begins {s : State} {rest : List RxChar} (free : s.waits = false) (complete : s.link.complete = none)
    (fifo : s.link.fifo = ⟨0x40#8, false, false⟩ :: rest) :
    s.drain = State.drain { s with link := s.link.supplant } := by
  have same := s.link.supplant_fifo
  have first : ({ s.link with fifo := rest } : Link).assemble ⟨0x40#8, false, false⟩ =
      { s.link.supplant with fifo := rest, asm := .assembling [0x40#8] false } := by
    rw [Link.assemble_begins, Link.supplant_with_fifo]
  have second : ({ s.link.supplant with fifo := rest } : Link).assemble ⟨0x40#8, false, false⟩ =
      { s.link.supplant with fifo := rest, asm := .assembling [0x40#8] false } := by
    rw [Link.assemble_begins, Link.supplant_hunting (l := { s.link.supplant with fifo := rest }) s.link.supplant_asm]
  have left := State.drainFor_assembles free complete fifo first (2 * s.link.fifo.length + 1)
  have right := State.drainFor_assembles (s := { s with link := s.link.supplant }) (State.supplant_waits free)
    (s.link.supplant_complete.trans complete) (same.trans fifo) second (2 * s.link.fifo.length + 1)
  show State.drainFor (2 * s.link.fifo.length + 2) s = State.drainFor (2 * s.link.supplant.fifo.length + 2) _
  rw [same]
  exact left.trans right.symm

/-- A whole request that arrives discards the record in assembly too. -/
theorem State.deliver_supplant {s : State} (free : s.waits = false) (r : Request) :
    State.deliver { s with link := s.link.supplant } r = s.deliver r := by
  simp only [State.deliver, free, State.supplant_waits free, Bool.false_eq_true, if_false,
    Link.supplant_hunting s.link.supplant_asm]

/-- A whole request in the FIFO is taken as its row, whatever the assembler holds (R176, log entry 14). -/
theorem State.drain_takes_request {s : State} (free : s.waits = false) (complete : s.link.complete = none) {i : Instr}
    {r : Request} (request : i.request = some r) (fits : r.fits = true)
    (fifo : s.link.fifo = arrived (recordText r ++ [0x0D#8])) :
    exec i { s with link := { s.link with fifo := [] } } = .next s.drain := by
  have same := s.link.supplant_fifo
  have hunting := State.drain_request (s := { s with link := s.link.supplant }) (State.supplant_waits free)
    (s.link.supplant_complete.trans complete) s.link.supplant_asm request fits (same.trans fifo)
  have early := State.deliver_supplant (s := { s with link := { s.link with fifo := [] } }) (State.waits_line free) r
  rw [Link.supplant_with_fifo] at early
  rw [exec_of_request request] at hunting ⊢
  rw [State.drain_begins free complete fifo, ← hunting, ← early]

/-! ### The transmitter (R182, R183) -/

/-- What makes processing wait (R182). -/
theorem State.waits_true_iff (s : State) :
    s.waits = true ↔ s.startup.reading = true ∨ 16 < s.link.tx.length ∨ s.link.feed ≠ [] ∨ s.link.calp.isSome = true := by
  cases reading : s.startup.reading with
  | true => simp [State.waits, reading]
  | false => simpa using State.waits_iff reading

/-- The row sends the head, and what waits is then taken. -/
theorem exec_transmitCharacterSent_head {s : State} {c : Ch} {rest : List Ch} (head : s.link.tx = c :: rest) :
    exec .transmitCharacterSent s = .next (State.drain { s with link := s.link.sent }) :=
  congrArg Host.Outcome.next (if_neg (by rw [head]; nofun))

section
variable {s : State} {c : Ch} {rest : List Ch} (bounds : s.inv = true) (head : s.link.tx = c :: rest)
include bounds head

/-- The head goes, and the rest of a reply moves up into the room. -/
theorem State.sent_splits :
    s.link.sent.tx ++ s.link.sent.feed = rest ++ s.link.feed ∧
      (s.link.sent.feed = [] ∨ s.link.sent.tx.length = 256) := by
  obtain ⟨-, bound, -⟩ := (Link.wf_iff _).mp ((State.inv_iff s).mp bounds).1.link
  have tail : s.link.tx.drop 1 = rest := by rw [head]; rfl
  have placed := Link.place_splits (l := { s.link with tx := s.link.tx.drop 1 })
    (by rw [List.length_drop]; omega) s.link.feed
  rwa [show ({ s.link with tx := s.link.tx.drop 1 } : Link).tx = rest from tail] at placed

theorem State.sent_waits_iff :
    State.waits { s with link := s.link.sent } = true ↔
      16 < (rest ++ s.link.feed).length ∨ s.startup.reading = true ∨ s.link.calp.isSome = true := by
  obtain ⟨left, full⟩ := State.sent_splits bounds head
  have length := congrArg List.length left
  rw [State.waits_true_iff]
  show s.startup.reading = true ∨ 16 < s.link.sent.tx.length ∨ s.link.sent.feed ≠ [] ∨ s.link.calp.isSome = true ↔ _
  rw [List.length_append] at length
  rcases full with empty | full
  · rw [empty, List.length_nil, Nat.add_zero] at length
    rw [← length, empty]
    tauto
  · have many : 16 < (rest ++ s.link.feed).length := by omega
    have queued : 16 < s.link.sent.tx.length := by omega
    simp only [many, queued, true_or, or_true]

/-- Where processing does not wait the whole rest is in the queue. -/
theorem State.sent_all (few : ¬16 < (rest ++ s.link.feed).length) :
    s.link.sent = { s.link with tx := rest ++ s.link.feed, feed := [] } := by
  obtain ⟨left, full⟩ := State.sent_splits bounds head
  have empty : s.link.sent.feed = [] := by
    refine full.resolve_right fun many => few ?_
    rw [← left, List.length_append]
    omega
  have all : s.link.sent.tx = rest ++ s.link.feed := by rw [← left, empty, List.append_nil]
  rw [← empty, ← all]
  rfl

end

/-- Settles O15: the queue after its head is sent, then the drain by what stands on the line. -/
theorem transmitterSendsHead : Obligations.TransmitterSendsHead := by
  unfold Obligations.TransmitterSendsHead
  refine ⟨fun s c rest bounds fifo complete head => ?_, fun s c rest bounds head => ?_, fun s empty => ?_⟩
  · rw [exec_transmitCharacterSent_head head, State.drain_empty (s := { s with link := s.link.sent }) fifo complete]
    exact ⟨_, rfl, rfl, State.sent_splits bounds head⟩
  · intro left freed waits
    have iff : State.waits { s with link := s.link.sent } = true ↔ waits := State.sent_waits_iff bounds head
    rw [exec_transmitCharacterSent_head head]
    refine ⟨fun h => ?_, fun go complete x fifo other => ?_, fun go complete i r request fits fifo => ?_, _, rfl, ?_⟩
    · rw [State.drain_waits (iff.mpr h)]
      exact ⟨_, rfl, rfl, State.sent_splits bounds head⟩
    · have sent := State.sent_all bounds head fun many => go (.inl many)
      rw [← State.drain_char (s := { s with link := s.link.sent }) fifo other, sent]
    · have sent := State.sent_all bounds head fun many => go (.inl many)
      have free : State.waits { s with link := s.link.sent } = false := Bool.eq_false_iff.mpr (mt iff.mp go)
      rw [← State.drain_takes_request free complete request fits fifo, sent]
    · rcases State.drain_ends { s with link := s.link.sent } with ended | ended
      · rcases (State.waits_true_iff _).mp ended with reading | room | feed | calp
        · exact .inr (.inl reading)
        · exact .inr (.inr (.inr (.inr room)))
        · exact .inr (.inr (.inr (.inl feed)))
        · exact .inr (.inr (.inl calp))
      · exact .inl ended
  · exact congrArg Host.Outcome.next (if_pos (by rw [empty]; rfl))

end Sys2Proof.Machine
end

section
/-!
SUPPORT. The judgement of any text: its check, its tag and its name (R178), and its fields, each of which is of a form of R179 or
stays as it stands.
-/

namespace Sys2Proof.Machine

/-! ### Hexadecimal digits (R178) -/

/-- A digit or a capital letter A to F. -/
def HexDigit (c : Ch) : Prop := (0x30 ≤ c.toNat ∧ c.toNat ≤ 0x39) ∨ (0x41 ≤ c.toNat ∧ c.toNat ≤ 0x46)

/-- What a hexadecimal digit counts for. -/
def hexValue (c : Ch) : Nat := if c.toNat ≤ 0x39 then c.toNat - 0x30 else c.toNat - 0x37

/-- What two hexadecimal digits write. -/
def byteValue (a b : Ch) : Nat := 16 * hexValue a + hexValue b

theorem isHex_iff (c : Ch) : isHex c = true ↔ HexDigit c := by simp [isHex, isDigit_iff, HexDigit]

theorem HexDigit.value {c : Ch} (hex : HexDigit c) : hexVal c = hexValue c ∧ hexValue c < 16 := by
  have digit : isDigit c = true ↔ c.toNat ≤ 0x39 := by
    rw [isDigit_iff]
    unfold HexDigit at hex
    omega
  unfold HexDigit at hex
  simp only [hexVal, hexValue, digit, true_and]
  split <;> omega

theorem tagOf_eq {a b : Ch} (ha : HexDigit a) (hb : HexDigit b) : tagOf a b = BitVec.ofNat 8 (byteValue a b) := by
  rw [tagOf, ha.value.1, hb.value.1, byteValue]

theorem byteValue_lt {a b : Ch} (ha : HexDigit a) (hb : HexDigit b) : byteValue a b < 256 := by
  have high := ha.value.2
  have low := hb.value.2
  unfold byteValue
  omega

theorem HexDigit.ne_star {c : Ch} (hex : HexDigit c) : c ≠ 0x2A#8 := by
  rintro rfl
  exact absurd ((isHex_iff _).mpr hex) (by decide)

/-! ### The check (R178, step 1) -/

theorem sumOf_toNat (cs : List Ch) : (sumOf cs).toNat = (cs.map (·.toNat)).sum % 256 := by
  have from_ (b : BitVec 8) : (cs.foldl (· + ·) b).toNat = (b.toNat + (cs.map (·.toNat)).sum) % 256 := by
    induction cs generalizing b with
    | nil => simpa using (Nat.mod_eq_of_lt b.isLt).symm
    | cons c cs ih =>
      rw [List.foldl_cons, ih, BitVec.toNat_add, List.map_cons, List.sum_cons]
      omega
  exact (from_ 0).trans (by simp)

/-- A text that ends with the check of what stands before it. -/
def Checked (body main : List Ch) : Prop :=
  ∃ a b, body = main ++ [0x2A#8, a, b] ∧ HexDigit a ∧ HexDigit b ∧ byteValue a b = (main.map (·.toNat)).sum % 256

theorem checks_iff (main check : List Ch) : checks main check = true ↔ Checked (main ++ check) main := by
  have sums {a b : Ch} (ha : HexDigit a) (hb : HexDigit b) :
      tagOf a b = sumOf main ↔ byteValue a b = (main.map (·.toNat)).sum % 256 := by
    rw [tagOf_eq ha hb, ← BitVec.toNat_inj, sumOf_toNat, BitVec.toNat_ofNat, Nat.mod_eq_of_lt (byteValue_lt ha hb)]
  constructor
  · intro checked
    unfold checks at checked
    split at checked
    · next star a b =>
      simp only [Bool.and_eq_true, beq_iff_eq, isHex_iff] at checked
      obtain ⟨⟨⟨rfl, ha⟩, hb⟩, sum⟩ := checked
      exact ⟨a, b, rfl, ha, hb, (sums ha hb).mp sum⟩
    · cases checked
  · rintro ⟨a, b, same, ha, hb, sum⟩
    obtain rfl := List.append_cancel_left same
    simp [checks, isHex_iff, ha, hb, (sums ha hb).mpr sum]

/-- Two hexadecimal digits in front are not the check. -/
theorem Checked.main_cons {x y : Ch} {rest main : List Ch} (checked : Checked (x :: y :: rest) main) (hx : HexDigit x)
    (hy : HexDigit y) : ∃ tail, main = x :: y :: tail := by
  obtain ⟨a, b, same, -⟩ := checked
  match main, same with
  | [], same => exact absurd (List.cons.inj same).1 hx.ne_star
  | [_], same => exact absurd (List.cons.inj (List.cons.inj same).2).1 hy.ne_star
  | _ :: _ :: tail, same =>
    obtain ⟨first, same⟩ := List.cons.inj same
    exact ⟨tail, by rw [first, (List.cons.inj same).1]⟩

/-! ### The tag (R178, steps 1 and 2) -/

theorem readTag_hex {x y : Ch} (hx : HexDigit x) (hy : HexDigit y) (rest : List Ch) :
    readTag (x :: y :: rest) = some (BitVec.ofNat 8 (byteValue x y)) := by
  simp [readTag, isHex_iff, hx, hy, tagOf_eq hx hy]

theorem readTag_none {body : List Ch} (untagged : ∀ x y rest, body = x :: y :: rest → ¬(HexDigit x ∧ HexDigit y)) :
    readTag body = none := by
  unfold readTag
  split
  · next x y rest =>
    refine if_neg fun hex => untagged x y rest rfl ?_
    rwa [Bool.and_eq_true, isHex_iff, isHex_iff] at hex
  · rfl

/-- A text cut short has the tag of the whole, or none. -/
theorem readTag_take {body : List Ch} (untagged : readTag body = none) : ∀ n, readTag (body.take n) = none
  | 0 | 1 => by cases body <;> rfl
  | n + 2 => by
    match body, untagged with
    | [], _ | [_], _ => rfl
    | _ :: _ :: _, untagged => exact untagged

/-! ### The steps (R178) -/

section
variable {body : List Ch} (start : Ch)

theorem judgeText_silent (untagged : readTag body = none) : judgeText (start :: body) = .silent := by
  simp only [judgeText, List.drop_succ_cons, List.drop_zero, untagged, readTag_take untagged, ite_self]

theorem judgeText_csum (unchecked : ∀ main, ¬Checked body main) {t : Tag} (tag : readTag body = some t) :
    judgeText (start :: body) = .csum t := by
  have fails : ¬checks (body.take (body.length - 3)) (body.drop (body.length - 3)) = true := by
    rw [checks_iff, List.take_append_drop]
    exact unchecked _
  simp only [judgeText, List.drop_succ_cons, List.drop_zero, if_neg fails, tag]

theorem judgeText_checked {main : List Ch} (checked : Checked body main) {t : Tag} (tag : readTag main = some t) :
    judgeText (start :: body) = judgeName t (main.drop 2) := by
  have passes := checked
  obtain ⟨a, b, rfl, -⟩ := checked
  rw [← checks_iff] at passes
  have length : (main ++ [0x2A#8, a, b]).length - 3 = main.length := by simp
  simp only [judgeText, List.drop_succ_cons, List.drop_zero, length, List.take_left, List.drop_left, if_pos passes, tag]

end

/-! ### The name (R178, steps 3 and 4) -/

/-- A text that begins with a name of four capital letters, up to a comma or the end. -/
def Named (text name tail : List Ch) : Prop :=
  text = name ++ tail ∧ name.length = 4 ∧ (∀ c ∈ name, 0x41 ≤ c.toNat ∧ c.toNat ≤ 0x5A) ∧
    (tail = [] ∨ tail.head? = some 0x2C#8)

theorem Named.judged {text name tail : List Ch} (named : Named text name tail) (t : Tag) :
    judgeName t text =
      match reading allReqs reqWord (textOf name) with
      | some n => .request ⟨t, n, readFields tail⟩
      | none => .unknown t name := by
  obtain ⟨rfl, four, upper, ends⟩ := named
  match name, four with
  | [a, b, c, d], _ =>
    have fits : ([a, b, c, d].all isUpper && (tail.isEmpty || tail.head? == some 0x2C#8)) = true := by
      rw [Bool.and_eq_true, Bool.or_eq_true, List.isEmpty_iff, beq_iff_eq]
      exact ⟨List.all_eq_true.mpr fun e mem => (isUpper_iff e).mpr (upper e mem), ends⟩
    exact if_pos fits

theorem judgeName_badName {text : List Ch} (unnamed : ∀ name tail, ¬Named text name tail) (t : Tag) :
    judgeName t text = .badName t := by
  unfold judgeName
  split
  · next a b c d rest =>
    refine if_neg fun fits => unnamed [a, b, c, d] rest ?_
    rw [Bool.and_eq_true, Bool.or_eq_true, List.isEmpty_iff, beq_iff_eq, List.all_eq_true] at fits
    exact ⟨rfl, rfl, fun e mem => (isUpper_iff e).mp (fits.1 e mem), fits.2⟩
  · rfl

theorem chars_textOf (cs : List Ch) : chars (textOf cs) = cs := by
  have back (c : Ch) : BitVec.ofNat 8 (Char.ofNat c.toNat).toNat = c := by
    have valid : c.toNat.isValidChar := .inl (by omega)
    rw [Char.toNat_ofNat, if_pos valid, BitVec.ofNat_toNat, BitVec.setWidth_eq]
  rw [chars, textOf, String.toList_ofList, List.map_map]
  exact (List.map_congr_left fun c _ => back c).trans (List.map_id _)

theorem mem_allReqs (n : ReqName) : n ∈ allReqs := by cases n <;> decide

theorem reqWords_nodup : (allReqs.map reqWord).Nodup := by decide

theorem textOf_chars_reqWord (n : ReqName) : textOf (chars (reqWord n)) = reqWord n := by cases n <;> decide

theorem Named.unknown {text name tail : List Ch} (named : Named text name tail)
    (unknown : ∀ w ∈ allReqs.map reqWord, chars w ≠ name) (t : Tag) : judgeName t text = .unknown t name := by
  have none : reading allReqs reqWord (textOf name) = none :=
    reading_none_iff.mpr fun n mem same => unknown _ (List.mem_map_of_mem mem) (by rw [same, chars_textOf])
  rw [named.judged, none]

theorem Named.request {text tail : List Ch} {n : ReqName} (named : Named text (chars (reqWord n)) tail) (t : Tag) :
    judgeName t text = .request ⟨t, n, readFields tail⟩ := by
  rw [named.judged, textOf_chars_reqWord, reading_word reqWords_nodup (mem_allReqs n)]

/-! ### The fields (R178, step 5, and R179) -/

/-- One to six digits, with or without a sign. -/
def NumberForm (n : List Ch) : Prop :=
  ∃ ds, (n = ds ∨ n = 0x2D#8 :: ds) ∧ 1 ≤ ds.length ∧ ds.length ≤ 6 ∧ ∀ c ∈ ds, 0x30 ≤ c.toNat ∧ c.toNat ≤ 0x39

/-- A capital letter and up to eleven more capital letters or digits. -/
def WordForm (w : List Ch) : Prop :=
  w.length ≤ 12 ∧ (∃ c rest, w = c :: rest ∧ 0x41 ≤ c.toNat ∧ c.toNat ≤ 0x5A) ∧
    ∀ c ∈ w, (0x41 ≤ c.toNat ∧ c.toNat ≤ 0x5A) ∨ (0x30 ≤ c.toNat ∧ c.toNat ≤ 0x39)

/-- One of the three forms. -/
def FieldForm (f : List Ch) : Prop :=
  NumberForm f ∨ WordForm f ∨ ∃ w n, f = w ++ 0x3D#8 :: n ∧ WordForm w ∧ NumberForm n

theorem readNum_form {cs : List Ch} {n : Int} (read : readNum cs = some n) : NumberForm cs := by
  have digits {ds : List Ch} {k : Nat} (read : readNat ds = some k) :
      1 ≤ ds.length ∧ ds.length ≤ 6 ∧ ∀ c ∈ ds, 0x30 ≤ c.toNat ∧ c.toNat ≤ 0x39 := by
    unfold readNat at read
    split at read
    · next form =>
      simp only [Bool.and_eq_true, decide_eq_true_eq, List.all_eq_true, isDigit_iff, and_assoc] at form
      exact form
    · cases read
  unfold readNum at read
  split at read
  · cases read
  · next c rest =>
    split at read
    · next sign =>
      cases ds : readNat rest with
      | none => rw [ds] at read; cases read
      | some k => exact ⟨rest, .inr (by rw [sign]), digits ds⟩
    · cases ds : readNat (c :: rest) with
      | none => rw [ds] at read; cases read
      | some k => exact ⟨c :: rest, .inl rfl, digits ds⟩

theorem isWord_form {cs : List Ch} (word : isWord cs = true) : WordForm cs := by
  obtain ⟨c, rest, rfl, upper, all⟩ := isWord_cons word
  simp only [isWord, Bool.and_eq_true, decide_eq_true_eq] at word
  exact ⟨Nat.succ_le_succ word.2, ⟨c, rest, rfl, (isUpper_iff c).mp upper⟩,
    fun d mem => (all d mem).imp (isUpper_iff d).mp (isDigit_iff d).mp⟩

theorem splitEq_form : ∀ {cs a b : List Ch}, splitEq cs = some (a, b) → cs = a ++ 0x3D#8 :: b
  | c :: rest, a, b, found => by
    unfold splitEq at found
    split at found
    · next equals =>
      cases found
      rw [equals]
      rfl
    · obtain ⟨⟨d, e⟩, behind, same⟩ := Option.map_eq_some_iff.mp found
      obtain ⟨rfl, rfl⟩ := Prod.mk.inj same
      exact congrArg (c :: ·) (splitEq_form behind)

/-- A text between commas that is of no form is kept as it stands. -/
theorem readField_bad {cs : List Ch} (unformed : ¬FieldForm cs) : readField cs = .bad cs := by
  unfold readField
  split
  · next n number => exact absurd (.inl (readNum_form number)) unformed
  · split
    · next word => exact absurd (.inr (.inl (isWord_form word))) unformed
    · split
      · next a b found =>
        split
        · next n number =>
          split
          · next word =>
            exact absurd (.inr (.inr ⟨a, b, splitEq_form found, isWord_form word, readNum_form number⟩)) unformed
          · rfl
        · rfl
      · rfl

/-- A piece without a comma, at the end or up to a comma, is the first of the pieces. -/
theorem splitCommas_piece {f after : List Ch} (plain : 0x2C#8 ∉ f) (ends : after = [] ∨ after.head? = some 0x2C#8) :
    f ∈ splitCommas (f ++ after) := by
  have first : ∃ pieces, splitCommas (f ++ after) = f :: pieces := by
    induction f with
    | nil =>
      cases after with
      | nil => exact ⟨[], rfl⟩
      | cons c after =>
        obtain rfl : c = 0x2C#8 := by simpa using ends
        exact ⟨_, if_pos rfl⟩
    | cons c f ih =>
      rw [List.mem_cons, not_or] at plain
      obtain ⟨pieces, split⟩ := ih plain.2
      exact ⟨pieces, by rw [List.cons_append, splitCommas, if_neg (Ne.symm plain.1), split]⟩
  obtain ⟨pieces, split⟩ := first
  rw [split]
  exact List.mem_cons_self

/-- A piece of what stands behind a comma is a piece of the whole, and not its first. -/
theorem splitCommas_behind {f rest : List Ch} (piece : f ∈ splitCommas rest) :
    ∀ before : List Ch, f ∈ (splitCommas (before ++ 0x2C#8 :: rest)).tail
  | [] => piece
  | c :: before => by
    have inner := splitCommas_behind piece before
    rw [List.cons_append, splitCommas]
    split
    · exact List.mem_of_mem_tail inner
    · split
      · next none => rw [none] at inner; cases inner
      · next pieces => rw [pieces] at inner; exact inner

/-- A field of no form stands among the fields that are read, wherever it stands in the text. -/
theorem readFields_bad {f after : List Ch} (plain : 0x2C#8 ∉ f) (ends : after = [] ∨ after.head? = some 0x2C#8)
    (unformed : ¬FieldForm f) (before : List Ch) : .bad f ∈ readFields (before ++ 0x2C#8 :: (f ++ after)) := by
  have piece := splitCommas_piece plain ends
  rw [← readField_bad unformed]
  cases before with
  | nil => exact List.mem_map_of_mem piece
  | cons c before => exact List.mem_map_of_mem (List.mem_of_mem_tail (splitCommas_behind piece before))

end Sys2Proof.Machine
end

section
/-!
SUPPORT. A request with a field of no form is answered `SYNTAX`, whichever request it is: no operand form takes such a field
(R178, step 5).
-/

namespace Sys2Proof.Machine

/-! ### The operand forms -/

section
variable {fs : List Field} {text : List Ch} (bad : .bad text ∈ fs)
include bad

theorem moveOptions_bad : moveOptions fs = none := by
  unfold moveOptions
  split
  case h_6 => rfl
  all_goals simp at bad

theorem readSeqn_bad : readSeqn fs = none := by
  unfold readSeqn
  split
  · simp at bad
  · rfl

theorem readCalp_bad : readCalp fs = none := by
  unfold readCalp
  split
  · simp at bad
  · rfl

theorem readSetup_bad : readSetup fs = none := by
  unfold readSetup
  split
  · simp at bad
  · rfl

theorem readBeac_bad : readBeac fs = none := by
  unfold readBeac
  split
  · next x w =>
    obtain rfl : .bad text = x := by simpa using bad
    rfl
  · rfl

theorem readKinds_bad : readKinds fs = none :=
  Option.eq_none_iff_forall_ne_some.mpr fun ks read => by
    obtain ⟨-, -, rfl⟩ := (readKinds_iff _ ks).mp read
    simp at bad

end

section
variable {fs : List Field} {text : List Ch} (bad : .bad text ∈ fs)
include bad

/-- A field behind one that is a number or a word is none of the options. -/
theorem moveOptions_behind_bad {f : Field} {opts : List Field} (split : fs = f :: opts) (other : f ≠ .bad text) :
    moveOptions opts = none := by
  rw [split] at bad
  exact moveOptions_bad ((List.mem_cons.mp bad).resolve_left (Ne.symm other))

theorem moveRest_bad (k : Kind) : moveRest k fs = none := by
  unfold moveRest
  split
  case h_1 | h_2 => simp only [moveOptions_behind_bad bad rfl nofun, Option.map_none]
  case h_3 | h_4 | h_5 => simp only [moveOptions_bad bad, Option.map_none]
  case h_6 w opts | h_7 w opts =>
    rw [moveOptions_behind_bad bad rfl nofun]
    cases reading allSides sideWord w <;> rfl
  case h_8 => rfl

theorem readMove_bad : readMove fs = none := by
  unfold readMove
  split
  · simp only [List.mem_cons, reduceCtorEq, false_or] at bad
    split
    · exact moveRest_bad bad _
    · rfl
  · rfl

theorem readEntry_bad : readEntry fs = none :=
  Option.eq_none_iff_forall_ne_some.mpr fun (a, role) read => by
    cases role with
    | none =>
      rw [readEntry_none_role read] at bad
      simp at bad
    | some r =>
      obtain ⟨-, role, side, rest, rfl, roled⟩ := (readEntry_role_iff fs a r).mp read
      obtain ⟨ks, kinds, -⟩ := (readRole_iff role side rest r).mp roled
      simp only [List.mem_cons, reduceCtorEq, false_or] at bad
      rw [readKinds_bad bad] at kinds
      cases kinds

theorem Settings.change_bad (w : Settings) (n : SettingName) : w.change n fs = .inl "SYNTAX" := by
  cases n with
  | plain p => exact (w.change_otherForm fs).1 (fun v same => by simp [same] at bad) p
  | cal c hi => exact (w.change_otherForm fs).2 (fun code v m same => by simp [same] at bad) c hi
  | stn i => simp only [Settings.change, readEntry_bad bad]

/-! ### The requests -/

variable (s : State) (t : Tag)

theorem State.reqCntr_bad : s.reqCntr t fs = s.answer t .cntr "SYNTAX" [] := by
  unfold State.reqCntr
  split
  case h_3 =>
    simp only [List.mem_cons, reduceCtorEq, false_or] at bad
    simp only [State.reqSetup, readSetup_bad bad]
  case h_6 => rfl
  all_goals simp at bad

theorem State.reqSetv_bad : s.reqSetv t fs = s.answer t .setv "SYNTAX" [] := by
  unfold State.reqSetv
  split
  · simp only [List.mem_cons, reduceCtorEq, false_or] at bad
    split
    · rfl
    · rw [Settings.change_bad bad]
  · rfl

/-- No request takes a field of no form. -/
theorem State.serve_bad (n : ReqName) : s.serve ⟨t, n, fs⟩ = s.answer t n "SYNTAX" [] := by
  have given : ∃ f rest, fs = f :: rest := List.exists_cons_of_ne_nil (List.ne_nil_of_mem bad)
  cases n with
  | move => simp only [State.serve, State.reqMove, readMove_bad bad]
  | seqn => simp only [State.serve, State.reqSeqn, readSeqn_bad bad]
  | calp => simp only [State.serve, State.reqCalp, readCalp_bad bad]
  | beac => exact State.reqBeac_syntax (readBeac_bad bad) s t
  | cntr => exact State.reqCntr_bad bad s t
  | setv => exact State.reqSetv_bad bad s t
  | halt | resm | plan | note | save =>
    obtain ⟨f, rest, rfl⟩ := given
    rfl
  | canc =>
    simp only [State.serve, State.reqCanc]
    split
    case h_3 => rfl
    all_goals simp at bad
  | qrec | getv | link | live | stat =>
    simp only [State.serve, State.reqQrec, State.reqGetv, State.reqLink, State.reqLive, State.reqStat]
    split
    · simp at bad
    · rfl

end

end Sys2Proof.Machine
end

section
/-!
Rejected records (O14): what each step of R178 answers and counts, in the terms of R178, R179, R183 and R184.
-/

namespace Sys2Proof.Machine

/-! ### A record taken at once (R182) -/

section
variable {s : State} {text : List Ch} (free : s.waits = false) (hunting : s.link.asm = .hunting) (short : text.length ≤ 96)
include free hunting short

/-- A record that can be taken at once is judged. -/
theorem exec_rejectedRecord_ready : exec (.rejectedRecord text) s = .next (s.process text) := by
  have long : ¬Config.recordCap < text.length := Nat.not_lt.mpr short
  simp only [exec, execRejectedRecord, State.deliverText, free, Bool.false_eq_true, if_false, if_neg long,
    Link.supplant_hunting hunting]

theorem exec_rejectedRecord_silent (judged : judgeText text = .silent) :
    exec (.rejectedRecord text) s = .next s.raiseTag := by
  rw [exec_rejectedRecord_ready free hunting short, State.process, judged]

theorem exec_rejectedRecord_csum {t : Tag} (judged : judgeText text = .csum t) :
    ∃ u, exec (.rejectedRecord text) s = .next u ∧
      State.answers
        { s with
          link := { s.link with counts := { s.link.counts with checksum := min 65535 (s.link.counts.checksum + 1) } } }
        u t (chars "XXXX") "CSUM" [] := by
  obtain ⟨-, room, -⟩ := State.waits_false free
  rw [exec_rejectedRecord_ready free hunting short, State.process, judged]
  exact ⟨_, rfl, State.place_answers
    (s := { s with
      link := { s.link with counts := { s.link.counts with checksum := min 65535 (s.link.counts.checksum + 1) } } })
    (room.trans (by decide)) t (chars "XXXX") "CSUM" []⟩

theorem exec_rejectedRecord_badName {t : Tag} (judged : judgeText text = .badName t) :
    ∃ u, exec (.rejectedRecord text) s = .next u ∧ s.answers u t (chars "XXXX") "SYNTAX" [] := by
  obtain ⟨-, room, -⟩ := State.waits_false free
  rw [exec_rejectedRecord_ready free hunting short, State.process, judged]
  exact ⟨_, rfl, State.place_answers (room.trans (by decide)) t (chars "XXXX") "SYNTAX" []⟩

theorem exec_rejectedRecord_unknown {t : Tag} {name : List Ch} (judged : judgeText text = .unknown t name) :
    ∃ u, exec (.rejectedRecord text) s = .next u ∧ s.answers u t name "UNKNOWN" [] := by
  obtain ⟨-, room, -⟩ := State.waits_false free
  rw [exec_rejectedRecord_ready free hunting short, State.process, judged]
  exact ⟨_, rfl, State.place_answers (room.trans (by decide)) t name "UNKNOWN" []⟩

theorem exec_rejectedRecord_badField {t : Tag} {n : ReqName} {fs : List Field} {f : List Ch}
    (judged : judgeText text = .request ⟨t, n, fs⟩) (bad : .bad f ∈ fs) :
    ∃ u, exec (.rejectedRecord text) s = .next u ∧ s.replies u t n "SYNTAX" [] := by
  obtain ⟨-, room, -⟩ := State.waits_false free
  rw [exec_rejectedRecord_ready free hunting short, State.process, judged]
  exact ⟨_, congrArg Host.Outcome.next (State.serve_bad bad s t n), State.answer_answers (room.trans (by decide)) t n "SYNTAX" []⟩

end

/-! ### The statement -/

/-- Settles O14: the judgement of the text at each step of R178, and the request with a field of no form by either row. -/
theorem rejectedRecordAnswered : Obligations.RejectedRecordAnswered := by
  unfold Obligations.RejectedRecordAnswered
  refine ⟨fun s body free hunting short => ?_, fun s i r text request ready bad => ?_⟩
  · intro capital digit hex value number word field checked names bare bad gives
    have short : (0x40#8 :: body).length ≤ 96 := short
    refine ⟨fun untagged => ?_, fun x y rest same hx hy => ?_⟩
    · exact exec_rejectedRecord_silent free hunting short (judgeText_silent _ (readTag_none untagged))
    have tag (tail : List Ch) : readTag (x :: y :: tail) = some (BitVec.ofNat 8 (value x y)) := readTag_hex hx hy tail
    refine ⟨fun unchecked => ?_, fun main ok => ?_⟩
    · exact exec_rejectedRecord_csum free hunting short (judgeText_csum _ unchecked (by rw [same, tag]))
    have ok : Checked body main := ok
    obtain ⟨text, rfl⟩ := (same ▸ ok : Checked (x :: y :: rest) main).main_cons hx hy
    have judged := judgeText_checked 0x40#8 ok (tag text)
    have named_iff (name tail : List Ch) : x :: y :: text = x :: y :: (name ++ tail) ↔ text = name ++ tail := by simp
    refine ⟨fun unnamed => ?_, fun name tail ⟨begins, form⟩ => ?_⟩
    · exact exec_rejectedRecord_badName free hunting short (judged.trans (judgeName_badName
        (fun name tail ⟨begins, form⟩ => unnamed name tail ⟨(named_iff name tail).mpr begins, form⟩) _))
    have named : Named text name tail := ⟨(named_iff name tail).mp begins, form⟩
    refine ⟨fun unknown => ?_, fun w mem is before f after split plain ends unformed => ?_⟩
    · exact exec_rejectedRecord_unknown free hunting short (judged.trans (named.unknown unknown _))
    · obtain ⟨n, -, rfl⟩ := List.mem_map.mp (show w ∈ allReqs.map reqWord from mem)
      subst is split
      exact exec_rejectedRecord_badField free hunting short (judged.trans (named.request _))
        (readFields_bad plain ends unformed before)
  · obtain ⟨t, n, fs⟩ := r
    rw [exec_of_request request]
    exact State.serve_replies ready (State.serve_bad bad s t n)

end Sys2Proof.Machine
end

section
/-!
SUPPORT and the statement on the working settings (O7): what closes, endings and admissions leave of them, what each request
leaves of them, and from that every command of the table (R193).
-/

namespace Sys2Proof.Machine

/-! ### The settings through the operations of an event -/

section
variable (s : State)

@[simp] theorem State.conclude_settings : s.conclude.settings = s.settings := s.conclude_follows.settings

@[simp] theorem State.enrol_settings (a : Ask) : (s.enrol a).settings = s.settings := (s.admit_follows a).settings

@[simp] theorem State.enrolSeqn_settings (xs : List (Kind × Option Side × Option Int)) :
    (s.enrolSeqn xs).settings = s.settings := (s.enrolSeqn_follows xs).settings

@[simp] theorem State.endTree_settings (h : Handle) (o : RecOutcome) (why : Option EndReason) :
    (s.endTree h o why).settings = s.settings := (s.endTree_follows h o why).settings

@[simp] theorem State.endEach_settings (hs : List Handle) (o : RecOutcome) (why : Option EndReason) :
    (s.endEach hs o why).settings = s.settings := (s.endEach_follows hs o why).settings

@[simp] theorem State.raiseHalt_settings (c : Cause) : (s.raiseHalt c).settings = s.settings := (s.raiseHalt_polls c).settings

@[simp] theorem State.setHost_settings (ls : List Lamp) (p : Pattern) : (s.setHost ls p).settings = s.settings :=
  (State.updLamps_keeps ls _ s).2.settings

@[simp] theorem State.clearFaults_settings (ls : List Lamp) : (s.clearFaults ls).settings = s.settings :=
  (State.updLamps_keeps ls _ s).2.settings

@[simp] theorem State.decideDerating_settings : s.decideDerating.settings = s.settings := s.decideDerating_follows.settings

@[simp] theorem State.clearCounter_settings (i : Fin 8) : (s.clearCounter i).settings = s.settings := by
  simp [State.clearCounter]

@[simp] theorem State.setUpCounter_settings (i : Fin 8) (f : SetupForm) : (s.setUpCounter i f).settings = s.settings := by
  unfold State.setUpCounter
  refine (State.decideDerating_settings _).trans ?_
  split <;> rfl

@[simp] theorem State.expire_settings (byCount : Bool) : (s.expire byCount).settings = s.settings :=
  (s.expire_follows byCount).settings

@[simp] theorem State.answerEnded_settings (t : Tag) (n : ReqName) (before after : State) :
    (s.answerEnded t n before after).settings = s.settings := s.answer_settings _ _ _ _

end

/-! ### The settings through a request (R194) -/

section
variable (s : State) (t : Tag) (fs : List Field)

theorem State.reqMove_settings : (s.reqMove t fs).settings = s.settings := by
  unfold State.reqMove State.takeMove
  repeat' split
  all_goals simp

theorem State.reqSeqn_settings : (s.reqSeqn t fs).settings = s.settings := by
  unfold State.reqSeqn
  simp only [State.takeSeqn_eq]
  repeat' split
  all_goals simp

theorem State.reqCanc_settings : (s.reqCanc t fs).settings = s.settings := by
  unfold State.reqCanc
  repeat' split
  all_goals simp

theorem State.reqHalt_settings : (s.reqHalt t fs).settings = s.settings := by
  unfold State.reqHalt
  split <;> simp

theorem State.reqResm_settings : (s.reqResm t fs).settings = s.settings := by
  unfold State.reqResm
  repeat' split
  all_goals simp

/-- A `CALP` only waits for its scan, which stores the pair (R124, R125). -/
theorem State.reqCalp_settings : (s.reqCalp t fs).settings = s.settings := by
  unfold State.reqCalp
  repeat' split
  all_goals rfl

theorem State.reqBeac_settings : (s.reqBeac t fs).settings = s.settings := by
  unfold State.reqBeac
  split <;> simp

theorem State.reqCounter_settings (clear : Bool) (n : Int) : (s.reqCounter t clear n).settings = s.settings := by
  unfold State.reqCounter
  repeat' split
  all_goals simp

theorem State.reqSetup_settings : (s.reqSetup t fs).settings = s.settings := by
  unfold State.reqSetup
  split
  · exact s.answer_settings _ _ _ _
  · split
    · exact s.answer_settings _ _ _ _
    · split
      · split
        · exact (State.answer_settings _ _ _ _ _).trans (s.setUpCounter_settings _ _)
        · exact s.answer_settings _ _ _ _
      · exact s.answer_settings _ _ _ _

theorem State.reqCntr_settings : (s.reqCntr t fs).settings = s.settings := by
  unfold State.reqCntr
  split
  · exact s.reqCounter_settings t _ _
  · exact s.reqCounter_settings t _ _
  · exact s.reqSetup_settings t _
  all_goals simp

theorem State.reqNote_settings : (s.reqNote t fs).settings = s.settings := by
  unfold State.reqNote
  split <;> rfl

theorem State.reqSave_settings : (s.reqSave t fs).settings = s.settings := by
  unfold State.reqSave
  repeat' split
  all_goals simp

theorem State.reqLink_settings : (s.reqLink t fs).settings = s.settings := by
  unfold State.reqLink
  repeat' split
  all_goals simp

theorem State.takeLive_settings (n : Nat) : (s.takeLive t n).settings = s.settings := by
  unfold State.takeLive
  dsimp only
  repeat' split
  all_goals simp

theorem State.reqLive_settings : (s.reqLive t fs).settings = s.settings := by
  unfold State.reqLive
  repeat' split
  · exact s.takeLive_settings t _
  all_goals simp

end

/-- Of the requests `SETV` alone stores a setting in its own event (R194). -/
theorem State.serve_settings (s : State) {r : Request} (other : r.name ≠ .setv) : (s.serve r).settings = s.settings := by
  have query {n : ReqName} {u : State} (e : ∃ w xs, u = s.answer r.tag n w xs) : u.settings = s.settings := by
    obtain ⟨w, xs, rfl⟩ := e
    exact s.answer_settings _ _ _ _
  unfold State.serve
  cases name : r.name with
  | move => exact s.reqMove_settings _ _
  | seqn => exact s.reqSeqn_settings _ _
  | canc => exact s.reqCanc_settings _ _
  | halt => exact s.reqHalt_settings _ _
  | resm => exact s.reqResm_settings _ _
  | qrec => exact query (s.reqQrec_answers _ _)
  | plan => exact query (s.reqPlan_answers _ _)
  | calp => exact s.reqCalp_settings _ _
  | beac => exact s.reqBeac_settings _ _
  | cntr => exact s.reqCntr_settings _ _
  | note => exact s.reqNote_settings _ _
  | getv => exact query (s.reqGetv_answers _ _)
  | setv => exact absurd name other
  | save => exact s.reqSave_settings _ _
  | link => exact s.reqLink_settings _ _
  | live => exact s.reqLive_settings _ _
  | stat => exact query (s.reqStat_answers _ _)

theorem State.deliver_settings (s : State) {r : Request} (other : r.name ≠ .setv) : (s.deliver r).settings = s.settings := by
  unfold State.deliver
  dsimp only
  split
  · exact s.receiveAll_settings _
  · split
    · rfl
    · exact State.serve_settings _ other

theorem exec_request_settings {s u : State} {r : Request} (e : (.next (s.deliver r) : Answer) = .next u)
    (other : r.name ≠ .setv) : u.settings = s.settings := by
  cases e
  exact s.deliver_settings other

/-! ### The statement -/

/-- Settles O7, command by command: a request keeps the settings by `State.serve_settings`, and each other command by the
lemma of its block. -/
theorem fewEventsChangeSettings : Obligations.FewEventsChangeSettings := by
  intro s u c e
  cases c with
  | powerOnReset | resetPin | imageReadEnd | setv | calpCompletion | scanResult | transmitCharacterSent | characterReceived
  | rejectedRecord => exact trivial
  | haltCharacter => exact (exec_haltCharacter_lineMoves e).settings
  | lineBreak => exact (exec_lineBreak_lineMoves e).settings
  | supervisionTimerExpiry => exact (exec_supervisionTimerExpiry_lineMoves e).settings
  | waitLimitExpiry => exact (exec_waitLimitExpiry_moves e).follows.settings
  | leadTimeExpiry => exact (exec_leadTimeExpiry_moves e).follows.settings
  | holdTimerExpiry => exact (exec_holdTimerExpiry_moves e).follows.settings
  | inputCountedChange => exact (exec_inputCountedChange_pinMoves e).samples.settings
  | estopActive => exact (exec_estopActive_pinMoves e).samples.settings
  | estopReleaseCounted => exact (exec_estopReleaseCounted_pinMoves e).samples.settings
  | speedComputation => exact (exec_speedComputation_pinMoves e).samples.settings
  | contactorMade => exact (exec_contactorMade_pinMoves e).samples.settings
  | contactorMakeTimeout => exact (exec_contactorMakeTimeout_moves e).follows.settings
  | contactorDropout => exact (exec_contactorDropout_moves e).follows.settings
  | weldedContactor => exact (exec_weldedContactor_pinMoves e).samples.settings
  | pumpRestPassed => exact (exec_pumpRestPassed_moves e).follows.settings
  | pumpOvercurrent => exact (exec_pumpOvercurrent_moves e).follows.settings
  | supplyStateChange => exact (exec_supplyStateChange_pinMoves e).samples.settings
  | settleTimerExpiry => exact (exec_settleTimerExpiry_moves e).follows.settings
  | stall => exact (exec_stall_moves e).follows.settings
  | runLimitTimeout => exact (exec_runLimitTimeout_moves e).follows.settings
  | groundTimeExpiry => exact (exec_groundTimeExpiry_moves e).follows.settings
  | overload => exact (exec_overload_moves e).follows.settings
  | unlatchWindowExpiry => exact (exec_unlatchWindowExpiry_moves e).follows.settings
  | doortimeExpiry => exact (exec_doortimeExpiry_swings e).follows.1.settings
  | pullinWindowExpiry => exact (exec_pullinWindowExpiry_swings e).follows.1.settings
  | obstruction => exact (exec_obstruction_swings e).follows.1.settings
  | reverseEnd => exact (exec_reverseEnd_swings e).follows.1.settings
  | pollCycleStart => exact (exec_pollCycleStart_busMoves e).polls.settings
  | pollAbort => exact (exec_pollAbort_busMoves e).polls.settings
  | replyReceived => exact (exec_replyReceived_busMoves e).polls.settings
  | replyWindowClose => exact (exec_replyWindowClose_busMoves e).polls.settings
  | resetTimerExpiry => exact (exec_resetTimerExpiry_busMoves e).polls.settings
  | patternSlot => exact (exec_patternSlot_moves e).follows.settings
  | lampCheck => exact (exec_lampCheck_moves e).follows.settings
  | readbackMismatch => exact (exec_readbackMismatch_moves e).follows.settings
  | rearTrailExpiry => exact (exec_rearTrailExpiry_moves e).follows.settings
  | sideTrailExpiry => exact (exec_sideTrailExpiry_moves e).follows.settings
  | durationCount => exact (exec_durationCount_moves e).follows.settings
  | saveEnd => exact (exec_saveEnd_saves e).settings
  | roadSpeedEdge => exact (exec_roadSpeedEdge_pinMoves e).samples.settings
  | inputRawChange => exact (exec_inputRawChange_pinMoves e).samples.settings
  | _ => exact exec_request_settings e nofun

end Sys2Proof.Machine
end

section
/-!
SUPPORT and the statement on `NOTE` (O33): what the notice queue gives up and reports, and the fields of each kind of notice,
in the terms of R190 to R192.
-/

namespace Sys2Proof.Machine

/-! ### The fields of a notice (R190) -/

theorem noticeFields_ended (h : Handle) (k : Kind) (o : RecOutcome) (why : Option EndReason) (p : Pos) :
    noticeFields (.ended h k o why p) =
      [.word "ENDED", .num h, .word k.word, .word o.word, .word (match why with | some w => w.word | none => "NONE"),
        match p with | .value n => .num n | .door d => .word d.word] := by
  cases why <;> cases p <;> rfl

/-! ### The oldest notice (R191, R192) -/

section
variable {q : NoticeQueue}

theorem NoticeQueue.take_cons {n : Notice} {rest : List Notice} (holds : q.entries = n :: rest) :
    q.take = { entries := rest, lost := 0, attn := !rest.isEmpty } := by
  simp [NoticeQueue.take, holds]

theorem NoticeQueue.take_nil (empty : q.entries = []) : q.take = { entries := [], lost := 0, attn := false } := by
  simp [NoticeQueue.take, empty]

theorem NoticeQueue.report_cons {n : Notice} {rest : List Notice} (holds : q.entries = n :: rest) :
    q.report = noticeFields n ++ ([.wnum "LOST" q.lost, .wnum "LEFT" rest.length] : List Field) := by
  simp [NoticeQueue.report, holds]

theorem NoticeQueue.report_nil (empty : q.entries = []) : q.report = [.word "NONE", .wnum "LOST" q.lost, .wnum "LEFT" 0] := by
  simp [NoticeQueue.report, empty]

end

/-- A `NOTE` taken at once: the queue gives up its oldest notice and the reply is its report (R192). -/
theorem exec_note_replies {s : State} {t : Tag} (ready : s.ready ⟨t, .note, []⟩) :
    ∃ u, exec (.note t []) s = .next u ∧ { s with notes := s.notes.take }.replies u t .note "OK" s.notes.report :=
  State.serve_replies_after ready rfl rfl

/-! ### The statement -/

/-- Settles O33: the table of notices kind by kind, and the request by whether the queue holds a notice. -/
theorem noteTakesOldest : Obligations.NoteTakesOldest := by
  refine ⟨⟨noticeFields_ended, fun _ _ => rfl, fun _ => rfl, rfl, fun _ _ _ => rfl, fun _ => ⟨rfl, rfl⟩, fun _ _ => rfl,
    fun _ _ _ => rfl, fun _ _ _ => rfl, fun _ _ _ => rfl, fun _ _ _ _ => rfl, fun _ _ => ⟨rfl, rfl⟩, rfl, rfl, rfl, rfl,
    rfl, rfl⟩, fun s t ready => ⟨fun n rest holds => ?_, fun empty => ?_⟩⟩
  · rw [← NoticeQueue.take_cons holds, ← NoticeQueue.report_cons holds]
    exact exec_note_replies ready
  · rw [← NoticeQueue.take_nil empty, ← NoticeQueue.report_nil empty]
    exact exec_note_replies ready

end Sys2Proof.Machine
end

section
/-!
SUPPORT and the statements on the settings store (O35, O36): the request that starts a save, and the end of a save, in the
terms of R196 to R198.
-/

namespace Sys2Proof.Machine

/-! ### The request (R197) -/

theorem State.reqSave_busy {s : State} (saving : s.store.save.isSome = true) (t : Tag) :
    s.reqSave t [] = s.answer t .save "BUSY" [] := if_pos saving

theorem State.reqSave_starts {s : State} (idle : s.store.save = none) (t : Tag) :
    s.reqSave t [] = s.startSave.answer t .save "OK" [] := by
  simp [State.reqSave, idle]

/-! ### The end of a save (R196, R198) -/

/-- With no save due the image is the snapshot, with a check word that matches (R196). -/
theorem State.endSave_store {s : State} (x : Save) (quiet : s.store.due = false) :
    (s.endSave x).store = { image := ⟨true, x.settings, x.counters⟩, save := none, due := false } := by
  simp [State.endSave, quiet]

/-- A due save starts with the snapshot of the moment, and the image written just before is invalid until it ends (R196,
R198). -/
theorem State.endSave_store_due {s : State} (x : Save) (due : s.store.due = true) :
    (s.endSave x).store =
      { image := ⟨false, x.settings, x.counters⟩, save := some ⟨s.settings, s.cnt.recs, s.now + 400⟩, due := false } := by
  simp [State.endSave, due, State.startSave, Config.saveMs]

theorem exec_saveEnd_due {s : State} {w : Save} (saving : s.store.save = some w) :
    exec .saveEnd s = .next ((s.passTo w.endsAt).endSave w) := by
  simp [exec, execSaveEnd, saving]

/-! ### The statements -/

/-- Settles O35, by whether a save is in progress. -/
theorem saveStarts : Obligations.SaveStarts := by
  intro s t ready
  refine ⟨fun saving => ?_, fun idle => ?_⟩
  · exact State.serve_replies ready (State.reqSave_busy saving t)
  · exact State.serve_replies_after (x := s.startSave) ready (State.reqSave_starts idle t) rfl

/-- Settles O36: time passes to the end of the save, which leaves the store as it was, and then the save ends by whether
another is due. -/
theorem saveEnds : Obligations.SaveEnds := by
  intro s w saving
  have passed : (s.passTo w.endsAt).store = s.store := (s.passTo_follows _).store
  have same := (s.passTo w.endsAt).endSave_same w
  have row := exec_saveEnd_due saving
  refine ⟨_, row, ?_, (exec_saveEnd_saves row).settings, fun quiet => ?_, fun due => ?_⟩
  · rw [same]
    exact s.passTo_now _
  · exact State.endSave_store w (by rw [passed, quiet])
  · have store := State.endSave_store_due w (s := s.passTo w.endsAt) (by rw [passed, due])
    rw [same]
    exact store

end Sys2Proof.Machine
end
